-- ==== Sys2Proof/Word.lean ====
section
/-! DEFINITION. The word types of the TG940: the bytes of management messages, the 16-bit words of
highway and carrier formats, and the 16-byte block of tributary payload. -/

namespace Sys2Proof

/-- One byte of a management message. -/
abbrev Byte := BitVec 8

/-- One 16-bit word of a highway or carrier format. -/
abbrev Word := BitVec 16

/-- One block: 16 bytes of tributary payload, or a replacement block, which carries no tributary
content and is recognisable as such (R111). -/
inductive Block where
  | tributary (bytes : BitVec 128)
  | replacement
  deriving DecidableEq, Repr

/-- A padding block: 16 zero bytes (R191, Tile-group header). -/
def Block.padding : Block := .tributary 0

end Sys2Proof
end

