-- ==== Sys2Proof/Syntax.lean ====
section
/-! DEFINITION. The commands and events of the engine: one constructor of `Instr` for each row of
spec/opcode_table.json, with the operands the outside world brings with it.

Three kinds of row. (1) A management request (`Transfer`): the bytes of one transfer on the management port.
(2) An event of the outside world or of the frame clock: a pin edge, a frame marker, a header, a burst, a boundary.
(3) A threshold row (SPAN_END, RELEASE_COUNT_EXPIRY, WTR_EXPIRY, STAGGER_EXPIRY, CLAIM_ROUND_END, JOIN,
TRACKING_MOVE, STALE_MANIFEST_CLEAR, MISSED_MARKER_LIMIT, CARRIER_SYNC_ENTRY, CARRIER_SYNC_LOSS, REF_QUALIFIED,
REF_DISQUALIFIED): a step the engine takes itself when a count reaches its limit (assumption 2). -/

namespace Sys2Proof

/-- One management transfer that carries a complete request (R178, R179): the parameter bytes (their number is L),
the check byte, and the bytes beyond byte L + 3. `spoiled` is present when the transfer began in COLD, or a cold start
began during it, so that it is discarded whole (R178); it holds the whole bytes that the transfer had carried when the cold
start that emptied the response slot began, 0 where the transfer began after that. -/
structure Transfer where
  params : List Byte
  check : Byte
  extra : List Byte
  spoiled : Option Nat
  deriving DecidableEq, Repr

/-- Readings of the strap pins at the end of a cold start (R169): 0 ground, 1 open, 2 supply; REFU 0 or 1. -/
structure Straps where
  sna : Fin 3
  snb : Fin 3
  stg : Fin 3
  refu : Fin 2
  deriving DecidableEq, Repr

/-- One tile of a lane frame or carrier frame: the three words of its header position and its payload space, of
which the blocks not listed are padding (R191). -/
structure Tile where
  w0 : Word
  w1 : Word
  w2 : Word
  payload : List Block
  deriving DecidableEq, Repr

/-- A lane frame: the 29 header words and the tiles from tile 0 on. A tile beyond the list was not sent (R23). -/
structure LaneFrame where
  words : List Word
  tiles : List Tile
  deriving DecidableEq, Repr

/-- A carrier frame: its header word, its tiles from tile 0 on, and the frame check. -/
structure CarrierFrame where
  header : Word
  tiles : List Tile
  check : Word
  deriving DecidableEq, Repr

/-- A far-end frame as it ends. `behind`: the marker of the next far-end frame, which falls at the same moment, has been
taken already (R154). -/
structure EndedFrame extends CarrierFrame where
  behind : Bool
  deriving DecidableEq, Repr

/-- The works that the blocks take at an own round start, each whole (R68, R44, R147 to R152, R142, R161, R173 with
R174, R87). `claim` is the third lighting step alone, left over when the first two have been taken (R151). -/
inductive RoundWork where
  | pass
  | snapshot
  | wtr
  | timing
  | join
  | lighting
  | claim
  | degraded
  deriving DecidableEq, Repr

/-- How a lane round ends at the station that hears it: by a received header with its frame's tiles, or at the check
instant of an unheard window (R51, R52). -/
inductive RoundEnd where
  | header (words : List Word) (tiles : List Tile)
  | unheard
  deriving DecidableEq, Repr

/-- The commands and events of the engine. An operand `t` is the reading of the own tile-time counter at the event. -/
inductive Instr where
  | nop (x : Transfer)
  | placeSource (x : Transfer)
  | placeSink (x : Transfer)
  | remove (x : Transfer)
  | restate (x : Transfer)
  | light (x : Transfer)
  | darken (x : Transfer)
  | readOrder (x : Transfer)
  | readChanges (x : Transfer)
  | readLane (x : Transfer)
  | readCarrier (x : Transfer)
  | readStation (x : Transfer)
  | setAttention (x : Transfer)
  | restartEngine (x : Transfer)
  | undefinedCommandCode (code : Byte) (x : Transfer)
  | transferIncomplete (bytes : List Byte) (spoiled : Option Nat)
  | powerUp
  | resetAsserted
  | coldStartEnd (straps : Straps)
  | holdAsserted
  | holdReleased
  | clientIngressBurst (port : Fin 32) (blocks : List Block)
  /-- `leave`: works of the round start in progress that are not yet taken when the boundary's own work is done; a `pass`
  named there is taken after the departures of the boundary and before its frame (R76). `leaveSpans`: adapters whose span
  end is left to a SPAN_END of its own, or to the REMOVE of their order or their next departure. Both may be empty. -/
  | ownFrameStart (leave : List RoundWork) (leaveSpans : List (Fin 96))
  | clientSinkDeparture (leaveSpans : List (Fin 96))
  | spanEnd (n : Fin 96)
  /-- `order`: the works taken at once, in this order, before frame 0 begins. -/
  | ownRoundStart (order : List RoundWork)
  | releaseCountExpiry (tag : Nat)
  | wtrExpiry (tag : Nat)
  | staggerExpiry (port : Fin 4)
  | claimRoundEnd (port : Fin 4)
  | join
  | laneMarkerArrival (lane : Fin 9) (t : Nat)
  | trackingMove (lane : Fin 9) (t : Nat)
  | laneHeaderReceived (lane : Fin 9) (words : List Word) (tiles : List Tile)
  | staleManifestClear (lane : Fin 9) (cause : RoundEnd)
  | markerWindowCheck (lane : Fin 9)
  | missedMarkerLimit (lane : Fin 9)
  | carrierMarkerArrival (port : Fin 4) (t : Nat)
  | carrierSyncEntry (port : Fin 4) (t : Nat)
  | carrierWindowClose (port : Fin 4)
  | carrierSyncLoss (port : Fin 4)
  | farEndFrameEnd (port : Fin 4) (frame : EndedFrame)
  | refPulse (t : Nat)
  | refQualified (t : Nat)
  | refWindowClose
  | refDisqualified
  deriving DecidableEq, Repr

end Sys2Proof
end

