-- ==== Sys2Proof/Decode.lean ====
section
/-! DEFINITION. The command that a word of the opcode table spells. No row of spec/opcode_table.json gives a bit: the
commands are events and management requests, whose byte layouts are in Machine/Formats.lean. -/

namespace Sys2Proof

/-- The command a table word spells: none, since no row of the table has a fixed bit or a field. -/
def decodeTableWord (_nbits _w : Nat) : Option Instr := none

end Sys2Proof
end

