-- ==== Sys2Proof/Config.lean ====
section
/-! DEFINITION. The constants of the part that the rules name more than once, and the free values: two
constants without a body for what the spec leaves open. -/

namespace Sys2Proof.Config

/-- Nominal own frame and carrier frame, in tile-times (R23, R156). -/
abbrev nominalFrame : Nat := 168

/-- Frames of a round (R23). -/
abbrev roundFrames : Nat := 16

/-- Most blocks a class-1 tile carries in one frame (R2, R26). -/
abbrev tileBlocks : Nat := 2500

/-- Store reservation of a class-1 adapter, in blocks (R2, R11). -/
abbrev storePerClass : Nat := 4096

/-- Store memory of the pool, in blocks (R11, R102). -/
abbrev storeMemory : Nat := 327680

/-- Records in each of the two order tables (check 5 of R9). -/
abbrev tableSize : Nat := 64

/-- The largest circuit tag (R1). -/
abbrev maxTag : Nat := 1048575

/-- FREE VALUE (assumption 4): the order in which one Peer View notice or one round-start event takes the
sources it evaluates. The spec gives none; sources are taken in rising rank, and the rank may differ at
every value of the queue entry counter. -/
opaque evalRank : Nat → Nat → Nat

/-- FREE VALUE (assumption 5): the tile-times from the place of the tile before tile `t` of a carrier frame to its own; for
tile 0, from the beginning of the frame. The spec uses the places for a shortened frame (R137) and does not state them. -/
opaque carrierTileStep : Nat → Nat

/-- The tile-time of its own frame at which tile `t` of a carrier frame falls. Tiles 0–39 follow one another in rising order
(R137, Carrier frame of file 12), so a later tile never falls before an earlier one. -/
def carrierTilePlace : Nat → Nat
  | 0 => carrierTileStep 0
  | t + 1 => carrierTilePlace t + carrierTileStep (t + 1)

end Sys2Proof.Config
end

