-- ==== Sys2Proof/Machine/State.lean ====
section
/-! DEFINITION. Everything the spec gives the engine to remember, as plain data, block by block; the machine right
after reset (COLD, power-up in progress); and the outcomes' reason types. -/

namespace Sys2Proof.Machine

/-! ### Enumerations (R191) -/

inductive Quality where
  | good
  | degraded
  | failed
  deriving DecidableEq, Repr

inductive Mark where
  | vacant
  | good
  | degraded
  | failed
  deriving DecidableEq, Repr

inductive Standing where
  | primary
  | standby
  deriving DecidableEq, Repr

inductive FailedAction where
  | withdraw
  | mark
  | fill
  deriving DecidableEq, Repr

inductive Direction where
  | source
  | sink
  deriving DecidableEq, Repr

inductive SourceState where
  | dormant
  | queued
  | offered
  | retiring
  deriving DecidableEq, Repr

inductive StationState where
  | cold
  | listen
  | joined
  deriving DecidableEq, Repr

inductive RestartCause where
  | power
  | pin
  | engine
  deriving DecidableEq, Repr

inductive RxState where
  | absent
  | aligning
  | aligned
  | lost
  deriving DecidableEq, Repr

inductive PortState where
  | dark
  | waiting
  | claiming
  | lighting
  | lit
  deriving DecidableEq, Repr

inductive FramerState where
  | hunt
  | confirm
  | sync
  deriving DecidableEq, Repr

inductive RefState where
  | idle
  | counting
  | qualified
  deriving DecidableEq, Repr

inductive AdapterKind where
  | clientSource
  | carrierSource
  | clientSink
  deriving DecidableEq, Repr

/-- The lighting announcement of a lane header (R148). -/
inductive Announcement where
  | none
  | intent
  | lighting
  deriving DecidableEq, Repr

/-- What the own frame follows (R155); it is also the timing source of the header (R162). -/
inductive TimeSource where
  | ref
  | lane (n : Fin 9)
  | free
  deriving DecidableEq, Repr

/-- The status byte of a response (R191). -/
inductive Status where
  | done
  | form
  | check
  | range
  | tagExists
  | tagUnknown
  | tableFull
  | noAdapter
  | noStore
  | portBusy
  | tileConflict
  deriving DecidableEq, Repr

/-! ### Orders (R5 to R8) -/

/-- Where an order is bound: a client port, or a carrier port with its first tile (R5, R7). -/
inductive Binding where
  | client (port : Fin 32)
  | carrier (port : Fin 4) (first : Nat)
  deriving DecidableEq, Repr

/-- The ingress status of a carrier-ingress source (R120, R124); absent for a client source. -/
inductive IngressStatus where
  | absent
  | passed (mark : Quality)
  | refused
  deriving DecidableEq, Repr

/-- A source order (R5, R6, R120). Quality is derived and not stored. -/
structure Source where
  tag : Nat
  cls : Nat
  binding : Binding
  rnom : Nat
  k : Nat
  threshold : Nat
  action : FailedAction
  priority : Nat
  standing : Standing
  adapter : Option (Fin 96)
  removed : Bool
  state : SourceState
  firstTile : Option Nat
  releaseCount : Nat
  entryNo : Option Nat
  passedOver : Nat
  blocked : Bool
  omitted : Bool
  mismatch : Bool
  faultCount : Nat
  latch : Bool
  ingress : IngressStatus
  deriving DecidableEq, Repr

/-- The selection record of a sink order (R77). -/
structure Selection where
  lane : Fin 9
  first : Nat
  standing : Standing
  quality : Quality
  deriving DecidableEq, Repr

/-- A sink order (R7, R8, R120). It is SELECTED exactly while it has a selection, and WANTING otherwise (R8). `rnom`,
`k`, `adapter` are present in a client sink only, and a carrier sink's fault count is unused. -/
structure Sink where
  tag : Nat
  cls : Nat
  binding : Binding
  rnom : Option Nat
  k : Option Nat
  w : Nat
  adapter : Option (Fin 96)
  sel : Option Selection
  wtr : Nat
  switches : Nat
  slips : Nat
  mismatch : Bool
  faultCount : Nat
  delivered : Quality
  deriving DecidableEq, Repr

/-- The detections of a span (R112). -/
structure Detections where
  rate : Bool
  overflow : Bool
  dry : Bool
  silent : Bool
  deriving DecidableEq, Repr

/-- What a span that has ended brings to its span end: its arrival sum M and its detections (R112). -/
structure EndedSpan where
  arrived : Nat
  dets : Detections
  deriving DecidableEq, Repr

/-- An allocated rate-adapter record (R99). The depth D is the number of blocks in the elastic store; the constants of
R100 are functions of the class and Rnom. `ended` is the model's own field: the span that the latest departure has ended
while its span end has not been taken, absent at all other times (assumption 3). -/
structure Adapter where
  kind : AdapterKind
  tag : Nat
  cls : Nat
  rnom : Nat
  k : Nat
  running : Bool
  store : List Block
  rate : Nat
  phase : Nat
  spanCount : Nat
  arrived : Nat
  dets : Detections
  ended : Option EndedSpan
  last : Option (Nat × Detections)
  deriving DecidableEq, Repr

/-- The Order Store with its binding maps (R3, R4), the Placement Unit's tile map, queue and counter (R63) and the
Rate Adapter Pool (R102). A map position holds the tag of its order, or `none` when free. -/
structure OrderStore where
  sources : List Source
  sinks : List Sink
  clientIn : Vector (Option Nat) 32
  clientEgr : Vector (Option Nat) 32
  carrierIn : Vector (Vector (Option Nat) 40) 4
  carrierEgr : Vector (Vector (Option Nat) 40) 4
  tileMap : Vector (Option Nat) 160
  queue : List Nat
  queueCounter : Nat
  pool : Vector (Option Adapter) 96
  freeStore : Nat
  deriving DecidableEq, Repr

/-! ### Highway (R23 to R29, R49) -/

/-- A manifest entry (R45, R46). -/
inductive Entry where
  | offer (tag cls first : Nat) (quality : Quality) (standing : Standing)
  | want (tag cls : Nat)
  deriving DecidableEq, Repr

/-- The three words of one manifest slot as received (R191). -/
structure Slot where
  a : Word
  b : Word
  c : Word
  deriving DecidableEq, Repr

/-- The last good header received on a lane, without its fragment (R29). Codes are kept as received. -/
structure Heard where
  station : Nat
  epoch : Nat
  joined : Bool
  round : Nat
  frag : Nat
  level : Nat
  source : Nat
  light : Nat
  count : Nat
  deriving DecidableEq, Repr

/-- A Lane Receiver (R29) with its alignment buffer (R41).

`windows` lists the frames by marker window, the open window first; an entry is absent while no marker has arrived in
its window. `openWindow` is the number of the open window less that of the own frame in progress, `slot` the place in
`windows` of the frame whose marker came last, and `windowMarker`, `windowHeader` say what the open window has heard
(R31, R50). These five are implied by the rules, which name no field for them. -/
structure LaneRx where
  state : RxState
  capture : Option Int
  candidate : Option Int
  matchCount : Nat
  held : Option Int
  trackMinus : Bool
  trackCount : Nat
  drift : Nat
  missed : Nat
  skewRange : Bool
  misplug : Bool
  heard : Option Heard
  headerErrors : Nat
  alignments : Nat
  windows : List (Option (List Tile))
  openWindow : Int
  slot : Nat
  windowMarker : Bool
  windowHeader : Bool
  deriving DecidableEq, Repr

/-- A complete manifest with the round it was sent in (R49). -/
structure Manifest where
  round : Nat
  entries : List Entry
  deriving DecidableEq, Repr

/-- The lane round being gathered (R49): fragments received, each with its index. -/
structure Assembly where
  round : Nat
  count : Nat
  frags : List (Nat × List Slot)
  broken : Bool
  deriving DecidableEq, Repr

/-- The Peer View's record of one lane (R49). -/
structure LaneView where
  manifest : Option Manifest
  stale : Nat
  nextIndex : Option Nat
  assembly : Option Assembly
  arrivals : Nat
  incompletes : Nat
  deriving DecidableEq, Repr

/-- The Lane Transmitter's frame count and snapshot (R23, R25), the own tile-time counter as the last event read it
(R30), the lengths of the own frame in progress and of the one that ended last (R156), and the round start in progress:
`boundary` is set from the own round start until its frame 0 begins, `due` lists the works of the round start that are not
yet taken. -/
structure Transmitter where
  roundNo : Nat
  frame : Nat
  frameLen : Nat
  lastLen : Nat
  tileTime : Nat
  snapshot : List Entry
  boundary : Bool
  due : List RoundWork
  deriving DecidableEq, Repr

/-! ### Timing (R155) -/

/-- The Timing Unit's record of one peer lane. -/
structure LaneTiming where
  alignedRounds : Nat
  wholeRound : Bool
  qualified : Bool
  deriving DecidableEq, Repr

/-- The Timing Unit. The REF expected instant is in tile-times after the boundary of the own frame in progress;
`phaseDue` records a change of selection to REF or a lane until the next own frame begins (R165). -/
structure TimingUnit where
  selected : TimeSource
  level : Nat
  holdover : Bool
  age : Nat
  changed : Bool
  refState : RefState
  refRun : Nat
  refMissing : Nat
  refExpected : Option Int
  refPos : Option Int
  phaseDue : Bool
  lanes : Vector LaneTiming 9
  deriving DecidableEq, Repr

/-! ### Carriers (R136, R147) -/

/-- A carrier port (R136). The expected instant is in tile-times after the boundary of the own frame in progress;
`receiving` says that a marker taken in SYNC has begun a far-end frame that has not ended (R144), and `receivingOld` that
the frame before it had not ended when that marker was taken (R154). -/
structure CarrierPort where
  state : PortState
  stagger : Option Nat
  framer : FramerState
  expected : Option Int
  confirm : Option Nat
  missing : Nat
  roundErrors : Nat
  degraded : Bool
  errorTotal : Nat
  farEnd : Option (Nat × Nat)
  receiving : Bool
  receivingOld : Bool
  deriving DecidableEq, Repr

/-- The carrier ports and the Lighting Coordinator's two sets of busy stations (R147). -/
structure Carriers where
  ports : Vector CarrierPort 4
  current : Vector Bool 9
  previous : Vector Bool 9
  deriving DecidableEq, Repr

/-! ### Station, reports, management port, pins (R168, R178, R183, R187) -/

structure Station where
  state : StationState
  number : Fin 9
  staggerSetting : Nat
  refUse : Bool
  epoch : Nat
  cause : RestartCause
  listenRounds : Nat
  wholeRound : Bool
  deriving DecidableEq, Repr

/-- A reportable item: the snapshot of its reportable fields, and its change flag (R183). -/
structure Item (α : Type) where
  snap : α
  flag : Bool
  deriving DecidableEq, Repr

structure SourceReport where
  state : SourceState
  quality : Quality
  latch : Bool
  blocked : Bool
  mismatch : Bool
  deriving DecidableEq, Repr

/-- The sink's state is its selected lane's presence (R8, R183). -/
structure SinkReport where
  lane : Option (Fin 9)
  selQuality : Option Quality
  output : Quality
  mismatch : Bool
  deriving DecidableEq, Repr

structure LaneReport where
  state : RxState
  epoch : Option Nat
  skewRange : Bool
  misplug : Bool
  deriving DecidableEq, Repr

structure PortReport where
  state : PortState
  framer : FramerState
  degraded : Bool
  farEnd : Option (Nat × Nat)
  deriving DecidableEq, Repr

/-- The timing source is the selected source under another name (R162), so one field stands for both. -/
structure StationReport where
  state : StationState
  source : TimeSource
  level : Nat
  holdover : Bool
  light : Announcement
  hold : Bool
  deriving DecidableEq, Repr

/-- The attention category mask (R187). -/
structure AttentionMask where
  order : Bool
  lane : Bool
  carrier : Bool
  station : Bool
  deriving DecidableEq, Repr

/-- The Report Unit (R183, R187) and the ATTN line. Order items are listed by tag. -/
structure ReportUnit where
  sources : List (Nat × Item SourceReport)
  sinks : List (Nat × Item SinkReport)
  lanes : Vector (Item LaneReport) 9
  ports : Vector (Item PortReport) 4
  station : Item StationReport
  mask : AttentionMask
  enable : Bool
  attn : Bool
  deriving DecidableEq, Repr

/-- The management port (R178, R181): the bytes of the pending response slot, none when it is empty; the bytes that MSO
shifted out in the transfer that ended last; and `emptied`, what the slot held when a cold start last emptied it, the model's
own field for a transfer that COLD cuts (assumption 10). -/
structure ManagementPort where
  slot : List Byte
  mso : List Byte
  emptied : List Byte
  deriving DecidableEq, Repr

/-- What a client port's egress sends (R3, R111, R170): nothing in COLD; replacement blocks at the port's own line
timing on a free position; the blocks of the bound sink's latest departure; the blocks of a sink whose order has been
removed in the own frame in progress, which go no further than that frame (R20, R22). -/
inductive ClientEgress where
  | off
  | free
  | departure (blocks : List Block)
  | removed (blocks : List Block)
  deriving DecidableEq, Repr

/-- The level of the HOLD input, and the frames the outputs carry in the own frame in progress. A carrier output is
absent while nothing is sent (R139), the lane output in COLD (R23). -/
structure Pins where
  hold : Bool
  laneOut : Option LaneFrame
  carrierOut : Vector (Option CarrierFrame) 4
  clientOut : Vector ClientEgress 32
  deriving DecidableEq, Repr

/-- The engine. `pending` is the queue of commands and events that wait to be taken, first in, first out. -/
structure State where
  pending : List Instr
  station : Station
  store : OrderStore
  tx : Transmitter
  lanes : Vector LaneRx 9
  view : Vector LaneView 9
  timing : TimingUnit
  carriers : Carriers
  report : ReportUnit
  mport : ManagementPort
  pins : Pins
  deriving DecidableEq, Repr

/-- No command of this engine ends in a fault: every row of the table has an effect the spec gives. -/
inductive Fault where
  deriving DecidableEq, Repr

/-- Why a command is refused. -/
inductive Refusal where
  /-- Raised by `exec` alone, for a row that has no meaning yet; safe. No arm raises it now. -/
  | notModelled (mnemonic : String)
  deriving DecidableEq, Repr

/-! ### The values of a cold start -/

/-- R22, R63, R102: no order, every position free, every adapter free. -/
def OrderStore.empty : OrderStore where
  sources := []
  sinks := []
  clientIn := Vector.replicate 32 none
  clientEgr := Vector.replicate 32 none
  carrierIn := Vector.replicate 4 (Vector.replicate 40 none)
  carrierEgr := Vector.replicate 4 (Vector.replicate 40 none)
  tileMap := Vector.replicate 160 none
  queue := []
  queueCounter := 0
  pool := Vector.replicate 96 none
  freeStore := Config.storeMemory

/-- R43. Of the tracking side, which R43 does not give, the model's choice is + (assumption 1). -/
def LaneRx.cold : LaneRx where
  state := .absent
  capture := none
  candidate := none
  matchCount := 0
  held := none
  trackMinus := false
  trackCount := 0
  drift := 0
  missed := 0
  skewRange := false
  misplug := false
  heard := none
  headerErrors := 0
  alignments := 0
  windows := []
  openWindow := 0
  slot := 0
  windowMarker := false
  windowHeader := false

/-- R49. -/
def LaneView.cold : LaneView where
  manifest := none
  stale := 3
  nextIndex := none
  assembly := none
  arrivals := 0
  incompletes := 0

/-- R23: frame 0 of round 0 is the first own frame; in COLD no frame runs. -/
def Transmitter.cold : Transmitter where
  roundNo := 0
  frame := 0
  frameLen := Config.nominalFrame
  lastLen := Config.nominalFrame
  tileTime := 0
  snapshot := []
  boundary := false
  due := []

/-- R155. -/
def TimingUnit.cold : TimingUnit where
  selected := .free
  level := 8
  holdover := false
  age := 0
  changed := false
  refState := .idle
  refRun := 0
  refMissing := 0
  refExpected := none
  refPos := none
  phaseDue := false
  lanes := Vector.replicate 9 { alignedRounds := 0, wholeRound := false, qualified := false }

/-- R136. -/
def CarrierPort.cold : CarrierPort where
  state := .dark
  stagger := none
  framer := .hunt
  expected := none
  confirm := none
  missing := 0
  roundErrors := 0
  degraded := false
  errorTotal := 0
  farEnd := none
  receiving := false
  receivingOld := false

/-- R147, R153. -/
def Carriers.cold : Carriers where
  ports := Vector.replicate 4 CarrierPort.cold
  current := Vector.replicate 9 false
  previous := Vector.replicate 9 false

/-- R168, R170: COLD, with the cause the cold start will report; the other fields hold no value in COLD, and the values
written here are the model's (assumption 1). -/
def Station.cold (cause : RestartCause) : Station where
  state := .cold
  number := 0
  staggerSetting := 125
  refUse := false
  epoch := 0
  cause := cause
  listenRounds := 0
  wholeRound := false

/-- R189: every flag, the mask and the enable clear. The snapshots are taken when COLD ends; until then the model holds
the fields of the cold blocks in them (assumption 1). -/
def ReportUnit.cold : ReportUnit where
  sources := []
  sinks := []
  lanes := Vector.replicate 9 { snap := { state := .absent, epoch := none, skewRange := false, misplug := false }, flag := false }
  ports := Vector.replicate 4 { snap := { state := .dark, framer := .hunt, degraded := false, farEnd := none }, flag := false }
  station := { snap := { state := .cold, source := .free, level := 8, holdover := false, light := .none, hold := false }, flag := false }
  mask := { order := false, lane := false, carrier := false, station := false }
  enable := false
  attn := false

/-- R23, R139, R170: no output sends anything in COLD. The HOLD level is the pin's own. -/
def Pins.cold (hold : Bool) : Pins where
  hold := hold
  laneOut := none
  carrierOut := Vector.replicate 4 none
  clientOut := Vector.replicate 32 .off

/-- The engine right after reset: COLD with cause POWER and every block at its cold-start values (R170). HOLD is taken
as released (assumption 33). -/
def State.reset : State where
  pending := []
  station := Station.cold .power
  store := OrderStore.empty
  tx := Transmitter.cold
  lanes := Vector.replicate 9 LaneRx.cold
  view := Vector.replicate 9 LaneView.cold
  timing := TimingUnit.cold
  carriers := Carriers.cold
  report := ReportUnit.cold
  mport := { slot := [], mso := [], emptied := [] }
  pins := Pins.cold false

end Sys2Proof.Machine
end

