-- ==== Sys2Proof/Machine/Formats.lean ====
section
/-! DEFINITION. Frame and message formats (R191 to R193): the encodings of every enumeration, the lane frame header
with its manifest slots, the tile-group header, the carrier frame, the three checks, and the bytes of management
messages. -/

namespace Sys2Proof.Machine

/-! ### Codes (R191, Encodings) -/

def Quality.code : Quality → Nat
  | .good => 1
  | .degraded => 2
  | .failed => 3

/-- The quality a code names; 0 is undefined. -/
def qualityOfCode : Nat → Option Quality
  | 1 => some .good
  | 2 => some .degraded
  | 3 => some .failed
  | _ => none

def Standing.code : Standing → Nat
  | .primary => 1
  | .standby => 2

def standingOfCode : Nat → Option Standing
  | 1 => some .primary
  | 2 => some .standby
  | _ => none

def Mark.code : Mark → Nat
  | .vacant => 0
  | .good => 1
  | .degraded => 2
  | .failed => 3

/-- Every code of the two-bit mark field is defined (R193). -/
def markOfCode : Nat → Mark
  | 1 => .good
  | 2 => .degraded
  | 3 => .failed
  | _ => .vacant

/-- The mark that announces a quality. -/
def Quality.mark : Quality → Mark
  | .good => .good
  | .degraded => .degraded
  | .failed => .failed

/-- The quality a mark delivers; VACANT carries no content. -/
def Mark.quality : Mark → Option Quality
  | .vacant => none
  | .good => some .good
  | .degraded => some .degraded
  | .failed => some .failed

def FailedAction.code : FailedAction → Nat
  | .withdraw => 1
  | .mark => 2
  | .fill => 3

def actionOfCode : Nat → Option FailedAction
  | 1 => some .withdraw
  | 2 => some .mark
  | 3 => some .fill
  | _ => none

def Direction.code : Direction → Nat
  | .source => 1
  | .sink => 2

def directionOfCode : Nat → Option Direction
  | 1 => some .source
  | 2 => some .sink
  | _ => none

def SourceState.code : SourceState → Nat
  | .dormant => 0
  | .queued => 1
  | .offered => 2
  | .retiring => 3

/-- Station state in headers and payloads. COLD is never sent (R23, R178). -/
def StationState.code : StationState → Nat
  | .joined => 1
  | _ => 0

def RestartCause.code : RestartCause → Nat
  | .power => 1
  | .pin => 2
  | .engine => 3

def RxState.code : RxState → Nat
  | .absent => 0
  | .aligning => 1
  | .aligned => 2
  | .lost => 3

def PortState.code : PortState → Nat
  | .dark => 0
  | .waiting => 1
  | .claiming => 2
  | .lighting => 3
  | .lit => 4

def FramerState.code : FramerState → Nat
  | .hunt => 0
  | .confirm => 1
  | .sync => 2

def RefState.code : RefState → Nat
  | .idle => 0
  | .counting => 1
  | .qualified => 2

def AdapterKind.code : AdapterKind → Nat
  | .clientSource => 1
  | .carrierSource => 2
  | .clientSink => 3

def Announcement.code : Announcement → Nat
  | .none => 0
  | .intent => 1
  | .lighting => 2

/-- Timing source of the header, selected source of the payloads: a station, 9 for REF, 15 for none (FREE). -/
def TimeSource.code : TimeSource → Nat
  | .lane n => n.val
  | .ref => 9
  | .free => 15

def IngressStatus.code : IngressStatus → Nat
  | .absent => 0
  | .passed .good => 1
  | .passed .degraded => 2
  | .passed .failed => 3
  | .refused => 4

def Detections.code (d : Detections) : Nat :=
  d.rate.toNat + 2 * d.overflow.toNat + 4 * d.dry.toNat + 8 * d.silent.toNat

def Status.code : Status → Nat
  | .done => 0
  | .form => 1
  | .check => 2
  | .range => 3
  | .tagExists => 4
  | .tagUnknown => 5
  | .tableFull => 6
  | .noAdapter => 7
  | .noStore => 8
  | .portBusy => 9
  | .tileConflict => 10

/-- The classes of a tributary (R2). -/
def classOk (c : Nat) : Bool := c = 1 || c = 2 || c = 5 || c = 10

/-- A circuit tag (R1). -/
def tagOk (t : Nat) : Bool := 1 ≤ t && t ≤ Config.maxTag

/-! ### Words and checks (R192) -/

/-- Bits `hi` to `lo` of a word. -/
def field (w : Word) (hi lo : Nat) : Nat := w.toNat / 2 ^ lo % 2 ^ (hi - lo + 1)

def word (n : Nat) : Word := BitVec.ofNat 16 n

def wordSum (ws : List Word) : Nat := (ws.map BitVec.toNat).sum

/-- The check word over the words before it (R192). -/
def checkWord (ws : List Word) : Word := word (65535 - wordSum ws % 65536)

/-- A check is good when the words with the check word add up to 65 535 modulo 65 536 (R192). -/
def checkGood (ws : List Word) : Bool := wordSum ws % 65536 = 65535

/-! ### Lane frame header -/

/-- The fields of a manifest slot. -/
def Slot.kind (s : Slot) : Nat := field s.a 15 14
def Slot.cls (s : Slot) : Nat := field s.a 13 10
def Slot.quality (s : Slot) : Nat := field s.a 9 8
def Slot.standing (s : Slot) : Nat := field s.a 7 6
def Slot.tag (s : Slot) : Nat := 16 * s.b.toNat + field s.c 15 12
def Slot.first (s : Slot) : Nat := field s.c 11 4

/-- The slot that carries an entry (R191): in a WANT, quality, standing and first tile are 0. -/
def Entry.slot : Entry → Slot
  | .offer tag cls first q st =>
    { a := word (1 * 16384 + cls * 1024 + q.code * 256 + st.code * 64), b := word (tag / 16),
      c := word (tag % 16 * 4096 + first * 16) }
  | .want tag cls =>
    { a := word (2 * 16384 + cls * 1024), b := word (tag / 16), c := word (tag % 16 * 4096) }

def Slot.empty : Slot := { a := 0, b := 0, c := 0 }

/-- The entry a slot holds, where its values and tiles pass the checks of R53; of a WANT only tag and class are read. -/
def Slot.entry (s : Slot) : Option Entry :=
  if s.kind = 1 then
    match qualityOfCode s.quality, standingOfCode s.standing with
    | some q, some st =>
      if tagOk s.tag && classOk s.cls && s.first % s.cls = 0 && s.first + s.cls ≤ 160
      then some (.offer s.tag s.cls s.first q st) else none
    | _, _ => none
  else if s.kind = 2 then
    if tagOk s.tag && classOk s.cls then some (.want s.tag s.cls) else none
  else none

/-- The 28 header words that the check covers, then the check (R191, R192). -/
def headerWords (h : Heard) (slots : List Slot) : List Word :=
  let ws := [word (h.station * 4096 + h.frag * 256 + h.epoch), word h.round,
      word (h.level * 4096 + h.source * 256 + h.light * 64 + h.joined.toNat * 32), word (h.count * 256)] ++
    (slots.flatMap fun s => [s.a, s.b, s.c])
  ws ++ [checkWord ws]

/-- The header fields of received words. Zero positions are not read (R193). -/
def heardOf (ws : List Word) : Heard where
  station := field (ws.getD 0 0) 15 12
  frag := field (ws.getD 0 0) 11 8
  epoch := field (ws.getD 0 0) 7 0
  round := (ws.getD 1 0).toNat
  level := field (ws.getD 2 0) 15 12
  source := field (ws.getD 2 0) 11 8
  light := field (ws.getD 2 0) 7 6
  joined := field (ws.getD 2 0) 5 5 = 1
  count := field (ws.getD 3 0) 15 8

/-- The eight manifest slots of received words. -/
def slotsOf (ws : List Word) : List Slot :=
  (List.range 8).map fun i =>
    { a := ws.getD (4 + 3 * i) 0, b := ws.getD (5 + 3 * i) 0, c := ws.getD (6 + 3 * i) 0 }

/-! ### Tile groups -/

def tileTag (t : Tile) : Nat := 16 * t.w0.toNat + field t.w1 15 12
def tileMark (t : Tile) : Mark := markOfCode (field t.w1 11 10)
def tileFill (t : Tile) : Nat := t.w2.toNat

/-- A vacant tile, a tile not sent, and a tile of a missed window: three zero words and padding (R27, R41, R23). -/
def vacantTile : Tile := { w0 := 0, w1 := 0, w2 := 0, payload := [] }

/-- A tile that carries a tile-group header (R191). -/
def headTile (tag : Nat) (m : Mark) (fill : Nat) (payload : List Block) : Tile :=
  { w0 := word (tag / 16), w1 := word (tag % 16 * 4096 + m.code * 1024), w2 := word fill, payload := payload }

/-- A tile group to be sent: its place, its header and its blocks, oldest first. -/
structure Group where
  first : Nat
  cls : Nat
  tag : Nat
  mark : Mark
  fill : Nat
  blocks : List Block
  deriving DecidableEq, Repr

/-- Tile `t` of a frame that carries the given groups (R26, R27, R137): the first tile of a group carries the
header, every tile of the group its share of the blocks, and every other tile is vacant. -/
def tileOf (groups : List Group) (t : Nat) : Tile :=
  match groups.find? fun g => g.first ≤ t && t < g.first + g.cls with
  | none => vacantTile
  | some g =>
    let share := (g.blocks.drop ((t - g.first) * Config.tileBlocks)).take Config.tileBlocks
    if t = g.first then headTile g.tag g.mark g.fill share else { vacantTile with payload := share }

/-- Tile `t` of a received frame; a tile not sent reads as vacant (R23, R41). -/
def tileAt (tiles : List Tile) (t : Nat) : Tile := tiles.getD t vacantTile

/-- The first `n` blocks of the payload space of tiles in tile order; space beyond the listed blocks is padding. -/
def payloadOf : List Tile → Nat → List Block
  | [], _ => []
  | t :: ts, n =>
    let m := min n Config.tileBlocks
    t.payload.take m ++ List.replicate (m - t.payload.length) Block.padding ++ payloadOf ts (n - m)

/-- The tag check of R94, which is the extraction test of R144: the mark a group of tag `tag` and class `cls` at the
given first tile delivers, with its blocks; `none` when the group fails. -/
def readGroup (tiles : List Tile) (first cls tag : Nat) : Option (Quality × List Block) :=
  let t := tileAt tiles first
  match (tileMark t).quality with
  | none => none
  | some q =>
    if tileTag t = tag && tileFill t ≤ Config.tileBlocks * cls then
      some (q, payloadOf ((List.range cls).map fun i => tileAt tiles (first + i)) (tileFill t))
    else none

/-! ### Carrier frame -/

/-- The header-position words of a carrier frame's 40 tiles; a tile not sent reads as three zero words (R137). -/
def positionWords (tiles : List Tile) : List Word :=
  (List.range 40).flatMap fun i => let t := tileAt tiles i; [t.w0, t.w1, t.w2]

/-- The 121 words the frame check covers (R191). -/
def frameCheckWords (header : Word) (tiles : List Tile) : List Word := header :: positionWords tiles

def carrierHeader (station port : Nat) : Word := word (station * 4096 + port * 1024)

/-- A carrier frame with its check (R137, R192). -/
def carrierFrame (header : Word) (tiles : List Tile) : CarrierFrame :=
  { header := header, tiles := tiles, check := checkWord (frameCheckWords header tiles) }

def carrierCheckGood (f : CarrierFrame) : Bool :=
  checkGood (frameCheckWords f.header f.tiles ++ [f.check])

/-! ### Management messages -/

/-- `n` bytes, most significant first. -/
def be : Nat → Nat → List Byte
  | 0, _ => []
  | n + 1, v => be n (v / 256) ++ [BitVec.ofNat 8 v]

/-- The value of bytes, most significant first. -/
def ofBe (bs : List Byte) : Nat := bs.foldl (fun acc b => acc * 256 + b.toNat) 0

/-- A signed byte, in two's complement. -/
def signedByte (i : Int) : List Byte := [BitVec.ofInt 8 i]

def byteSum (bs : List Byte) : Nat := (bs.map BitVec.toNat).sum

/-- The byte that makes the sum of all bytes 0 modulo 256 (R192). -/
def messageCheck (bs : List Byte) : Byte := BitVec.ofNat 8 (256 - byteSum bs % 256)

/-- A response: code, status, payload length, payload, check (R181, R191). -/
def responseBytes (code : Nat) (st : Status) (payload : List Byte) : List Byte :=
  let body := be 1 code ++ be 1 st.code ++ be 2 payload.length ++ payload
  body ++ [messageCheck body]

/-- The filler byte of the management port (R191). -/
def filler : Byte := 255

/-- The bytes MSO shifts out in a transfer of `n` whole bytes (R178). -/
def shiftOut (slot : List Byte) (n : Nat) : List Byte :=
  slot.take n ++ List.replicate (n - slot.length) filler

/-- The bytes of a complete request that its sum check covers: code, L, parameters, check (R179, R180). -/
def requestBytes (code : Byte) (x : Transfer) : List Byte :=
  code :: BitVec.ofNat 8 x.params.length :: x.params ++ [x.check]

/-- Check 1 of R180. -/
def requestSumGood (code : Byte) (x : Transfer) : Bool := byteSum (requestBytes code x) % 256 = 0

/-- The whole bytes of the transfer (R179). -/
def transferSize (x : Transfer) : Nat := x.params.length + 3 + x.extra.length

end Sys2Proof.Machine
end

