-- ==== Sys2Proof/Machine/Operands.lean ====
section
/-! DEFINITION. The parameters of the management commands as the layouts of R191 place them, the checks and clamps of
an admission that need no state (R9, R10), and the records an admission starts from (R12, R13, R101). -/

namespace Sys2Proof.Machine

/-- Byte `i` of the parameters, as a number. -/
def param (ps : List Byte) (i : Nat) : Nat := (ps.getD i 0).toNat

/-- `n` bytes of the parameters from byte `i` on, most significant first. -/
def paramBe (ps : List Byte) (i n : Nat) : Nat := ofBe ((ps.drop i).take n)

/-- The parameters of PLACE SOURCE, as received. -/
structure SourceRequest where
  tag : Nat
  cls : Nat
  kind : Nat
  port : Nat
  first : Nat
  rnom : Nat
  k : Nat
  n : Nat
  priority : Nat
  action : Nat
  standing : Nat
  deriving DecidableEq, Repr

def sourceRequest (ps : List Byte) : SourceRequest where
  tag := paramBe ps 0 3
  cls := param ps 3
  kind := param ps 4
  port := param ps 5
  first := param ps 6
  rnom := paramBe ps 7 4
  k := param ps 11
  n := param ps 12
  priority := param ps 13
  action := param ps 14
  standing := param ps 15

/-- The parameters of PLACE SINK, as received. -/
structure SinkRequest where
  tag : Nat
  cls : Nat
  kind : Nat
  port : Nat
  first : Nat
  rnom : Nat
  k : Nat
  w : Nat
  deriving DecidableEq, Repr

def sinkRequest (ps : List Byte) : SinkRequest where
  tag := paramBe ps 0 3
  cls := param ps 3
  kind := param ps 4
  port := param ps 5
  first := param ps 6
  rnom := paramBe ps 7 4
  k := param ps 11
  w := param ps 12

/-- The binding a kind, port and first tile name, within the ranges of check 2 of R9; the first-tile byte of a client
binding is not read (R191). -/
def bindingOf (kind port first : Nat) : Option Binding :=
  if kind = 1 then
    if h : port < 32 then some (.client ⟨port, h⟩) else none
  else if kind = 2 then
    if h : port < 4 then (if first ≤ 39 then some (.carrier ⟨port, h⟩ first) else none) else none
  else none

/-- Check 3 of R9: a carrier binding's first tile is a multiple of the class. -/
def Binding.alignedTo (cls : Nat) : Binding → Bool
  | .client _ => true
  | .carrier _ first => first % cls = 0

/-- The clamps of R10. -/
def clamp (lo hi v : Nat) : Nat := max lo (min hi v)
def clampRnom (cls v : Nat) : Nat := clamp 256 (640000 * cls) v
def clampK (v : Nat) : Nat := clamp 2 6 v
def clampThreshold (v : Nat) : Nat := if v ≤ 1 then 1 else if v ≤ 3 then 3 else if v ≤ 5 then 5 else 8
def clampPriority (v : Nat) : Nat := min 3 v
def clampW (v : Nat) : Nat := min 255 v

/-- A detection set with nothing in it. -/
def Detections.none : Detections := { rate := false, overflow := false, dry := false, silent := false }

/-- A newly allocated adapter (R101). -/
def newAdapter (kind : AdapterKind) (tag cls rnom k : Nat) : Adapter where
  kind := kind
  tag := tag
  cls := cls
  rnom := rnom
  k := k
  running := false
  store := []
  rate := rnom
  phase := 0
  spanCount := 0
  arrived := 0
  dets := Detections.none
  ended := none
  last := none

/-- The kind of adapter a binding calls for: none for a carrier sink (R9, R11). -/
def adapterKind (d : Direction) : Binding → Option AdapterKind
  | .client _ => some (match d with | .source => .clientSource | .sink => .clientSink)
  | .carrier _ _ => match d with | .source => some .carrierSource | .sink => Option.none

/-- A newly admitted source order, before its evaluation (R5, R10, R12, R120). -/
def newSource (r : SourceRequest) (b : Binding) (action : FailedAction) (standing : Standing) (n : Option (Fin 96)) :
    Source where
  tag := r.tag
  cls := r.cls
  binding := b
  rnom := clampRnom r.cls r.rnom
  k := clampK r.k
  threshold := clampThreshold r.n
  action := action
  priority := clampPriority r.priority
  standing := standing
  adapter := n
  removed := false
  state := .dormant
  firstTile := none
  releaseCount := 0
  entryNo := none
  passedOver := 0
  blocked := false
  omitted := false
  mismatch := false
  faultCount := 0
  latch := false
  ingress := .absent

/-- A newly admitted sink order, before its evaluation (R7, R8, R10, R13, R120). A carrier sink holds no Rnom and k. -/
def newSink (r : SinkRequest) (b : Binding) (n : Option (Fin 96)) : Sink where
  tag := r.tag
  cls := r.cls
  binding := b
  rnom := match b with | .client _ => some (clampRnom r.cls r.rnom) | .carrier _ _ => none
  k := match b with | .client _ => some (clampK r.k) | .carrier _ _ => none
  w := clampW r.w
  adapter := n
  sel := none
  wtr := 0
  switches := 0
  slips := 0
  mismatch := false
  faultCount := 0
  delivered := .failed

end Sys2Proof.Machine
end

