-- ==== Sys2Proof/Machine/Flags.lean ====
section
/-! DEFINITION. Derived values and flags: source quality and output quality (R125, R134), the lighting announcement
(R148), the reportable fields of every item, the change flags and the ATTN line (R183 to R187). -/

namespace Sys2Proof.Machine

/-- 0 for the best quality (R80). -/
def Quality.rank : Quality → Nat
  | .good => 0
  | .degraded => 1
  | .failed => 2

/-- The worse of two qualities (R134). -/
def Quality.worse (a b : Quality) : Quality := if a.rank ≤ b.rank then b else a

/-- The carrier port a carrier-ingress source is bound to. -/
def Source.carrierPort (r : Source) : Option (Fin 4) :=
  match r.binding with
  | .client _ => none
  | .carrier p _ => some p

/-- The FAILED causes of R125 that come from the carrier. -/
def carrierFailed (ports : Vector CarrierPort 4) (r : Source) : Bool :=
  match r.carrierPort with
  | none => false
  | some p => ports[p].framer ≠ .sync || r.ingress = .absent || r.ingress = .refused || r.ingress = .passed .failed

/-- The DEGRADED causes of R125 that come from the carrier. -/
def carrierDegraded (ports : Vector CarrierPort 4) (r : Source) : Bool :=
  match r.carrierPort with
  | none => false
  | some p => ports[p].degraded || r.ingress = .passed .degraded

/-- The quality of a source order (R125), by the first row of the table that applies. -/
def sourceQuality (ports : Vector CarrierPort 4) (r : Source) : Quality :=
  if r.latch || carrierFailed ports r then .failed
  else if 1 ≤ r.faultCount || carrierDegraded ports r then .degraded
  else .good

/-- The output quality of a sink order (R8, R134). -/
def outputQuality (k : Sink) : Quality :=
  match k.binding with
  | .carrier _ _ => k.delivered
  | .client _ => if 1 ≤ k.faultCount then k.delivered.worse .degraded else k.delivered

/-- The station's lighting announcement (R148). -/
def announcement (ports : Vector CarrierPort 4) : Announcement :=
  if ports.toList.any (·.state = .claiming) then .intent
  else if ports.toList.any (·.state = .lighting) then .lighting
  else .none

/-! ### Visible records -/

/-- The visible source order with a tag: a hidden retiring record is passed over (R18). -/
def visibleSource (st : OrderStore) (tag : Nat) : Option Source :=
  st.sources.find? fun r => r.tag = tag && !r.removed

/-- The sink order with a tag. -/
def findSink (st : OrderStore) (tag : Nat) : Option Sink := st.sinks.find? fun k => k.tag = tag

/-! ### Reportable fields (R183) -/

def sourceReport (ports : Vector CarrierPort 4) (r : Source) : SourceReport where
  state := r.state
  quality := sourceQuality ports r
  latch := r.latch
  blocked := r.blocked
  mismatch := r.mismatch

def sinkReport (k : Sink) : SinkReport where
  lane := k.sel.map (·.lane)
  selQuality := k.sel.map (·.quality)
  output := outputQuality k
  mismatch := k.mismatch

def laneReport (x : LaneRx) : LaneReport where
  state := x.state
  epoch := x.heard.map (·.epoch)
  skewRange := x.skewRange
  misplug := x.misplug

def portReport (p : CarrierPort) : PortReport where
  state := p.state
  framer := p.framer
  degraded := p.degraded
  farEnd := p.farEnd

def stationReport (s : State) : StationReport where
  state := s.station.state
  source := s.timing.selected
  level := s.timing.level
  holdover := s.timing.holdover
  light := announcement s.carriers.ports
  hold := s.pins.hold

/-! ### Change flags (R183) -/

/-- One comparison of an item: the fields changed at this event and differ from the snapshot (R183). -/
def Item.note {α : Type} [DecidableEq α] (it : Item α) (before after : α) : Item α :=
  if before ≠ after ∧ after ≠ it.snap then { it with flag := true } else it

/-- The item of a source after an event. A source's quality counts at its departures only (R126), so the comparison here
is made when one of the other four fields has changed. -/
def noteSource (before after : State) (e : Nat × Item SourceReport) : Nat × Item SourceReport :=
  match visibleSource before.store e.1, visibleSource after.store e.1 with
  | some r, some r' =>
    if r.state ≠ r'.state ∨ r.latch ≠ r'.latch ∨ r.blocked ≠ r'.blocked ∨ r.mismatch ≠ r'.mismatch then
      if sourceReport after.carriers.ports r' ≠ e.2.snap then (e.1, { e.2 with flag := true }) else e
    else e
  | _, _ => e

def noteSink (before after : State) (e : Nat × Item SinkReport) : Nat × Item SinkReport :=
  match findSink before.store e.1, findSink after.store e.1 with
  | some k, some k' => (e.1, e.2.note (sinkReport k) (sinkReport k'))
  | _, _ => e

/-- The items after an event that took the engine from `before` to `after`. -/
def noteChanges (before after : State) : ReportUnit :=
  { after.report with
    sources := after.report.sources.map (noteSource before after)
    sinks := after.report.sinks.map (noteSink before after)
    lanes := after.report.lanes.mapIdx fun i it =>
      if h : i < 9 then it.note (laneReport before.lanes[i]) (laneReport after.lanes[i]) else it
    ports := after.report.ports.mapIdx fun i it =>
      if h : i < 4 then it.note (portReport before.carriers.ports[i]) (portReport after.carriers.ports[i]) else it
    station := after.report.station.note (stationReport before) (stationReport after) }

/-- The comparison at a source's departure, where the Health Monitor derives its frame quality (R126). -/
def noteQuality (s : State) (tag : Nat) : State :=
  match visibleSource s.store tag with
  | none => s
  | some r =>
    let now := sourceReport s.carriers.ports r
    { s with report := { s.report with sources := s.report.sources.map fun e =>
        if e.1 = tag ∧ now ≠ e.2.snap then (e.1, { e.2 with flag := true }) else e } }

/-! ### Attention (R187) -/

def ReportUnit.orderPending (r : ReportUnit) : Bool := r.sources.any (·.2.flag) || r.sinks.any (·.2.flag)
def ReportUnit.lanePending (r : ReportUnit) : Bool := r.lanes.toList.any (·.flag)
def ReportUnit.carrierPending (r : ReportUnit) : Bool := r.ports.toList.any (·.flag)

/-- Whether ATTN is asserted (R187, R170). -/
def attnLevel (st : StationState) (r : ReportUnit) : Bool :=
  st ≠ .cold && r.enable && (r.mask.order && r.orderPending || r.mask.lane && r.lanePending ||
    r.mask.carrier && r.carrierPending || r.mask.station && r.station.flag)

/-- ATTN follows its terms at the event that changes one of them (R187). -/
def updateAttn (s : State) : State :=
  { s with report := { s.report with attn := attnLevel s.station.state s.report } }

/-- The Report Unit compares the items with their snapshots after what took the engine from `before` to `after`. In COLD no
item is compared (R170, R189). -/
def noted (before after : State) : State :=
  if after.station.state = .cold then after else { after with report := noteChanges before after }

/-- One block's step within a command, with the comparison it brings: a field that a later step of the command moves back
leaves its flag set (R183). -/
def event (f : State → State) (s : State) : State := noted s (f s)

/-- The end of every command: the comparison of the whole, and ATTN. -/
def finish (before after : State) : State := updateAttn (noted before after)

end Sys2Proof.Machine
end

