-- ==== Sys2Proof/Machine/Ops.lean ====
section
/-! DEFINITION. The named operations over the engine's records: counters, maps, lookups and updates of orders, adapters,
lanes and ports, and the management port's envelope (R178 to R181). -/

namespace Sys2Proof.Machine

/-! ### Counters and maps -/

/-- A counter that saturates at `top`. -/
def satInc (top n : Nat) : Nat := min top (n + 1)

/-- The positions `first` to `first + c - 1` of a map take the value `v`. -/
def setRange {n : Nat} (m : Vector (Option Nat) n) (first c : Nat) (v : Option Nat) : Vector (Option Nat) n :=
  m.mapIdx fun i o => if first ≤ i ∧ i < first + c then v else o

/-- Whether the positions `first` to `first + c - 1` all exist and are free. -/
def rangeFree {n : Nat} (m : Vector (Option Nat) n) (first c : Nat) : Bool :=
  (List.range c).all fun j => m[first + j]? = some none

/-- Whether some existing position of the range is bound (check 7 of R9). -/
def rangeBound {n : Nat} (m : Vector (Option Nat) n) (first c : Nat) : Bool :=
  (List.range c).any fun j => match m[first + j]? with | some (some _) => true | _ => false

/-! ### Updates of one record -/

def updateSource (tag : Nat) (f : Source → Source) (s : State) : State :=
  { s with store := { s.store with sources := s.store.sources.map fun r => if r.tag = tag then f r else r } }

def updateSink (tag : Nat) (f : Sink → Sink) (s : State) : State :=
  { s with store := { s.store with sinks := s.store.sinks.map fun k => if k.tag = tag then f k else k } }

def setAdapter (n : Fin 96) (a : Option Adapter) (s : State) : State :=
  { s with store := { s.store with pool := s.store.pool.set n a } }

def setLane (l : Fin 9) (x : LaneRx) (s : State) : State := { s with lanes := s.lanes.set l x }

def setPort (p : Fin 4) (x : CarrierPort) (s : State) : State :=
  { s with carriers := { s.carriers with ports := s.carriers.ports.set p x } }

/-- The station takes part in the shelf: it is LISTEN or JOINED (R170). -/
def running (s : State) : Bool := s.station.state ≠ .cold

/-- A lane whose receiver takes the backplane pins: not the own lane, and not in COLD (R42, R170). -/
def peerLane (l : Fin 9) (s : State) : Bool := running s && l ≠ s.station.number

/-- The own tile-time counter reads `t` at this event (R30). -/
def atTime (t : Nat) (s : State) : State := { s with tx := { s.tx with tileTime := t } }

/-- A counter reading as a position against the own frame, −84 to +83 (R30, R157). -/
def skewOf (t : Nat) : Int := if t ≤ 83 then (t : Int) else (t : Int) - 168

/-- `|a - b| ≤ d`. -/
def within (d : Int) (a b : Int) : Bool := a - b ≤ d && b - a ≤ d

/-! ### The management port (R178 to R181) -/

/-- The slot after a cold start: empty, what it held remembered for a transfer in progress (R170, R178). -/
def ManagementPort.cold (m : ManagementPort) : ManagementPort where
  slot := []
  mso := []
  emptied := if m.slot = [] then m.emptied else m.slot

/-- The bytes of a transfer of `n` whole bytes leave on MSO; the slot stays (R178). In COLD, and in a transfer that met COLD
(`spoiled`), filler follows what had been shifted out of the slot when a cold start emptied it. -/
def shifted (spoiled : Option Nat) (n : Nat) (s : State) : State :=
  { s with mport := { s.mport with
      mso := if s.station.state = .cold || spoiled.isSome then shiftOut (s.mport.emptied.take (spoiled.getD 0)) n
        else shiftOut s.mport.slot n } }

/-- A response replaces the pending response slot (R181). -/
def respond (code : Nat) (st : Status) (payload : List Byte) (s : State) : State :=
  { s with mport := { s.mport with slot := responseBytes code st payload } }

/-- One transfer with a complete request (R178 to R181): discarded in COLD or when it met COLD; refused by the first
check of R180 that fails; else executed. `len` is the parameter length of the command, absent for an undefined
code, and `body` the execution with its response. -/
def request (code : Byte) (len : Option Nat) (x : Transfer) (body : List Byte → State → State) (s : State) : State :=
  let out := shifted x.spoiled (transferSize x) s
  finish s
    (if s.station.state = .cold || x.spoiled.isSome then out
     else if !requestSumGood code x then respond code.toNat .check [] out
     else match len with
       | none => respond code.toNat .form [] out
       | some n => if x.params.length = n then body x.params out else respond code.toNat .form [] out)

end Sys2Proof.Machine
end

