-- ==== Sys2Proof/Machine/Adapter.lean ====
section
/-! DEFINITION. The arithmetic of one rate-adapter record: constants (R100), arrival (R103), departure (R105 to R111)
and span end (R112, R113). -/

namespace Sys2Proof.Machine

/-! ### Constants (R100) -/

def Adapter.cap (a : Adapter) : Nat := Config.tileBlocks * a.cls
def Adapter.ecap (a : Adapter) : Nat := Config.storePerClass * a.cls
/-- Dt − Wd. -/
def Adapter.lowResidue (a : Adapter) : Nat := 1024 * a.cls - 256 * a.cls
/-- Dt + Wd. -/
def Adapter.highResidue (a : Adapter) : Nat := 1024 * a.cls + 256 * a.cls
def Adapter.band (a : Adapter) : Nat := max (a.rnom / 4096) 64
def Adapter.rateLow (a : Adapter) : Nat := a.rnom - a.band
def Adapter.rateHigh (a : Adapter) : Nat := min (a.rnom + a.band) (256 * a.cap)
/-- The span S in frames (R5). -/
def Adapter.span (a : Adapter) : Nat := 2 ^ a.k
/-- D, the depth of the elastic store (R99). -/
def Adapter.depth (a : Adapter) : Nat := a.store.length

/-! ### Arrival (R103) -/

/-- An arrival: M counts every block, the store takes what fits, a discarded block sets OVERFLOW. -/
def Adapter.arrive (a : Adapter) (blocks : List Block) : Adapter :=
  let fit := min blocks.length (a.ecap - a.depth)
  { a with
    arrived := min 4294967295 (a.arrived + blocks.length)
    store := a.store ++ blocks.take fit
    dets := { a.dets with overflow := a.dets.overflow || fit < blocks.length } }

/-! ### Departure -/

/-- What a departure hands on: the adapter after it, the blocks released, and the replacement blocks a client port
receives after them (R111). -/
structure Departure where
  adapter : Adapter
  blocks : List Block
  topUp : Nat
  deriving DecidableEq, Repr

/-- F0, the nominal release of this frame (R106). -/
def Adapter.nominal (a : Adapter) : Nat := (a.phase + a.rate) / 256

/-- Q, the residue a nominal release would leave (R107). -/
def Adapter.residue (a : Adapter) : Int := (a.depth : Int) - (a.nominal : Int)

/-- F1, the corrected release (R107). -/
def Adapter.corrected (a : Adapter) : Nat :=
  if (a.highResidue : Int) < a.residue then a.nominal + 1
  else if a.residue < (a.lowResidue : Int) then a.nominal - 1
  else a.nominal

/-- The release the cap allows, min(F1, cap) (R108). -/
def Adapter.allowed (a : Adapter) : Nat := min a.corrected a.cap

/-- Whether this departure is a RUNNING one: the state is RUNNING, or PRIMING ends at it (R109). -/
def Adapter.releases (a : Adapter) : Bool := a.running || (a.lowResidue : Int) ≤ a.residue

/-- The fifth step of a departure (R112): the span frame count; at S the span has ended, its arrival sum and detections
wait for its span end, and the next span begins with none (R113, R114). -/
def Adapter.stepSpan (a : Adapter) : Adapter :=
  if a.spanCount + 1 = a.span then
    { a with spanCount := 0, arrived := 0, dets := Detections.none, ended := some { arrived := a.arrived, dets := a.dets } }
  else { a with spanCount := a.spanCount + 1 }

/-- The first four steps of a departure: phase, correction, limits and hand-over (R105 to R109, R111). -/
def Adapter.release (a : Adapter) : Departure :=
  let stepped := { a with phase := (a.phase + a.rate) % 256 }
  if a.releases then
    let f := min a.allowed a.depth
    let dry := a.depth < a.allowed
    { adapter := { stepped with running := !dry, store := a.store.drop f, dets := { a.dets with dry := a.dets.dry || dry } }
      blocks := a.store.take f
      topUp := a.allowed - f }
  else
    { adapter := { stepped with running := false }, blocks := [], topUp := min a.nominal a.cap }

/-- One departure up to its span end, which is `endSpan` (R105 to R109, R111, R112). -/
def Adapter.depart (a : Adapter) : Departure := { a.release with adapter := a.release.adapter.stepSpan }

/-! ### Span end (R112, R113) -/

/-- The measured rate Rm of an ended span. -/
def Adapter.measured (a : Adapter) (e : EndedSpan) : Nat := e.arrived * 2 ^ (8 - a.k)

/-- The completed detection set of an ended span (R112). -/
def Adapter.outcome (a : Adapter) (e : EndedSpan) : Detections :=
  { e.dets with
    rate := e.dets.rate || a.measured e < a.rnom - a.band || a.rnom + a.band < a.measured e
    silent := e.dets.silent || e.arrived = 0 }

/-- The step of the slew for a difference |d| (R113). -/
def slewStep (d : Nat) : Nat := if 16 < d then min d 64 else min d 1

/-- The estimate after the slew (R113). -/
def Adapter.slewed (a : Adapter) (e : EndedSpan) : Nat :=
  let target := min (max (a.measured e) a.rateLow) a.rateHigh
  if (a.outcome e).silent then a.rate
  else if a.rate ≤ target then a.rate + slewStep (target - a.rate)
  else a.rate - slewStep (a.rate - target)

/-- The record after the span end of an ended span (R112, R113). -/
def Adapter.endSpan (a : Adapter) (e : EndedSpan) : Adapter :=
  { a with rate := a.slewed e, ended := none, last := some (a.measured e, a.outcome e) }

/-- Whether a detection set holds anything (R121). -/
def Detections.any (d : Detections) : Bool := d.rate || d.overflow || d.dry || d.silent

end Sys2Proof.Machine
end

