-- ==== Sys2Proof/Machine/Placement.lean ====
section
/-! DEFINITION. The Placement Unit: wanted status (R60, R64), its evaluation (R65), the placement queue (R67), the
round-start pass (R68 to R72) and the manifest snapshot (R44 to R47). -/

namespace Sys2Proof.Machine

/-! ### The Peer View's answers (R60) -/

/-- The entries of a lane's manifest; a lane without one offers nothing and wants nothing. -/
def LaneView.entries (v : LaneView) : List Entry :=
  match v.manifest with
  | none => []
  | some m => m.entries

def Entry.tag : Entry → Nat
  | .offer tag _ _ _ _ => tag
  | .want tag _ => tag

/-- Some lane's manifest holds a WANT with this tag and class. -/
def wantStands (view : Vector LaneView 9) (tag cls : Nat) : Bool :=
  view.toList.any fun v => v.entries.any fun e => e = .want tag cls

/-- Some lane's manifest holds a WANT with this tag and another class (R61). -/
def otherWantStands (view : Vector LaneView 9) (tag cls : Nat) : Bool :=
  view.toList.any fun v => v.entries.any fun e =>
    match e with
    | .want t c => t = tag && c ≠ cls
    | _ => false

/-- Wanted status of a visible source order (R64). -/
def isWanted (view : Vector LaneView 9) (r : Source) : Bool :=
  wantStands view r.tag r.cls && !(r.latch && r.action = .withdraw)

/-! ### The placement queue (R67) -/

def priorityOf (st : OrderStore) (tag : Nat) : Nat :=
  match st.sources.find? (·.tag = tag) with
  | none => 0
  | some r => r.priority

/-- The queue with a newly appended source: behind every entry of its priority or a higher one. -/
def queueInsert (st : OrderStore) (tag : Nat) : List Nat :=
  let p := priorityOf st tag
  st.queue.filter (fun t => p ≤ priorityOf st t) ++ tag :: st.queue.filter (fun t => priorityOf st t < p)

/-- The renumbering at the append that takes the number 4 294 967 295: the entries in queue order, the new one last. -/
def renumber (tag : Nat) (s : State) : State :=
  let order := s.store.queue.filter (· ≠ tag) ++ [tag]
  { s with store := { s.store with
      sources := s.store.sources.map fun r => if r.tag ∈ order then { r with entryNo := some (order.idxOf r.tag) } else r
      queueCounter := order.length } }

/-- A source enters QUEUED (R65, R67). -/
def enqueue (tag : Nat) (s : State) : State :=
  let n := s.store.queueCounter
  let s := updateSource tag (fun r => { r with state := .queued, entryNo := some n }) s
  let s := { s with store := { s.store with queue := queueInsert s.store tag, queueCounter := n + 1 } }
  if n = 4294967295 then renumber tag s else s

/-- A source leaves the queue for DORMANT (R65). -/
def dequeue (tag : Nat) (s : State) : State :=
  let s := updateSource tag (fun r => { r with state := .dormant, entryNo := none }) s
  { s with store := { s.store with queue := s.store.queue.filter (· ≠ tag) } }

/-! ### Evaluation (R65) -/

/-- The evaluation of a source's wanted status, with its class-mismatch flag (R61, R65). -/
def evalSource (tag : Nat) (s : State) : State :=
  match visibleSource s.store tag with
  | none => s
  | some r =>
    let s := updateSource tag (fun r => { r with mismatch := otherWantStands s.view r.tag r.cls }) s
    match r.state, isWanted s.view r with
    | .dormant, true => enqueue tag s
    | .queued, false => dequeue tag s
    | .offered, true => updateSource tag (fun r => { r with releaseCount := 0 }) s
    | _, _ => s

/-- The tags of a manifest's entries. -/
def manifestTags (m : Option Manifest) : List Nat :=
  match m with
  | none => []
  | some m => m.entries.map Entry.tag

/-- Sources taken in the free order of `Config.evalRank` (assumption 4). -/
def evalOrder (st : OrderStore) (tags : List Nat) : List Nat :=
  tags.insertionSort fun a b => Config.evalRank st.queueCounter a ≤ Config.evalRank st.queueCounter b

/-- The Placement Unit takes a Peer View notice (R59). -/
def noticePlacement (old new : Option Manifest) (s : State) : State :=
  let touched := (s.store.sources.filter fun r =>
    !r.removed && (r.tag ∈ manifestTags old || r.tag ∈ manifestTags new)).map (·.tag)
  (evalOrder s.store touched).foldl (fun s tag => evalSource tag s) s

/-! ### The round-start pass (R68) -/

/-- One retiring record gives up its tiles (R69). -/
def freeRecord (s : State) (r : Source) : State :=
  let s := { s with store := { s.store with tileMap := setRange s.store.tileMap (r.firstTile.getD 160) r.cls none } }
  if r.removed then
    { s with store := { s.store with sources := s.store.sources.filter (·.tag ≠ r.tag) } }
  else
    evalSource r.tag
      (updateSource r.tag (fun r => { r with state := .dormant, firstTile := none, omitted := false }) s)

/-- First step: the records already RETIRING at the last snapshot, in ascending order of first tile (R69). -/
def freeingStep (s : State) : State :=
  let freed := (s.store.sources.filter fun r => r.state = .retiring && r.omitted).insertionSort
    fun a b => a.firstTile.getD 160 ≤ b.firstTile.getD 160
  freed.foldl freeRecord s

/-- Release counting of one source (R70). -/
def countRelease (view : Vector LaneView 9) (r : Source) : Source :=
  if r.state = .offered then
    if isWanted view r then { r with releaseCount := 0 }
    else if r.releaseCount + 1 = 4 then { r with releaseCount := 4, state := .retiring }
    else { r with releaseCount := r.releaseCount + 1 }
  else r

/-- Second step (R70). -/
def releaseStep (s : State) : State :=
  { s with store := { s.store with sources := s.store.sources.map (countRelease s.view) } }

/-- The lowest free aligned start for class `c` (R71). -/
def lowestStart (m : Vector (Option Nat) 160) (c : Nat) : Option Nat :=
  ((List.range (160 / c)).find? fun i => rangeFree m (i * c) c).map (· * c)

/-- The placement of one queued source (R71, R72). -/
def placeOne (s : State) (tag : Nat) : State :=
  match visibleSource s.store tag with
  | none => s
  | some r =>
    match lowestStart s.store.tileMap r.cls with
    | some first =>
      let s := updateSource tag (fun r => { r with state := .offered, firstTile := some first, entryNo := none
                                                   releaseCount := 0, passedOver := 0, blocked := false }) s
      { s with store := { s.store with tileMap := setRange s.store.tileMap first r.cls (some tag)
                                       queue := s.store.queue.filter (· ≠ tag) } }
    | none =>
      updateSource tag (fun r => { r with passedOver := min 3 (r.passedOver + 1)
                                          blocked := r.blocked || 3 ≤ r.passedOver + 1 }) s

/-- Third step, in JOINED only (R68, R71). -/
def placementStep (s : State) : State :=
  if s.station.state = .joined then s.store.queue.foldl placeOne s else s

/-- The round-start pass (R68). -/
def placementPass (s : State) : State := placementStep (releaseStep (freeingStep s))

/-! ### The manifest snapshot (R44 to R47) -/

/-- The OFFER of a source order that is OFFERED (R45). -/
def offerOf (ports : Vector CarrierPort 4) (r : Source) : Option Entry :=
  match r.state, r.firstTile with
  | .offered, some first => some (.offer r.tag r.cls first (sourceQuality ports r) r.standing)
  | _, _ => none

/-- Sources in ascending order of first tile (R47). -/
def byFirstTile (rs : List Source) : List Source :=
  rs.insertionSort fun a b => a.firstTile.getD 160 ≤ b.firstTile.getD 160

/-- Sinks in ascending order of tag (R47). -/
def bySinkTag (ks : List Sink) : List Sink := ks.insertionSort fun a b => a.tag ≤ b.tag

/-- The entries of a snapshot: OFFERs by first tile, then WANTs by tag (R45 to R47). -/
def snapshotEntries (s : State) : List Entry :=
  (byFirstTile s.store.sources).filterMap (offerOf s.carriers.ports) ++
    (bySinkTag s.store.sinks).map fun k => .want k.tag k.cls

/-- The snapshot is taken, and every RETIRING record is marked omitted (R44, R69). -/
def takeSnapshot (s : State) : State :=
  { s with
    tx := { s.tx with snapshot := snapshotEntries s }
    store := { s.store with sources := s.store.sources.map fun r => if r.state = .retiring then { r with omitted := true } else r } }

end Sys2Proof.Machine
end

