-- ==== Sys2Proof/Machine/Selector.lean ====
section
/-! DEFINITION. The Selector: candidates and their ranking (R78 to R80), evaluation (R81 to R86), wait-to-restore (R87,
R88), and the per-frame read of a selected tile group (R93, R94, R41). -/

namespace Sys2Proof.Machine

/-! ### Candidates (R78, R79) -/

/-- The OFFER of a tag and class in a lane's manifest, as a selection record would hold it. -/
def candidateOn (v : LaneView) (l : Fin 9) (tag cls : Nat) : Option Selection :=
  v.entries.findSome? fun e =>
    match e with
    | .offer t c first q st => if t = tag ∧ c = cls then some { lane := l, first := first, standing := st, quality := q } else none
    | .want _ _ => none

/-- The candidates of a sink, by lane (R78). -/
def candidates (s : State) (tag cls : Nat) : List Selection :=
  (List.finRange 9).filterMap fun l => if s.lanes[l].state = .aligned then candidateOn s.view[l] l tag cls else none

/-- Some ALIGNED lane offers the tag under another class (R79). -/
def otherOfferStands (s : State) (tag cls : Nat) : Bool :=
  (List.finRange 9).any fun l => s.lanes[l].state = .aligned && s.view[l].entries.any fun e =>
    match e with
    | .offer t c _ _ _ => t = tag && c ≠ cls
    | .want _ _ => false

def Standing.rank : Standing → Nat
  | .primary => 0
  | .standby => 1

/-- The rank of a candidate (R80): quality, then standing, then lane; the lower ranks first. -/
def Selection.rank (c : Selection) : Nat := 100 * c.quality.rank + 10 * c.standing.rank + c.lane.val

/-- The candidate ranked first (R80). -/
def bestOf : List Selection → Option Selection
  | [] => none
  | c :: cs =>
    match bestOf cs with
    | none => some c
    | some b => if c.rank < b.rank then some c else some b

/-! ### Evaluation -/

/-- A sink takes a candidate it did not hold (R86). -/
def Sink.take (k : Sink) (c : Selection) : Sink :=
  { k with sel := some c, wtr := 0, switches := satInc 65535 k.switches }

/-- The wait-to-restore condition (R85), between the best candidate and the selected one. -/
def restoreCondition (w : Nat) (best cur : Selection) : Bool :=
  1 ≤ w && best.standing = .primary && cur.standing = .standby && best.quality = cur.quality

/-- A sink chooses when it has nothing on its lane (R82, R83). -/
def Sink.choose (k : Sink) (cands : List Selection) : Sink :=
  match bestOf cands with
  | some b => k.take b
  | none => if k.sel.isSome then { k with sel := none, wtr := 0 } else k

/-- A sink whose selected lane still offers the candidate `cur` (R84, R85, R89). -/
def Sink.keep (k : Sink) (cands : List Selection) (cur : Selection) (hold : Bool) : Sink :=
  match bestOf cands with
  | none => k
  | some b =>
    if b.quality.rank < cur.quality.rank && !hold then k.take b
    else if restoreCondition k.w b cur || hold then { k with sel := some cur }
    else { k with sel := some cur, wtr := 0 }

/-- The evaluation of a sink against its candidates (R82 to R85). -/
def Sink.evaluate (k : Sink) (cands : List Selection) (hold : Bool) : Sink :=
  match k.sel with
  | none => k.choose cands
  | some sel =>
    match cands.find? (·.lane = sel.lane) with
    | none => k.choose cands
    | some cur => k.keep cands cur hold

/-- The evaluation of a sink order of the station. `judge`: whether the event also judges the class-mismatch flag
(R79). -/
def evalSink (judge : Bool) (s : State) (tag : Nat) : State :=
  updateSink tag (fun k =>
    let k := if judge then { k with mismatch := otherOfferStands s k.tag k.cls } else k
    k.evaluate (candidates s k.tag k.cls) s.pins.hold) s

/-- The Selector takes a Peer View notice (R59, R81). -/
def noticeSelector (old new : Option Manifest) (s : State) : State :=
  ((s.store.sinks.map (·.tag)).filter fun t => t ∈ manifestTags old || t ∈ manifestTags new).foldl (evalSink true) s

/-- The Selector takes a lane's exit from ALIGNED (R40, R81). -/
def exitSelector (l : Fin 9) (s : State) : State :=
  ((s.store.sinks.filter fun k => k.sel.any (·.lane = l)).map (·.tag)).foldl (evalSink true) s

/-- The evaluation of every sink of the station at the release of HOLD (R90). -/
def evalEverySink (s : State) : State := (s.store.sinks.map (·.tag)).foldl (evalSink false) s

/-! ### Wait-to-restore (R87, R88) -/

/-- Whether the wait-to-restore condition holds for a sink against its candidates (R85). -/
def Sink.restoring (k : Sink) (cands : List Selection) : Bool :=
  match k.sel with
  | none => false
  | some sel =>
    match cands.find? (·.lane = sel.lane), bestOf cands with
    | some cur, some b => restoreCondition k.w b cur
    | _, _ => false

/-- The WTR step of one sink (R87), with the switch at expiry (R88). -/
def Sink.wtrStep (k : Sink) (cands : List Selection) (hold : Bool) : Sink :=
  if k.sel.isNone || hold then k
  else if k.restoring cands then
    if k.wtr + 1 = k.w then { k with wtr := k.wtr + 1 }.choose cands else { k with wtr := k.wtr + 1 }
  else { k with wtr := 0 }

/-- Whether this WTR step would bring a sink's count to its W (R88). -/
def Sink.wtrExpires (k : Sink) (cands : List Selection) (hold : Bool) : Bool :=
  k.sel.isSome && !hold && k.restoring cands && k.wtr + 1 = k.w

/-- The Selector's WTR step at an own round start (R87). -/
def wtrWork (s : State) : State :=
  { s with store := { s.store with
      sinks := s.store.sinks.map fun k => k.wtrStep (candidates s k.tag k.cls) s.pins.hold } }

/-! ### The read of a frame (R41, R93, R94) -/

/-- The lane frame that an alignment buffer delivers for the own frame in progress: the frame of the window two own
frames back; none when that window has no frame, or when the lane is not ALIGNED (R41). -/
def delivered (x : LaneRx) : Option (List Tile) :=
  if x.state = .aligned ∧ 0 ≤ x.openWindow + 2 then (x.windows.getD (x.openWindow + 2).toNat none) else none

/-- What a sink's read of this own frame delivers, when it passes the tag check (R93, R94). -/
def sinkRead (lanes : Vector LaneRx 9) (k : Sink) : Option (Quality × List Block) :=
  match k.sel with
  | none => none
  | some sel =>
    match delivered lanes[sel.lane] with
    | none => none
    | some tiles => readGroup tiles sel.first k.cls k.tag

end Sys2Proof.Machine
end

