-- ==== Sys2Proof/Machine/PeerView.lean ====
section
/-! DEFINITION. The Peer View: assembly of a lane round (R51, R52), its completion (R53), arrival and staleness (R54, R55),
clearing (R56 to R58) and the notices to the Placement Unit and the Selector (R59). -/

namespace Sys2Proof.Machine

/-! ### One lane record -/

/-- The entries of a completed round, in entry order, when they are well formed (R53): `slots` are the 128 slots in
fragment order. -/
def wellFormedEntries (count : Nat) (slots : List Slot) : Option (List Entry) :=
  let used := slots.take count
  let entries := used.filterMap Slot.entry
  let offers := entries.filter fun e => match e with | .offer _ _ _ _ _ => true | .want _ _ => false
  let wants := entries.filter fun e => match e with | .want _ _ => true | .offer _ _ _ _ _ => false
  let spans := offers.filterMap fun e => match e with | .offer _ c first _ _ => some (first, c) | .want _ _ => none
  if count ≤ 128 && entries.length = count && (slots.drop count).all (fun sl => sl.kind = 0) && entries = offers ++ wants
      && (spans.zip (spans.drop 1)).all (fun p => p.1.1 + p.1.2 ≤ p.2.1)
      && ((wants.map Entry.tag).zip ((wants.map Entry.tag).drop 1)).all (fun p => p.1 < p.2)
      && (offers.map Entry.tag).Nodup
  then some entries else none

/-- A lane round ends incomplete (R55): the count of incomplete rounds and, below 3, the stale count; at 3 the manifest
is cleared. -/
def LaneView.roundIncomplete (v : LaneView) : LaneView :=
  let st := min 3 (v.stale + 1)
  { v with incompletes := satInc 65535 v.incompletes, stale := st, assembly := none
           manifest := if st = 3 then none else v.manifest }

/-- A manifest arrives (R54). -/
def LaneView.arrive (v : LaneView) (m : Manifest) : LaneView :=
  { v with manifest := some m, stale := 0, arrivals := satInc 65535 v.arrivals, assembly := none }

/-- A lane's manifest and assembly are cleared (R56 to R58). -/
def LaneView.clear (v : LaneView) : LaneView := { v with manifest := none, assembly := none, stale := 3 }

/-- The index after `f` (R51). -/
def nextFrag (f : Nat) : Nat := if f < 15 then f + 1 else 0

/-- An assembly with the broken mark for a header's round, which holds no fragment (R51). -/
def brokenAssembly (h : Heard) : Assembly := { round := h.round, count := h.count, frags := [], broken := true }

/-- The assembly after a fragment is placed (R51). A fragment that is not kept leaves the assembly of its round with the
broken mark, and replaces one of another round. R51 gives the round number of the assembly so held and not its entry count:
the header's for a new one, and the one held before when the round is the same (assumption 36). -/
def placeFragment (a : Option Assembly) (h : Heard) (slots : List Slot) : Assembly :=
  if h.frag = 0 then { round := h.round, count := h.count, frags := [(0, slots)], broken := false }
  else match a with
    | none => brokenAssembly h
    | some a =>
      if a.round ≠ h.round then brokenAssembly h
      else if a.count = h.count ∧ a.broken = false then { a with frags := a.frags ++ [(h.frag, slots)] }
      else { a with broken := true }

/-- The manifest of an assembly that is complete and well formed (R53). -/
def Assembly.complete (a : Assembly) : Option Manifest :=
  if a.broken = false ∧ a.frags.map Prod.fst = List.range 16 then
    (wellFormedEntries a.count (a.frags.flatMap Prod.snd)).map fun es => { round := a.round, entries := es }
  else none

/-- The lane record after a fragment, and whether a manifest has arrived (R51, R53, R54, R55). -/
def LaneView.fragment (v : LaneView) (h : Heard) (slots : List Slot) : LaneView × Bool :=
  let v := match v.nextIndex, v.assembly with
    | some i, some _ => if i = h.frag then v else v.roundIncomplete
    | _, _ => v
  let a := placeFragment v.assembly h slots
  let v := { v with assembly := some a, nextIndex := some (nextFrag h.frag) }
  if h.frag = 15 then
    match a.complete with
    | some m => (v.arrive m, true)
    | none => (v.roundIncomplete, false)
  else (v, false)

/-- A good header of the ALIGNED lane (R51, R57, R58). -/
def LaneView.header (v : LaneView) (h : Heard) (slots : List Slot) (epochChange : Bool) : LaneView × Bool :=
  if h.joined then
    if epochChange then ({ v.clear with nextIndex := none }).fragment h slots else v.fragment h slots
  else ({ v.clear with nextIndex := some (nextFrag h.frag) }, false)

/-- An unheard frame of the ALIGNED lane (R52). -/
def LaneView.unheard (v : LaneView) : LaneView :=
  let v := { v with assembly := v.assembly.map fun a : Assembly => { a with broken := true } }
  match v.nextIndex with
  | none => v
  | some i => if i = 15 then { v.roundIncomplete with nextIndex := some 0 } else { v with nextIndex := some (i + 1) }

/-! ### The record in the engine -/

/-- One notice to the Placement Unit and one to the Selector (R59). -/
def notify (old new : Option Manifest) (s : State) : State := noticeSelector old new (noticePlacement old new s)

/-- A lane record changes; an arrival, or the clearing of a manifest that was present, sends the notices (R54 to R59). -/
def setView (l : Fin 9) (v : LaneView) (arrived : Bool) (s : State) : State :=
  let old := s.view[l].manifest
  let s := { s with view := s.view.set l v }
  if arrived || old.isSome && v.manifest.isNone then notify old v.manifest s else s

/-- The Peer View takes a good header (R39, R51, R57, R58). -/
def viewHeader (l : Fin 9) (h : Heard) (slots : List Slot) (epochChange : Bool) (s : State) : State :=
  let r := s.view[l].header h slots epochChange
  setView l r.1 r.2 s

/-- The Peer View takes an unheard frame (R52). -/
def viewUnheard (l : Fin 9) (s : State) : State := setView l s.view[l].unheard false s

/-- The Peer View takes a lane's exit from ALIGNED (R56). -/
def viewExit (l : Fin 9) (s : State) : State := setView l { s.view[l].clear with nextIndex := none } false s

end Sys2Proof.Machine
end

