-- ==== Sys2Proof/Machine/Timing.lean ====
section
/-! DEFINITION. The Timing Unit: qualification of peer lanes (R159, R160), choice of source (R161 to R163), its work at an
own round start, the phase error (R164) and the length of the own frame (R165, R166). -/

namespace Sys2Proof.Machine

/-- The conditions of R160 on the heard header of lane `l` at station `me`; codes that cannot be decoded do not qualify
(R193). -/
def headerQualifies (me l : Fin 9) (h : Heard) : Bool :=
  1 ≤ h.level && h.level ≤ 13 && (h.source ≤ 9 || h.source = 15) && h.source ≠ me.val && (h.level ≠ 8 || l < me)

/-- Whether peer lane `l` is qualified (R160). The own lane is never a candidate. -/
def laneQualifies (s : State) (l : Fin 9) : Bool :=
  l ≠ s.station.number && s.lanes[l].state = .aligned && s.timing.lanes[l].alignedRounds = 2 &&
    (match s.lanes[l].heard with
     | none => false
     | some h => headerQualifies s.station.number l h)

def heardLevel (x : LaneRx) : Nat :=
  match x.heard with
  | none => 15
  | some h => h.level

/-- The qualified lane of lowest heard level, the lower lane among equals (R161). -/
def bestLane (s : State) : Option (Fin 9) :=
  (List.finRange 9).foldl (fun best l =>
    if s.timing.lanes[l].qualified then
      match best with
      | none => some l
      | some b => if heardLevel s.lanes[l] < heardLevel s.lanes[b] then some l else some b
    else best) none

/-- The source and own level that R161 selects. -/
def chooseSource (s : State) : TimeSource × Nat :=
  if s.timing.refState = .qualified then (.ref, 1)
  else match bestLane s with
    | some l => (.lane l, heardLevel s.lanes[l] + 1)
    | none => (.free, 8)

/-- A re-evaluation (R161): nothing when it picks the source already selected, else a change of selection with its
effects on the level, holdover (R163) and the step of the own frame (R165). -/
def reselect (s : State) : State :=
  let c := chooseSource s
  if c.1 = s.timing.selected then s
  else { s with timing := { s.timing with selected := c.1, level := c.2, changed := true, holdover := c.1 = .free
                                          phaseDue := c.1 ≠ .free } }

def setLaneTiming (l : Fin 9) (x : LaneTiming) (s : State) : State :=
  { s with timing := { s.timing with lanes := s.timing.lanes.set l x } }

/-- The qualified flag of a lane is judged; a change of it re-evaluates the selection (R160, R161). -/
def judgeLane (l : Fin 9) (s : State) : State :=
  let q := laneQualifies s l
  if q = s.timing.lanes[l].qualified then s
  else reselect (setLaneTiming l { s.timing.lanes[l] with qualified := q } s)

/-- A good header of the ALIGNED lane at the Timing Unit (R160, R162). -/
def timingHeader (l : Fin 9) (s : State) : State :=
  let s := judgeLane l s
  if s.timing.selected = .lane l then { s with timing := { s.timing with level := heardLevel s.lanes[l] + 1 } } else s

/-- Entry into ALIGNED (R159). -/
def timingEntry (l : Fin 9) (s : State) : State :=
  setLaneTiming l { alignedRounds := 0, wholeRound := false, qualified := s.timing.lanes[l].qualified } s

/-- Exit from ALIGNED (R159, R160). -/
def timingExit (l : Fin 9) (s : State) : State :=
  judgeLane l (setLaneTiming l { alignedRounds := 0, wholeRound := false, qualified := s.timing.lanes[l].qualified } s)

/-- The aligned-round counts of a peer lane at an own round start (R159). -/
def countAligned (aligned : Bool) (x : LaneTiming) : LaneTiming :=
  if aligned then { x with alignedRounds := if x.wholeRound then min 2 (x.alignedRounds + 1) else x.alignedRounds, wholeRound := true }
  else { x with alignedRounds := 0 }

/-- The selection age at an own round start (R161). -/
def ageStep (t : TimingUnit) : TimingUnit := { t with age := if t.changed then 0 else satInc 255 t.age, changed := false }

/-- The aligned-round counts of the peer lanes at an own round start (R159). -/
def countLanes (s : State) : State :=
  { s with timing := { s.timing with lanes := s.timing.lanes.mapIdx fun i x =>
    if h : i < 9 then
      if i = s.station.number.val then x else countAligned (s.lanes[i].state = .aligned) x
    else x } }

/-- The qualification changes that the counts bring (R160, R161). -/
def judgeLanes (s : State) : State := (List.finRange 9).foldl (fun s l => judgeLane l s) s

/-- The Timing Unit's work at an own round start: counts, re-evaluation, selection age (R161). -/
def timingWork (s : State) : State :=
  let s := reselect (judgeLanes (countLanes s))
  { s with timing := ageStep s.timing }

/-- The phase error (R164). -/
def phaseError (s : State) : Option Int :=
  match s.timing.selected with
  | .ref => s.timing.refPos
  | .lane l => s.lanes[l].capture
  | .free => none

/-- The length of the own frame that begins at place `f` of its round (R165, R166, R163). -/
def frameLength (f : Nat) (s : State) : Nat :=
  match s.station.state, phaseError s with
  | .listen, some e => if s.timing.phaseDue || f = 0 then (168 + e).toNat else Config.nominalFrame
  | .joined, some e => if f = 15 then (if 0 < e then 169 else if e < 0 then 167 else 168) else Config.nominalFrame
  | _, _ => Config.nominalFrame

end Sys2Proof.Machine
end

