-- ==== Sys2Proof/Machine/Health.lean ====
section
/-! DEFINITION. The Health Monitor's work at a span end (R121, R122, R133), the arrival and the departure of an adapter of
the pool (R103 to R112), and what a source's departure hands on for its tile group (R126 to R130). -/

namespace Sys2Proof.Machine

/-- The fault count after a span (R121). -/
def nextFaultCount (dets : Detections) (n : Nat) : Nat := if dets.any then satInc 15 n else 0

/-- Whether a span end sets the latch of a source (R122). -/
def latches (dets : Detections) (r : Source) : Bool := !r.latch && r.threshold ≤ nextFaultCount dets r.faultCount

/-- A span end of a source at the Health Monitor, with the evaluation of a latch under WITHDRAW (R66, R121, R122). -/
def healthSource (tag : Nat) (dets : Detections) (s : State) : State :=
  match visibleSource s.store tag with
  | none => s
  | some r =>
    let s := updateSource tag (fun r =>
      { r with faultCount := nextFaultCount dets r.faultCount, latch := r.latch || latches dets r }) s
    if latches dets r && r.action = .withdraw then evalSource tag s else s

/-- A span end of a client sink at the Health Monitor (R133). -/
def healthSink (tag : Nat) (dets : Detections) (s : State) : State :=
  updateSink tag (fun k => { k with faultCount := nextFaultCount dets k.faultCount }) s

/-- The completed detection set of an ended span reaches the Health Monitor (R112, R121, R133). -/
def healthOf (a : Adapter) (dets : Detections) (s : State) : State :=
  match a.kind with
  | .clientSink => healthSink a.tag dets s
  | _ => healthSource a.tag dets s

/-- The span end of record `n`, if a departure has ended a span and its span end has not been taken (R112, R113), with the
comparison it brings (R183). -/
def spanEndOf (n : Fin 96) (s : State) : State :=
  match s.store.pool[n] with
  | none => s
  | some a =>
    match a.ended with
    | none => s
    | some e => noted s (healthOf a (a.outcome e) (setAdapter n (some (a.endSpan e)) s))

/-- The span end of an order's adapter, if one is left (R105, R112). -/
def spanEndAt (n : Option (Fin 96)) (s : State) : State :=
  match n with
  | none => s
  | some n => spanEndOf n s

/-- An arrival at record `n` (R103). -/
def arriveAt (n : Fin 96) (blocks : List Block) (s : State) : State :=
  match s.store.pool[n] with
  | none => s
  | some a => setAdapter n (some (a.arrive blocks)) s

/-- What a source's departure hands on for its tile group: the mark and the content. -/
structure HandOver where
  tag : Nat
  mark : Mark
  blocks : List Block
  deriving DecidableEq, Repr

/-- The hand-over of a departure: mark and content by the latch as it stands then (R26, R110, R126). -/
def handOver (ports : Vector CarrierPort 4) (r : Source) (blocks : List Block) : HandOver where
  tag := r.tag
  mark := (sourceQuality ports r).mark
  blocks := if r.latch then
      match r.action with
      | .mark => []
      | .fill => List.replicate blocks.length Block.replacement
      | .withdraw => blocks
    else blocks

/-- The tile group that a hand-over fills: the group of its source if that is OFFERED as the frame is sent, none in every
other state (R26, R27, R110). -/
def HandOver.group (st : OrderStore) (h : HandOver) : Option Group :=
  match visibleSource st h.tag with
  | none => none
  | some r =>
    match r.state, r.firstTile with
    | .offered, some first =>
      some { first := first, cls := r.cls, tag := h.tag, mark := h.mark, fill := h.blocks.length, blocks := h.blocks }
    | _, _ => none

/-- The departure of one source order's adapter at the own frame boundary, with its span end unless that is left to a
SPAN_END of its own (R105, R110, R112, R126). -/
def departSource (leaveSpans : List (Fin 96)) (acc : State × List HandOver) (tag : Nat) : State × List HandOver :=
  match (visibleSource acc.1.store tag).bind (·.adapter) with
  | none => acc
  | some n =>
    let s := spanEndOf n acc.1
    match s.store.pool[n], visibleSource s.store tag with
    | some a, some r =>
      let d := a.depart
      let s := noteQuality (setAdapter n (some d.adapter) s) tag
      (if n ∈ leaveSpans then s else spanEndOf n s, acc.2 ++ [handOver s.carriers.ports r d.blocks])
    | _, _ => (s, acc.2)

/-- The departures of every source adapter at the own frame boundary (R105). -/
def sourceDepartures (leaveSpans : List (Fin 96)) (s : State) : State × List HandOver :=
  (s.store.sources.map (·.tag)).foldl (departSource leaveSpans) (s, [])

/-- A client port's output when its sink's order is removed (R20, R22). -/
def ClientEgress.drop : ClientEgress → ClientEgress
  | .departure blocks => .removed blocks
  | e => e

/-- What a client port's egress sends of a departure: the released blocks, then replacement blocks (R111). -/
def Departure.egress (d : Departure) : List Block := d.blocks ++ List.replicate d.topUp Block.replacement

/-- The departure of one client sink's adapter (R105, R111), with its span end unless that is left. -/
def departSink (leaveSpans : List (Fin 96)) (s : State) (tag : Nat) : State :=
  match findSink s.store tag with
  | none => s
  | some k =>
    match k.adapter, k.binding with
    | some n, .client port =>
      let s := spanEndOf n s
      match s.store.pool[n] with
      | none => s
      | some a =>
        let d := a.depart
        let s := setAdapter n (some d.adapter) s
        let s := { s with pins := { s.pins with clientOut := s.pins.clientOut.set port (.departure d.egress) } }
        if n ∈ leaveSpans then s else spanEndOf n s
    | _, _ => s

/-- The departures of every client sink's adapter (R105). -/
def sinkDepartures (leaveSpans : List (Fin 96)) (s : State) : State :=
  (s.store.sinks.map (·.tag)).foldl (departSink leaveSpans) s

end Sys2Proof.Machine
end

