-- ==== Sys2Proof/Machine/Lighting.lean ====
section
/-! DEFINITION. The Lighting Coordinator (R147 to R152): the sets of busy stations and the three round-start steps; and the
judgement of a carrier's DEGRADED condition at an own round start (R142). -/

namespace Sys2Proof.Machine

/-- A good header of an ALIGNED peer lane at the Lighting Coordinator: INTENT, LIGHTING and the undefined code 3 are busy
(R147, R193). -/
def lightingHeader (l : Fin 9) (h : Heard) (s : State) : State :=
  if h.light = 0 then s else { s with carriers := { s.carriers with current := s.carriers.current.set l true } }

/-- The set step (R147). -/
def rotateBusy (c : Carriers) : Carriers := { c with previous := c.current, current := Vector.replicate 9 false }

/-- First step, of one port (R149). -/
def staggerPort (p : CarrierPort) : CarrierPort :=
  match p.state, p.stagger with
  | .lighting, some n => if n ≤ 1 then { p with state := .lit, stagger := none } else { p with stagger := some (n - 1) }
  | _, _ => p

/-- Whether a lower-numbered station stands in a set (R150). -/
def lowerBusy (me : Fin 9) (busy : Vector Bool 9) : Bool := (List.finRange 9).any fun i => i < me && busy[i]

/-- Second step, of one port (R150). -/
def resolvePort (st : Station) (busy : Vector Bool 9) (p : CarrierPort) : CarrierPort :=
  match p.state with
  | .claiming =>
    if lowerBusy st.number busy then { p with state := .waiting }
    else { p with state := .lighting, stagger := some st.staggerSetting }
  | _ => p

/-- Whether a port of the station is CLAIMING or LIGHTING (R151). -/
def anyActive (ports : Vector CarrierPort 4) : Bool :=
  ports.toList.any fun p => p.state = .claiming || p.state = .lighting

/-- Third step (R151). -/
def claimStep (c : Carriers) : Carriers :=
  if anyActive c.ports || c.previous.toList.any (·) then c
  else match (List.finRange 4).find? fun p => c.ports[p].state = .waiting with
    | none => c
    | some p => { c with ports := c.ports.set p { c.ports[p] with state := .claiming } }

def mapPorts (f : CarrierPort → CarrierPort) (c : Carriers) : Carriers := { c with ports := c.ports.map f }

/-- Set step, and in JOINED the first two steps (R147, R149, R150, R152). -/
def lightingFirst (s : State) : State :=
  let c := rotateBusy s.carriers
  { s with carriers := if s.station.state = .joined then
      mapPorts (resolvePort s.station c.previous) (mapPorts staggerPort c) else c }

/-- The claim of a WAITING port, in JOINED only (R151, R152). -/
def claimWork (s : State) : State :=
  if s.station.state = .joined then { s with carriers := claimStep s.carriers } else s

/-- The Lighting Coordinator's work at an own round start. -/
def lightingWork (s : State) : State := claimWork (lightingFirst s)

/-- The DEGRADED judgement of one port at an own round start (R142). -/
def degradedPort (p : CarrierPort) : CarrierPort := { p with degraded := 2 ≤ p.roundErrors, roundErrors := 0 }

def degradedWork (s : State) : State := { s with carriers := mapPorts degradedPort s.carriers }

end Sys2Proof.Machine
end

