-- ==== Sys2Proof/Machine/Frames.lean ====
section
/-! DEFINITION. The own frame and the own round: the works of a round start (R68, R87, R142, R147 to R152, R161, R173,
R174), the frame that begins (R23 to R27, R137 to R139, R156), the Selector's reads and deliveries (R93 to R98) and the
own-lane loopback (R42, R62); and the commands OWN_FRAME_START, OWN_ROUND_START, CLIENT_SINK_DEPARTURE, SPAN_END,
CLIENT_INGRESS_BURST, RELEASE_COUNT_EXPIRY, WTR_EXPIRY, STAGGER_EXPIRY, CLAIM_ROUND_END and JOIN. -/

namespace Sys2Proof.Machine

/-! ### The works of a round start -/

/-- The count of complete rounds in LISTEN (R173). -/
def countListen (st : Station) : Station :=
  { st with listenRounds := if st.wholeRound then satInc 255 st.listenRounds else st.listenRounds, wholeRound := true }

/-- The join condition (R174). -/
def joinCondition (st : Station) (age : Nat) : Bool := 4 ≤ st.listenRounds && 2 ≤ age

/-- The Station Controller's work at an own round start in LISTEN: the count, then the join test (R173, R174). -/
def joinWork (s : State) : State :=
  if s.station.state = .listen then
    let st := countListen s.station
    { s with station := if joinCondition st s.timing.age then { st with state := .joined } else st }
  else s

/-- The effect of one work. -/
def roundWork : RoundWork → State → State
  | .pass, s => placementPass s
  | .snapshot, s => takeSnapshot s
  | .wtr, s => wtrWork s
  | .timing, s => timingWork s
  | .join, s => joinWork s
  | .lighting, s => lightingWork s
  | .claim, s => claimWork s
  | .degraded, s => degradedWork s

/-- A work that is due is taken, with the comparison it brings (R183). -/
def takeDue (w : RoundWork) (s : State) : State :=
  if w ∈ s.tx.due then event (roundWork w) { s with tx := { s.tx with due := s.tx.due.filter (· ≠ w) } } else s

/-- A work that is due is taken; the snapshot comes after the pass of its round start (R68). -/
def takeWork (s : State) (w : RoundWork) : State :=
  if w = .snapshot then takeDue .snapshot (takeDue .pass s) else takeDue w s

/-- The works of every own round start, in the order in which those that no command has taken are taken. -/
def allWorks : List RoundWork := [.pass, .snapshot, .wtr, .timing, .join, .lighting, .degraded]

/-- The order of a round start that comes with the frame boundary alone (assumption 7). -/
def usualOrder : List RoundWork := [.timing, .join, .pass, .snapshot, .lighting, .degraded]

/-- The own round start, reached when frame 15 of the round in progress ends (R23): the next round number, and the works
named in `order`, in that order. The WTR step is not among them: it follows the reads of frame 0 (R87). -/
def roundStart (order : List RoundWork) (s : State) : State :=
  if running s && s.tx.frame = 15 && !s.tx.boundary then
    let s := s.tx.due.foldl takeWork s
    let s := { s with tx := { s.tx with roundNo := (s.tx.roundNo + 1) % 65536, boundary := true, due := allWorks } }
    (order.filter (· ≠ .wtr)).foldl takeWork s
  else s

/-! ### The frame that begins -/

/-- An instant against the boundary that ends a frame of length `len` (R156). -/
def rebase (len : Nat) (e : Option Int) : Option Int := e.map (· - (len : Int))

/-- The open window's number against the own frame that begins (R31). -/
def stepWindow (x : LaneRx) : LaneRx :=
  if x.state = .aligning ∨ x.state = .aligned then { x with openWindow := x.openWindow - 1 } else x

/-- A position against the own frame after a frame of length `len`: smaller by what that frame exceeds 168 tile-times, and
again within −84 to +83 (R30, R156). -/
def movePosition (len : Nat) (p : Int) : Int := (p - ((len : Int) - 168) + 84) % 168 - 84

/-- The boundary that ends a frame of length `len`, at the Timing Unit and the Lane Receivers: every instant and position
held against the boundary moves with it, and the windows are counted from it (R30, R31, R156). The own lane's markers fall
at the boundary (R42). -/
def moveBoundary (len : Nat) (s : State) : State :=
  let me := s.station.number
  { s with
    timing := { s.timing with refExpected := rebase len s.timing.refExpected
                              refPos := s.timing.refPos.map (movePosition len) }
    carriers := mapPorts (fun p => { p with expected := rebase len p.expected }) s.carriers
    lanes := s.lanes.mapIdx fun i x =>
      if i = me.val then x else stepWindow { x with capture := x.capture.map (movePosition len) } }

/-- The next own frame begins: the boundary moves, and the phase error as it then stands gives the frame's length (R23,
R156, R164). -/
def beginFrame (s : State) : State :=
  let f := nextFrag s.tx.frame
  let s := moveBoundary s.tx.frameLen s
  { s with
    tx := { s.tx with frame := f, lastLen := s.tx.frameLen, frameLen := frameLength f s, tileTime := 0, boundary := false }
    timing := { s.timing with phaseDue := false } }

/-- The header fields of the own frame (R24). -/
def ownHeard (s : State) : Heard where
  station := s.station.number.val
  epoch := s.station.epoch
  joined := s.station.state = .joined
  round := s.tx.roundNo
  frag := s.tx.frame
  level := s.timing.level
  source := s.timing.selected.code
  light := (announcement s.carriers.ports).code
  count := s.tx.snapshot.length

/-- The manifest fragment of the frame at place `f`: entries 8f to 8f + 7, EMPTY beyond the count (R25). -/
def fragmentSlots (snapshot : List Entry) (f : Nat) : List Slot :=
  (List.range 8).map fun i =>
    match snapshot[8 * f + i]? with
    | some e => e.slot
    | none => Slot.empty

/-- The tiles of a lane frame of `len` tile-times: tile `t` is sent only when 8 + t is less than `len` (R23). -/
def laneTiles (groups : List Group) (len : Nat) : List Tile :=
  ((List.range 160).filter fun t => 8 + t < len).map (tileOf groups)

/-- The lane frame is sent (R23 to R27). The snapshot of a round whose frame 0 carries LISTEN is empty (R44). -/
def sendLane (groups : List Group) (s : State) : State :=
  let s := if s.tx.frame = 0 ∧ s.station.state ≠ .joined then { s with tx := { s.tx with snapshot := [] } } else s
  let frame : LaneFrame :=
    { words := headerWords (ownHeard s) (fragmentSlots s.tx.snapshot s.tx.frame), tiles := laneTiles groups s.tx.frameLen }
  { s with pins := { s.pins with laneOut := some frame } }

/-! ### Reads and deliveries -/

/-- The group a carrier sink writes for its read (R95): the read group, or its tag with FAILED and fill 0. -/
def sinkGroup (k : Sink) (read : Option (Quality × List Block)) : Option (Fin 4 × Group) :=
  match k.binding with
  | .client _ => none
  | .carrier port first =>
    match read with
    | some (q, blocks) =>
      some (port, { first := first, cls := k.cls, tag := k.tag, mark := q.mark, fill := blocks.length, blocks := blocks })
    | none => some (port, { first := first, cls := k.cls, tag := k.tag, mark := .failed, fill := 0, blocks := [] })

/-- A sink's counters and delivered mark after its read (R94, R96, R98). -/
def Sink.afterRead (k : Sink) (read : Option (Quality × List Block)) : Sink :=
  match read with
  | some (q, _) => { k with delivered := q }
  | none => { k with delivered := .failed, slips := if k.sel.isSome then satInc 255 k.slips else k.slips }

/-- The delivery of one sink's read: the arrival at a client sink's adapter, the mark and the slip (R94, R96, R98). -/
def deliver (s : State) (e : Sink × Option (Quality × List Block)) : State :=
  let s := updateSink e.1.tag (·.afterRead e.2) s
  match e.1.adapter, e.2 with
  | some n, some (_, blocks) => arriveAt n blocks s
  | _, _ => s

/-- The tiles of a carrier frame of `len` tile-times (R137): in a shortened frame the tiles that fall at or after its end
are not sent, and their place holds nothing. Those are the last of the 40, as many as the free places say (assumption 5). -/
def carrierTiles (groups : List Group) (len : Nat) : List Tile :=
  (List.range 40).map fun t =>
    if Config.nominalFrame ≤ len ∨ Config.carrierTilePlace t < len then tileOf groups t else vacantTile

/-- What a port sends in the own frame that begins (R139). -/
def carrierSend (me : Fin 9) (len : Nat) (groups : List Group) (p : Fin 4) (st : PortState) : Option CarrierFrame :=
  match st with
  | .lit => some (carrierFrame (carrierHeader me.val p.val) (carrierTiles groups len))
  | .lighting => some (carrierFrame (carrierHeader me.val p.val) (carrierTiles [] len))
  | _ => none

/-- What a client egress position sends as a frame begins: a free position sends replacement blocks only (R3, R20), and so
does one whose sink has been removed, until a new sink's departure (R20, R22, R111). -/
def egressStart (bound : Option Nat) (now : ClientEgress) : ClientEgress :=
  match bound, now with
  | some _, .off => .off
  | some _, .departure blocks => .departure blocks
  | _, _ => .free

/-- The Selector's reads of the frame, their deliveries, and the carrier frames built from them (R93 to R98, R137 to
R139). -/
def readAndDeliver (s : State) : State :=
  let reads := s.store.sinks.map fun k => (k, sinkRead s.lanes k)
  let groups := reads.filterMap fun e => sinkGroup e.1 e.2
  let me := s.station.number
  let len := s.tx.frameLen
  let ports := s.carriers.ports
  let bound := s.store.clientEgr
  let s := reads.foldl deliver s
  { s with pins := { s.pins with
      carrierOut := Vector.ofFn fun p : Fin 4 =>
        carrierSend me len ((groups.filter (·.1 = p)).map Prod.snd) p ports[p].state
      clientOut := s.pins.clientOut.mapIdx fun i x => egressStart (bound[i]?.getD none) x } }

/-! ### The own-lane loopback (R42, R62) -/

/-- The own-lane receiver after its own frame (R42). -/
def ownReceiver (h : Heard) (tiles : List Tile) (x : LaneRx) : LaneRx :=
  { x with capture := some 0, heard := some h, windows := (some tiles :: x.windows).take 4 }

/-- The alignment buffer of the own lane takes the own frame (R41, R42). -/
def loopbackFrame (s : State) : State :=
  match s.pins.laneOut with
  | none => s
  | some f => setLane s.station.number (ownReceiver (ownHeard s) f.tiles s.lanes[s.station.number]) s

/-- Whether a header of epoch `e` changes the epoch last heard (R39, R58). -/
def epochChanged (old : Option Heard) (e : Nat) : Bool :=
  match old with
  | none => false
  | some h => h.epoch ≠ e

/-- The frame sent is heard back: first into the alignment buffer, then, after the frame's reads, its header at the Peer
View. `old` is the heard header before it. -/
def loopbackHeader (old : Option Heard) (s : State) : State :=
  viewHeader s.station.number (ownHeard s) (fragmentSlots s.tx.snapshot s.tx.frame) (epochChanged old s.station.epoch) s

/-- The work of an own frame boundary from the header on: lane frame, loopback, reads, carrier frames (R23 to R27, R42,
R93 to R98, R137). -/
def frameBody (groups : List Group) (s : State) : State :=
  let old := s.lanes[s.station.number].heard
  let s := sendLane groups s
  let s := loopbackFrame s
  let s := event readAndDeliver s
  event (loopbackHeader old) s

/-! ### The commands -/

/-- The works that a round start which comes with its frame boundary takes before the frame begins: the usual ones, but
those in `leave`; with the pass the snapshot is left too. -/
def boundaryOrder (leave : List RoundWork) : List RoundWork :=
  usualOrder.filter fun w => w ∉ leave ∧ (w = .snapshot → .pass ∉ leave)

/-- The boundary of the next own frame (R23): a round start still to come, the departures, the frame, and the works of a
round start that are still due, but those in `leave`. The pass is taken before the departures, or, when `leave` names it,
after them and their span ends (R76, R135); the snapshot follows it, and then the frame is sent (R44, R68). At frame 0 the
notice of the own lane's header (R62) comes before a WTR step still due, an order that R92 leaves open (assumption 7). -/
def frameStart (leave : List RoundWork) (leaveSpans : List (Fin 96)) (s : State) : State :=
  let s := if s.tx.boundary then s else s.tx.due.foldl takeWork s
  let s := if s.tx.frame = 15 ∧ s.tx.boundary = false then roundStart (boundaryOrder leave) s else s
  let s := if .pass ∈ leave then s else takeWork s .pass
  let s := beginFrame s
  let d := sourceDepartures leaveSpans s
  let s := takeWork (noted s d.1) .snapshot
  let s := frameBody (d.2.filterMap (·.group s.store)) s
  (s.tx.due.filter (· ∉ leave)).foldl takeWork s

/-- OWN_FRAME_START (R23). In COLD no frame runs (R170). -/
def execOwnFrameStart (leave : List RoundWork) (leaveSpans : List (Fin 96)) (s : State) :
    Host.Outcome State Fault Refusal :=
  .next (if running s then finish s (frameStart leave leaveSpans s) else s)

/-- OWN_ROUND_START (R68): the works of the round start that are taken before frame 0 begins. It comes when frame 15 of the
round in progress ends; at another place of the round there is no round start, and nothing changes. -/
def execOwnRoundStart (order : List RoundWork) (s : State) : Host.Outcome State Fault Refusal :=
  .next (finish s (roundStart order s))

/-- CLIENT_SINK_DEPARTURE (R105, R111): at tile-time 84, or 83 in a frame of 84 tile-times. -/
def execClientSinkDeparture (leaveSpans : List (Fin 96)) (s : State) : Host.Outcome State Fault Refusal :=
  .next (if running s then
    finish s (sinkDepartures leaveSpans (atTime (if s.tx.frameLen = 84 then 83 else 84) s)) else s)

/-- SPAN_END (R112, R113, R121, R122): the span end of a record whose latest departure has brought the span frame count to S. -/
def execSpanEnd (n : Fin 96) (s : State) : Host.Outcome State Fault Refusal :=
  .next (if running s then finish s (spanEndOf n s) else s)

/-- CLIENT_INGRESS_BURST (R104): one arrival at the bound client source's adapter; on a free port the blocks are discarded
(R3), and in COLD they are not taken (R170). -/
def execClientIngressBurst (port : Fin 32) (blocks : List Block) (s : State) : Host.Outcome State Fault Refusal :=
  .next (if running s then
    match (s.store.clientIn[port].bind (visibleSource s.store)).bind (·.adapter) with
    | none => s
    | some n => finish s (arriveAt n blocks s)
  else s)

/-- Whether the release count of an OFFERED source reaches 4 at this count (R70). -/
def releaseExpires (s : State) (r : Source) : Bool :=
  r.state = .offered && !isWanted s.view r && r.releaseCount = 3

/-- RELEASE_COUNT_EXPIRY (R70): at a round start whose pass is still due, the count of this source reaches 4 and the source
becomes RETIRING, with its tiles kept. The expiry is the pass's, whose steps are taken together (R68). -/
def execReleaseCountExpiry (tag : Nat) (s : State) : Host.Outcome State Fault Refusal :=
  .next (match visibleSource s.store tag with
    | none => s
    | some r =>
      if running s && s.tx.due.contains .pass && releaseExpires s r then
        finish s (takeWork s .pass)
      else s)

/-- WTR_EXPIRY (R88): at a round start whose WTR step is still due, after the reads of frame 0, this sink's count reaches W
and the sink reverts to the best candidate. The expiry is the WTR step's, which is taken once for every sink (R87). -/
def execWtrExpiry (tag : Nat) (s : State) : Host.Outcome State Fault Refusal :=
  .next (match findSink s.store tag with
    | none => s
    | some k =>
      if running s && !s.tx.boundary && s.tx.due.contains .wtr &&
          k.wtrExpires (candidates s k.tag k.cls) s.pins.hold then
        finish s (takeWork s .wtr)
      else s)

/-- The set step and the first two lighting steps are taken, and the third is left due (R147, R149, R150). -/
def lightingToClaim (s : State) : State :=
  let s := lightingFirst s
  { s with tx := { s.tx with due := s.tx.due.map fun w => if w = .lighting then .claim else w } }

/-- STAGGER_EXPIRY (R149): at a round start in JOINED whose lighting steps are still due, the stagger count of this port
reaches 0 and the port becomes LIT. The set step comes before it, and no other port is CLAIMING or LIGHTING (R151), so the
first two steps are taken by it and the third is left due. -/
def execStaggerExpiry (p : Fin 4) (s : State) : Host.Outcome State Fault Refusal :=
  .next (if s.station.state = .joined && s.tx.due.contains .lighting &&
      s.carriers.ports[p].state = .lighting && s.carriers.ports[p].stagger = some 1 then
    finish s (lightingToClaim s) else s)

/-- CLAIM_ROUND_END (R150): at a round start in JOINED whose lighting steps are still due, the CLAIMING port reaches the end
of its claim round. The set step and the first lighting step come before it, and the third is left due. -/
def execClaimRoundEnd (p : Fin 4) (s : State) : Host.Outcome State Fault Refusal :=
  .next (if s.station.state = .joined && s.tx.due.contains .lighting && s.carriers.ports[p].state = .claiming then
    finish s (lightingToClaim s) else s)

/-- JOIN (R174): at a round start in LISTEN whose join test is still due, the count is taken, the condition holds, and the
station becomes JOINED. -/
def execJoin (s : State) : Host.Outcome State Fault Refusal :=
  .next (if s.station.state = .listen && s.tx.due.contains .join &&
      joinCondition (countListen s.station) s.timing.age then finish s (takeWork s .join) else s)

end Sys2Proof.Machine
end

