-- ==== Sys2Proof/Machine/Carrier.lean ====
section
/-! DEFINITION. The Carrier Ingress blocks (R140 to R145): the framer, the frame check, the far-end identity and the
extraction; and the commands CARRIER_MARKER_ARRIVAL, CARRIER_SYNC_ENTRY, CARRIER_WINDOW_CLOSE, CARRIER_SYNC_LOSS and
FAR_END_FRAME_END. -/

namespace Sys2Proof.Machine

/-! ### The framer -/

/-- Whether a marker at `t` lies in the ±2 window around the expected instant (R140, R141). -/
def inCarrierWindow (t : Nat) (p : CarrierPort) : Bool :=
  match p.expected with
  | none => false
  | some e => within 2 (t : Int) e

/-- The next marker is due one nominal frame after a marker at `t` (R140). -/
def dueAfter (t : Nat) : Option Int := some ((t : Int) + 168)

/-- Whether a marker at `t` brings the confirm count to 3 (R140). -/
def confirmsNow (t : Nat) (p : CarrierPort) : Bool :=
  p.framer = .confirm && inCarrierWindow t p && p.confirm = some 2

/-- A far-end marker at the framer (R140, R141). A marker that falls together with the closing of its window, the closing
taken first, is judged by the state the closing left: ignored while that is SYNC; and where the closing returns the framer to
HUNT, from CONFIRM or after the fourth window in a row in SYNC, the marker that starts CONFIRM (assumption 37). -/
def framerMarker (t : Nat) (p : CarrierPort) : CarrierPort :=
  match p.framer with
  | .hunt => { p with framer := .confirm, confirm := some 1, expected := dueAfter t, receiving := false, receivingOld := false }
  | .confirm =>
    if confirmsNow t p then
      { p with framer := .sync, confirm := none, expected := dueAfter t, missing := 0, receiving := true, receivingOld := false }
    else if inCarrierWindow t p then { p with confirm := p.confirm.map (· + 1), expected := dueAfter t }
    else p
  | .sync =>
    if inCarrierWindow t p then
      { p with missing := 0, expected := dueAfter t, receiving := true, receivingOld := p.receiving }
    else p

/-- The framer in HUNT (R140, R141). -/
def framerHunt (p : CarrierPort) : CarrierPort :=
  { p with framer := .hunt, confirm := none, expected := none, missing := 0, receiving := false, receivingOld := false }

/-- Whether a window closing without a marker is the fourth in a row in SYNC (R141). -/
def losesSync (p : CarrierPort) : Bool := p.framer = .sync && 3 ≤ p.missing

/-- A window that closes without a marker, at the framer (R140, R141). -/
def framerMiss (p : CarrierPort) : CarrierPort :=
  match p.framer with
  | .hunt => p
  | .confirm => framerHunt p
  | .sync =>
    if losesSync p then framerHunt p
    else { p with missing := p.missing + 1, expected := p.expected.map (· + 168), receiving := false, receivingOld := false }

/-- The ingress status of a visible carrier-ingress source bound to port `p` becomes absent (R124, R141). -/
def dropOne (p : Fin 4) (r : Source) : Source :=
  if r.carrierPort = some p && !r.removed then { r with ingress := .absent } else r

/-- The same of every source of the station. -/
def dropIngress (p : Fin 4) (s : State) : State :=
  { s with store := { s.store with sources := s.store.sources.map (dropOne p) } }

/-- A window closing without a marker, with the effects of an exit from SYNC (R140, R141). -/
def windowMissed (p : Fin 4) (s : State) : State :=
  let x := s.carriers.ports[p]
  let s := setPort p (framerMiss x) s
  if losesSync x then dropIngress p s else s

/-! ### The end of a far-end frame -/

/-- The far-end identity of a carrier header; a station number above 8 gives none (R143, R193). -/
def identityOf (header : Word) : Option (Nat × Nat) :=
  let station := field header 15 12
  if station ≤ 8 then some (station, field header 11 10) else none

/-- Whether the far-end frame that ends began with a marker taken in SYNC (R142, R144). `behind`: the next frame's marker,
which falls at the same moment, has been taken before this end (R154). -/
def endsReceived (behind : Bool) (p : CarrierPort) : Bool :=
  p.framer = .sync && (if behind then p.receivingOld else p.receiving)

/-- The frame that ends is no longer in progress. -/
def frameOver (behind : Bool) (p : CarrierPort) : CarrierPort :=
  if behind then { p with receivingOld := false } else { p with receiving := false }

/-- The frame check and the identity at the port (R142, R143). -/
def judgeFrame (f : CarrierFrame) (p : CarrierPort) : CarrierPort :=
  if carrierCheckGood f then { p with farEnd := (identityOf f.header).or p.farEnd }
  else { p with roundErrors := satInc 65535 p.roundErrors, errorTotal := satInc 65535 p.errorTotal }

/-- The extraction for one carrier-ingress source (R124, R144). -/
def extractFor (p : Fin 4) (tiles : List Tile) (s : State) (tag : Nat) : State :=
  match visibleSource s.store tag with
  | none => s
  | some r =>
    match r.binding with
    | .client _ => s
    | .carrier q first =>
      if q = p then
        match readGroup tiles first r.cls r.tag with
        | some (m, blocks) =>
          let s := updateSource tag (fun r => { r with ingress := .passed m }) s
          match r.adapter with
          | some n => arriveAt n blocks s
          | none => s
        | none => updateSource tag (fun r => { r with ingress := .refused }) s
      else s

/-- The end of a far-end frame whose marker was taken in SYNC (R142 to R144). -/
def farEndFrame (p : Fin 4) (f : EndedFrame) (s : State) : State :=
  let s := setPort p (judgeFrame f.toCarrierFrame (frameOver f.behind s.carriers.ports[p])) s
  (s.store.sources.map (·.tag)).foldl (extractFor p f.tiles) s

/-! ### The commands -/

/-- CARRIER_MARKER_ARRIVAL (R140, R141): `t` is the own tile-time counter at the marker. In COLD the framer stays in HUNT
(R145). -/
def execCarrierMarkerArrival (p : Fin 4) (t : Nat) (s : State) : Host.Outcome State Fault Refusal :=
  .next (if running s then finish s (setPort p (framerMarker t s.carriers.ports[p]) (atTime t s)) else s)

/-- CARRIER_SYNC_ENTRY (R140): the marker that brings the confirm count to 3. -/
def execCarrierSyncEntry (p : Fin 4) (t : Nat) (s : State) : Host.Outcome State Fault Refusal :=
  .next (if running s && confirmsNow t s.carriers.ports[p] then
    finish s (setPort p (framerMarker t s.carriers.ports[p]) (atTime t s)) else s)

/-- CARRIER_WINDOW_CLOSE (R140, R141): a framer window closes without a marker. -/
def execCarrierWindowClose (p : Fin 4) (s : State) : Host.Outcome State Fault Refusal :=
  .next (if running s then finish s (windowMissed p s) else s)

/-- CARRIER_SYNC_LOSS (R141): the window whose closing is the fourth missing in a row. -/
def execCarrierSyncLoss (p : Fin 4) (s : State) : Host.Outcome State Fault Refusal :=
  .next (if running s && losesSync s.carriers.ports[p] then finish s (windowMissed p s) else s)

/-- FAR_END_FRAME_END (R142 to R144): the end of a far-end frame. A frame received outside SYNC, or one of a window without
a marker, is neither checked nor extracted. -/
def execFarEndFrameEnd (p : Fin 4) (f : EndedFrame) (s : State) : Host.Outcome State Fault Refusal :=
  .next (if running s && endsReceived f.behind s.carriers.ports[p] then finish s (farEndFrame p f s) else s)

end Sys2Proof.Machine
end

