-- ==== Sys2Proof/Machine/Highway.lean ====
section
/-! DEFINITION. The Lane Receivers of peer lanes (R29 to R41): markers, windows, headers, alignment, tracking, drift and
loss; and the commands LANE_MARKER_ARRIVAL, TRACKING_MOVE, LANE_HEADER_RECEIVED, STALE_MANIFEST_CLEAR,
MARKER_WINDOW_CHECK and MISSED_MARKER_LIMIT. -/

namespace Sys2Proof.Machine

/-- The largest offset of a lane that can align (R34). -/
def skewLimit : Int := 24

/-- Place `i` of the window list takes a frame; places between are windows without one. -/
def putWindow : List (Option (List Tile)) → Nat → List Tile → List (Option (List Tile))
  | [], 0, f => [some f]
  | [], i + 1, f => none :: putWindow [] i f
  | _ :: ws, 0, f => some f :: ws
  | w :: ws, i + 1, f => w :: putWindow ws i f

/-! ### Markers -/

/-- Alignment starts, or starts anew, at the capture of a marker (R32, R33, R37). The open window is that of the own frame
whose check instant, taken from the candidate, comes next (R31). -/
def startAligning (t : Nat) (x : LaneRx) : LaneRx :=
  { x with
    state := .aligning
    capture := some (skewOf t)
    candidate := some (skewOf t)
    matchCount := 1
    held := none
    trackCount := 0
    drift := 0
    missed := 0
    skewRange := !within skewLimit (skewOf t) 0
    windows := []
    openWindow := if t ≤ 83 then 0 else 1
    slot := 0
    windowMarker := true
    windowHeader := false }

/-- What every marker does to a receiver that has windows (R30, R31): it is captured, and it belongs to the open window. -/
def heardMarker (t : Nat) (x : LaneRx) : LaneRx :=
  { x with capture := some (skewOf t), missed := 0, slot := 0, windowMarker := true }

/-- A marker in ALIGNING against the candidate (R33). -/
def alignMarker (t : Nat) (x : LaneRx) : LaneRx :=
  match x.candidate with
  | none => startAligning t x
  | some c =>
    if within 1 (skewOf t) c then { heardMarker t x with matchCount := min 3 (x.matchCount + 1) } else startAligning t x

/-- Whether a marker of an ALIGNED lane is the sixteenth on one side of held skew (R36). -/
def trackingReaches (held : Int) (skew : Int) (x : LaneRx) : Bool :=
  skew ≠ held && within 2 skew held && x.trackCount = 15 && x.trackMinus = decide (skew < held)

/-- Held skew moved by one towards a side, not beyond ±24 (R36). -/
def moveHeld (minus : Bool) (held : Int) : Int :=
  if minus then max (-skewLimit) (held - 1) else min skewLimit (held + 1)

/-- A good marker of an ALIGNED lane, with its tracking (R36). -/
def trackMarker (held : Int) (skew : Int) (x : LaneRx) : LaneRx :=
  let x := { x with drift := 0 }
  if skew = held then { x with trackCount := 0 }
  else if trackingReaches held skew x then { x with trackCount := 0, held := some (moveHeld x.trackMinus held) }
  else if 0 < x.trackCount ∧ x.trackMinus = decide (skew < held) then { x with trackCount := x.trackCount + 1 }
  else { x with trackMinus := decide (skew < held), trackCount := 1 }

/-- Whether a marker of an ALIGNED lane is a second consecutive drift (R37). -/
def driftsOut (held : Int) (skew : Int) (x : LaneRx) : Bool := !within 2 skew held && x.drift ≠ 0

/-- A marker of an ALIGNED lane that leaves it ALIGNED (R36, R37); its frame takes the open window (R41). -/
def alignedMarker (held : Int) (t : Nat) (x : LaneRx) : LaneRx :=
  let y := { heardMarker t x with windows := putWindow x.windows 0 [] }
  if within 2 (skewOf t) held then trackMarker held (skewOf t) y
  else { y with drift := 1, trackCount := 0 }

/-- The effects of an exit from ALIGNED at the receiver's neighbours (R40, R56, R159), with the comparisons they bring
(R183). -/
def exitAligned (l : Fin 9) (s : State) : State :=
  event (timingExit l) (event (viewExit l) (event (exitSelector l) s))

/-- A marker on a peer lane (R30 to R33, R36, R37). -/
def laneMarker (l : Fin 9) (t : Nat) (s : State) : State :=
  let s := atTime t s
  let x := s.lanes[l]
  match x.state with
  | .absent | .lost => setLane l (startAligning t x) s
  | .aligning => setLane l (alignMarker t x) s
  | .aligned =>
    match x.held with
    | none => exitAligned l (setLane l (startAligning t x) s)
    | some held =>
      if driftsOut held (skewOf t) x then exitAligned l (setLane l (startAligning t x) s)
      else setLane l (alignedMarker held t x) s

/-! ### Headers -/

/-- A bad header: counted; in ALIGNED its frame's tiles still enter the alignment buffer (R39). -/
def badHeader (tiles : List Tile) (x : LaneRx) : LaneRx :=
  match x.state with
  | .aligned => { x with headerErrors := satInc 65535 x.headerErrors, windows := putWindow x.windows x.slot tiles }
  | .aligning => { x with headerErrors := satInc 65535 x.headerErrors }
  | _ => x

/-- A good header of an ALIGNED lane that names the lane, at the receiver (R39, R41). -/
def goodHeader (h : Heard) (tiles : List Tile) (x : LaneRx) : LaneRx :=
  { x with heard := some h, windows := putWindow x.windows x.slot tiles, windowHeader := true }

/-- Entry into ALIGNED (R33, R41). -/
def enterAligned (c : Int) (h : Heard) (tiles : List Tile) (x : LaneRx) : LaneRx :=
  { x with
    state := .aligned
    candidate := none
    matchCount := 0
    held := some c
    trackCount := 0
    drift := 0
    missed := 0
    misplug := false
    heard := some h
    alignments := satInc 255 x.alignments
    windows := putWindow [] x.slot tiles
    windowHeader := true }

/-- The misplug exit of an ALIGNED lane: held skew becomes the candidate, match count 0 (R39). -/
def misplugged (h : Heard) (x : LaneRx) : LaneRx :=
  { x with
    state := .aligning
    candidate := x.held
    matchCount := 0
    held := none
    trackCount := 0
    drift := 0
    misplug := true
    heard := some h
    windows := [] }

/-- The header fields reach the Peer View, the Timing Unit and the Lighting Coordinator (R39), with the comparisons they bring
(R183). -/
def passHeader (l : Fin 9) (h : Heard) (slots : List Slot) (epochChange : Bool) (s : State) : State :=
  lightingHeader l h (event (timingHeader l) (event (viewHeader l h slots epochChange) s))

/-- Whether a good header naming the lane completes alignment (R33). -/
def completes (x : LaneRx) : Option Int :=
  match x.candidate with
  | none => none
  | some c => if x.matchCount = 3 ∧ within skewLimit c 0 then some c else none

/-- A good header in ALIGNING (R33, R35). -/
def aligningHeader (l : Fin 9) (h : Heard) (slots : List Slot) (tiles : List Tile) (x : LaneRx) (s : State) : State :=
  if h.station ≠ l.val then setLane l { x with heard := some h, misplug := true, matchCount := 0 } s
  else match completes x with
    | some c => passHeader l h slots false (timingEntry l (setLane l (enterAligned c h tiles x) s))
    | none => setLane l { x with heard := some h, misplug := false } s

/-- A good header in ALIGNED (R39): its fields are passed on (R39, R50, R147), and one that names another station then ends
ALIGNED (assumption 35). -/
def alignedHeader (l : Fin 9) (h : Heard) (slots : List Slot) (tiles : List Tile) (x : LaneRx) (s : State) : State :=
  let s := passHeader l h slots (epochChanged x.heard h.epoch) (setLane l (goodHeader h tiles x) s)
  if h.station ≠ l.val then exitAligned l (setLane l (misplugged h x) s) else s

/-- A header on a peer lane, with the tiles of its frame (R28, R33, R35, R39). In ABSENT and LOST it is not taken. -/
def laneHeader (l : Fin 9) (words : List Word) (tiles : List Tile) (s : State) : State :=
  let x := s.lanes[l]
  if checkGood (words.take 29) then
    match x.state with
    | .aligning => aligningHeader l (heardOf words) (slotsOf words) tiles x s
    | .aligned => alignedHeader l (heardOf words) (slotsOf words) tiles x s
    | .absent | .lost => s
  else setLane l (badHeader tiles x) s

/-! ### Windows -/

/-- The window just closed had no marker (R31). -/
def missMarker (x : LaneRx) : LaneRx :=
  { x with capture := none, trackCount := 0, drift := 0, matchCount := 0, missed := x.missed + 1 }

/-- The next window opens (R31, R41). -/
def nextWindow (x : LaneRx) : LaneRx :=
  { x with
    windows := if x.state = .aligned then (none :: x.windows).take 4 else x.windows
    openWindow := x.openWindow + 1
    slot := x.slot + 1
    windowMarker := false
    windowHeader := false }

/-- The receiver after a check instant, before the eighth missed marker acts (R31). -/
def checkedWindow (x : LaneRx) : LaneRx := nextWindow (if x.windowMarker then x else missMarker x)

/-- The receiver of a lane LOST (R38). -/
def lostLane (x : LaneRx) : LaneRx := { x with state := .lost, missed := 0, capture := none, windows := [] }

/-- The receiver of a lane that fails to align (R38). -/
def absentLane (x : LaneRx) : LaneRx :=
  { x with state := .absent, missed := 0, capture := none, candidate := none, held := none, matchCount := 0
           skewRange := false, misplug := false, windows := [] }

/-- Whether this check instant counts the eighth consecutive missed marker (R38). -/
def missLimit (x : LaneRx) : Bool := !x.windowMarker && 7 ≤ x.missed

/-- The check instant that closes a marker window of a peer lane (R31, R38, R50, R52). -/
def windowCheck (l : Fin 9) (s : State) : State :=
  let x := s.lanes[l]
  match x.state with
  | .absent | .lost => s
  | .aligning => setLane l (if missLimit x then absentLane (checkedWindow x) else checkedWindow x) s
  | .aligned =>
    let s := setLane l (checkedWindow x) s
    let s := if x.windowHeader then s else event (viewUnheard l) s
    if missLimit x then exitAligned l (setLane l (lostLane (checkedWindow x)) s) else s

/-! ### The commands -/

/-- LANE_MARKER_ARRIVAL (R30): `t` is the own tile-time counter at the marker. The pins of the own position are unused
(R42), and in COLD no marker is taken (R170). -/
def execLaneMarkerArrival (l : Fin 9) (t : Nat) (s : State) : Host.Outcome State Fault Refusal :=
  .next (if peerLane l s then finish s (laneMarker l t s) else s)

/-- Whether a marker at `t` brings the tracking count of an ALIGNED lane to 16 (R36). -/
def tracksNow (l : Fin 9) (t : Nat) (s : State) : Bool :=
  s.lanes[l].state = .aligned &&
    (match s.lanes[l].held with
     | none => false
     | some held => trackingReaches held (skewOf t) s.lanes[l])

/-- TRACKING_MOVE (R36): the marker arrival that brings the tracking count to 16. -/
def execTrackingMove (l : Fin 9) (t : Nat) (s : State) : Host.Outcome State Fault Refusal :=
  .next (if peerLane l s && tracksNow l t s then finish s (laneMarker l t s) else s)

/-- LANE_HEADER_RECEIVED (R39). -/
def execLaneHeaderReceived (l : Fin 9) (words : List Word) (tiles : List Tile) (s : State) :
    Host.Outcome State Fault Refusal :=
  .next (if peerLane l s then finish s (laneHeader l words tiles s) else s)

/-- The event that ends a lane round: a received header, or the check instant of an unheard window. -/
def roundEnd (l : Fin 9) (cause : RoundEnd) (s : State) : State :=
  match cause with
  | .header words tiles => laneHeader l words tiles s
  | .unheard => windowCheck l s

/-- Whether the event ends a lane round incomplete, so that the stale count of a manifest in force reaches 3 and clears it
(R55), and no LISTEN state or epoch change clears the manifest instead. A header of fragment 15 out of its place ends two
rounds, and takes the count there from 1. The round ends before an exit from ALIGNED that the same event brings. -/
def staleReaches (l : Fin 9) (cause : RoundEnd) (s : State) : Bool :=
  let v := s.view[l]
  s.lanes[l].state = .aligned && v.manifest.isSome &&
    (match cause with
     | .header words _ =>
       let h := heardOf words
       checkGood (words.take 29) && h.joined && !epochChanged s.lanes[l].heard h.epoch &&
         (v.fragment h (slotsOf words)).1.manifest.isNone
     | .unheard => !s.lanes[l].windowHeader && v.unheard.manifest.isNone)

/-- STALE_MANIFEST_CLEAR (R55): the end of a lane round that brings the stale count to 3. -/
def execStaleManifestClear (l : Fin 9) (cause : RoundEnd) (s : State) : Host.Outcome State Fault Refusal :=
  .next (if peerLane l s && staleReaches l cause s then finish s (roundEnd l cause s) else s)

/-- MARKER_WINDOW_CHECK (R31). -/
def execMarkerWindowCheck (l : Fin 9) (s : State) : Host.Outcome State Fault Refusal :=
  .next (if peerLane l s then finish s (windowCheck l s) else s)

/-- Whether the lane has windows and the one that closes now is the eighth in a row without a marker (R38). -/
def missesOut (x : LaneRx) : Bool := (x.state = .aligned || x.state = .aligning) && missLimit x

/-- MISSED_MARKER_LIMIT (R38): the check instant that counts the eighth consecutive missed marker. -/
def execMissedMarkerLimit (l : Fin 9) (s : State) : Host.Outcome State Fault Refusal :=
  .next (if peerLane l s && missesOut s.lanes[l] then finish s (windowCheck l s) else s)

end Sys2Proof.Machine
end

