-- ==== Sys2Proof/Machine/Restarts.lean ====
section
/-! DEFINITION. Cold start and engine restart (R168 to R171, R176, R189, R190): the commands POWER_UP, RESET_ASSERTED,
COLD_START_END and RESTART_ENGINE. -/

namespace Sys2Proof.Machine

/-! ### Cold start -/

/-- The event that begins COLD: every block takes its cold-start values (R170). The commands that wait and the level of
the HOLD input are not the engine's, and what a transfer in progress has shifted out of the slot stays sent (R178). -/
def coldStart (cause : RestartCause) (s : State) : State :=
  { State.reset with
    pending := s.pending
    station := Station.cold cause
    mport := s.mport.cold
    pins := Pins.cold s.pins.hold }

/-- POWER_UP (R170): power-up begins COLD with restart cause POWER. -/
def execPowerUp (s : State) : Host.Outcome State Fault Refusal :=
  .next (finish s (coldStart .power s))

/-- RESET_ASSERTED (R170): COLD with restart cause PIN from LISTEN or JOINED; nothing in COLD. -/
def execResetAsserted (s : State) : Host.Outcome State Fault Refusal :=
  .next (if running s then finish s (coldStart .pin s) else s)

/-- The station record at the end of a cold start (R169, R171). -/
def strapped (straps : Straps) (st : Station) : Station where
  state := .listen
  number := ⟨3 * straps.sna.val + straps.snb.val, by omega⟩
  staggerSetting := if straps.stg = 0 then 125 else if straps.stg = 1 then 250 else 500
  refUse := straps.refu = 1
  epoch := 0
  cause := st.cause
  listenRounds := 0
  wholeRound := true

/-- The own-lane receiver at the end of a cold start (R42): ALIGNED with held skew 0, its first entry into ALIGNED
(assumption 15). -/
def LaneRx.own : LaneRx := { LaneRx.cold with state := .aligned, capture := some 0, held := some 0, alignments := 1 }

/-- The lane, carrier and station items take snapshots of their fields as they stand, with their flags clear (R189,
R190). -/
def retakeSnapshots (s : State) : State :=
  { s with report := { s.report with
      lanes := s.lanes.map fun x => { snap := laneReport x, flag := false }
      ports := s.carriers.ports.map fun p => { snap := portReport p, flag := false }
      station := { snap := stationReport s, flag := false } } }

/-- The end of a cold start: the station enters LISTEN, and frame 0 of round 0 begins (R171). -/
def coldEnd (straps : Straps) (s : State) : State :=
  let s := { s with station := strapped straps s.station }
  let s := setLane s.station.number LaneRx.own s
  retakeSnapshots (frameBody [] s)

/-- COLD_START_END (R169, R171, R189). Outside COLD no cold start ends, and nothing changes. -/
def execColdStartEnd (straps : Straps) (s : State) : Host.Outcome State Fault Refusal :=
  .next (if running s then s else finish s (coldEnd straps s))

/-! ### Engine restart -/

/-- The station record after an engine restart (R168, R176). -/
def restarted (st : Station) : Station :=
  { st with state := .listen, epoch := (st.epoch + 1) % 256, cause := .engine, listenRounds := 0, wholeRound := false }

/-- RESTART ENGINE in the engine (R176, R22, R25, R190); the mask and the enable are kept. -/
def restartEngine (s : State) : State :=
  let s := { s with
    station := restarted s.station
    store := OrderStore.empty
    tx := { s.tx with snapshot := [] }
    pins := { s.pins with clientOut := s.pins.clientOut.map ClientEgress.drop } }
  retakeSnapshots { s with report := { s.report with sources := [], sinks := [] } }

/-- RESTART_ENGINE (R176, R182, R190): code 13, no parameters. -/
def execRestartEngine (x : Transfer) (s : State) : Host.Outcome State Fault Refusal :=
  .next (request 13 (some 0) x (fun _ s => respond 13 .done [] (restartEngine s)) s)

end Sys2Proof.Machine
end

