-- ==== Sys2Proof/WellFormed.lean ====
section
/-! DEFINITION. Which commands can reach the part. `exec` answers for every term; these checks say which terms stand
for something the outside world can do. -/

namespace Sys2Proof

/-- The bytes of an incomplete transfer: fewer than L + 3 whole bytes, L being byte 2 (R179). -/
def incompleteBytes : List Byte → Bool
  | [] => true
  | [_] => true
  | _ :: l :: rest => rest.length < l.toNat + 1

/-- A parameter length is one byte (R179). -/
def Transfer.wf (x : Transfer) : Bool := x.params.length ≤ 255

/-- A tile's payload space holds at most 2 500 blocks (R26, R137). -/
def Tile.wf (t : Tile) : Bool := t.payload.length ≤ 2500

/-- A lane frame as it is received: 29 header words and at most 160 tiles (R191). -/
def laneWf (words : List Word) (tiles : List Tile) : Bool :=
  words.length = 29 && tiles.length ≤ 160 && tiles.all Tile.wf

/-- The longest own frame lasts 251 tile-times (R165), so the own tile-time counter reads 0 to 250. -/
def counterWf (t : Nat) : Bool := t ≤ 250

/-- The works named at a boundary, each at most once; `wtr` follows the reads of frame 0 (R87), so no round start takes
it before the frame begins, and `claim` alone is never posted by a round start. -/
def roundOrderWf (ws : List RoundWork) : Bool := ws.Nodup && !ws.contains .wtr && !ws.contains .claim

/-- The well-formedness of a command. -/
def Instr.wf : Instr → Bool
  | .nop x | .placeSource x | .placeSink x | .remove x | .restate x | .light x | .darken x | .readOrder x
  | .readChanges x | .readLane x | .readCarrier x | .readStation x | .setAttention x | .restartEngine x => x.wf
  | .undefinedCommandCode code x => x.wf && 13 < code.toNat
  | .transferIncomplete bytes _ => incompleteBytes bytes
  | .powerUp | .resetAsserted | .coldStartEnd _ | .holdAsserted | .holdReleased => true
  | .clientIngressBurst _ blocks => 1 ≤ blocks.length && blocks.length ≤ 256
  | .ownFrameStart leave spans => leave.Nodup && !leave.contains .snapshot && spans.Nodup
  | .clientSinkDeparture spans => spans.Nodup
  | .spanEnd _ => true
  | .ownRoundStart order => roundOrderWf order
  | .releaseCountExpiry tag | .wtrExpiry tag => 1 ≤ tag && tag ≤ 1048575
  | .staggerExpiry _ | .claimRoundEnd _ | .join => true
  | .laneMarkerArrival _ t | .trackingMove _ t => counterWf t
  | .laneHeaderReceived _ words tiles => laneWf words tiles
  | .staleManifestClear _ (.header words tiles) => laneWf words tiles
  | .staleManifestClear _ .unheard => true
  | .markerWindowCheck _ | .missedMarkerLimit _ => true
  | .carrierMarkerArrival _ t | .carrierSyncEntry _ t => counterWf t
  | .carrierWindowClose _ | .carrierSyncLoss _ => true
  | .farEndFrameEnd _ f => f.tiles.length ≤ 40 && f.tiles.all Tile.wf
  | .refPulse t | .refQualified t => counterWf t
  | .refWindowClose | .refDisqualified => true

end Sys2Proof
end

