-- ==== Sys2Proof/Machine/Commands.lean ====
section
/-! DEFINITION. The commands that act on the engine (R182): admission (R9 to R14), removal (R15 to R20) and restating
(R21, R66, R123) of orders, lighting (R146), attention (R188), NOP; and the transfers that execute nothing (R179,
R180). -/

namespace Sys2Proof.Machine

/-! ### The maps and the pool -/

/-- The positions of a binding take the value `v` in the map of its direction (R3, R4). -/
def bindPositions (d : Direction) (b : Binding) (cls : Nat) (v : Option Nat) (st : OrderStore) : OrderStore :=
  match d, b with
  | .source, .client p => { st with clientIn := st.clientIn.set p v }
  | .sink, .client p => { st with clientEgr := st.clientEgr.set p v }
  | .source, .carrier p first => { st with carrierIn := st.carrierIn.set p (setRange st.carrierIn[p] first cls v) }
  | .sink, .carrier p first => { st with carrierEgr := st.carrierEgr.set p (setRange st.carrierEgr[p] first cls v) }

/-- The free adapter record of lowest number (R102). -/
def lowestFree (pool : Vector (Option Adapter) 96) : Option (Fin 96) := (List.finRange 96).find? fun n => pool[n].isNone

/-- Allocation of an adapter and its store memory for an order that needs one (R11, R102). -/
def allocate (kind : Option AdapterKind) (tag cls rnom k : Nat) (st : OrderStore) : OrderStore × Option (Fin 96) :=
  match kind, lowestFree st.pool with
  | some kd, some n =>
    ({ st with pool := st.pool.set n (some (newAdapter kd tag cls rnom k)), freeStore := st.freeStore - Config.storePerClass * cls },
      some n)
  | _, _ => (st, none)

/-- Adapter record `n` and its reservation return to the pool (R102). -/
def freeRecordOf (n : Fin 96) (st : OrderStore) : OrderStore :=
  match st.pool[n] with
  | none => st
  | some a => { st with pool := st.pool.set n none, freeStore := st.freeStore + Config.storePerClass * a.cls }

/-- The adapter of an order that is removed, if it has one, returns to the pool (R15, R20, R102). -/
def freeAdapter (n : Option (Fin 96)) (st : OrderStore) : OrderStore :=
  match n with
  | none => st
  | some n => freeRecordOf n st

/-! ### Admission -/

/-- Whether a record of the direction holds the tag, a hidden one included (check 4 of R9). -/
def holdsTag (d : Direction) (tag : Nat) (st : OrderStore) : Bool :=
  match d with
  | .source => st.sources.any (·.tag = tag)
  | .sink => st.sinks.any (·.tag = tag)

/-- Records of the direction, hidden ones included (check 5 of R9). -/
def recordCount (d : Direction) (st : OrderStore) : Nat :=
  match d with
  | .source => st.sources.length
  | .sink => st.sinks.length

/-- Checks 6 and 7 of R9. -/
def positionCheck (d : Direction) (b : Binding) (cls : Nat) (st : OrderStore) : Option Status :=
  match b with
  | .client p =>
    let m := match d with | .source => st.clientIn | .sink => st.clientEgr
    if m[p].isSome then some .portBusy else none
  | .carrier p first =>
    let m := match d with | .source => st.carrierIn | .sink => st.carrierEgr
    if rangeBound m[p] first cls then some .tileConflict else none

/-- Checks 8 and 9 of R9. -/
def adapterCheck (d : Direction) (b : Binding) (cls : Nat) (st : OrderStore) : Option Status :=
  match adapterKind d b with
  | none => none
  | some _ =>
    if (lowestFree st.pool).isNone then some .noAdapter
    else if st.freeStore < Config.storePerClass * cls then some .noStore
    else none

/-- The first check of R9 that refuses an admission whose binding and enumerations are defined; none when it is
admitted. -/
def refusal (d : Direction) (tag cls : Nat) (b : Binding) (st : OrderStore) : Option Status :=
  if !tagOk tag || !classOk cls then some .range
  else if !b.alignedTo cls then some .tileConflict
  else if holdsTag d tag st then some .tagExists
  else if Config.tableSize ≤ recordCount d st then some .tableFull
  else (positionCheck d b cls st).or (adapterCheck d b cls st)

/-- An item list with a new item, in its place by tag. -/
def addItem {α : Type} (tag : Nat) (it : α) (l : List (Nat × α)) : List (Nat × α) :=
  l.filter (·.1 < tag) ++ (tag, it) :: l.filter (tag ≤ ·.1)

/-- The item of a source order at the end of its admission (R12). -/
def createSourceItem (tag : Nat) (s : State) : State :=
  match visibleSource s.store tag with
  | none => s
  | some r =>
    { s with report := { s.report with
        sources := addItem tag { snap := sourceReport s.carriers.ports r, flag := false } s.report.sources } }

/-- The item of a sink order at the end of its admission (R13). -/
def createSinkItem (tag : Nat) (s : State) : State :=
  match findSink s.store tag with
  | none => s
  | some k =>
    { s with report := { s.report with sinks := addItem tag { snap := sinkReport k, flag := false } s.report.sinks } }

/-- The admission of a source order that passed the checks (R10 to R12). -/
def admitSource (r : SourceRequest) (b : Binding) (action : FailedAction) (standing : Standing) (s : State) : State :=
  let a := allocate (adapterKind .source b) r.tag r.cls (clampRnom r.cls r.rnom) (clampK r.k) s.store
  let st := bindPositions .source b r.cls (some r.tag) a.1
  let s := { s with store := { st with sources := st.sources ++ [newSource r b action standing a.2] } }
  createSourceItem r.tag (evalSource r.tag s)

/-- The admission of a sink order that passed the checks (R10, R11, R13). -/
def admitSink (r : SinkRequest) (b : Binding) (s : State) : State :=
  let a := allocate (adapterKind .sink b) r.tag r.cls (clampRnom r.cls r.rnom) (clampK r.k) s.store
  let st := bindPositions .sink b r.cls (some r.tag) a.1
  let s := { s with store := { st with sinks := st.sinks ++ [newSink r b a.2] } }
  createSinkItem r.tag (evalSink true s r.tag)

/-- PLACE SOURCE on a request (R9, R182). -/
def placeSource (r : SourceRequest) (s : State) : Status × State :=
  match bindingOf r.kind r.port r.first, actionOfCode r.action, standingOfCode r.standing with
  | some b, some action, some standing =>
    match refusal .source r.tag r.cls b s.store with
    | some st => (st, s)
    | none => (.done, admitSource r b action standing s)
  | _, _, _ => (.range, s)

/-- PLACE SINK on a request (R9, R182). -/
def placeSink (r : SinkRequest) (s : State) : Status × State :=
  match bindingOf r.kind r.port r.first with
  | some b =>
    match refusal .sink r.tag r.cls b s.store with
    | some st => (st, s)
    | none => (.done, admitSink r b s)
  | none => (.range, s)

/-! ### Removal -/

/-- The items of a direction lose the tag's (R183). -/
def dropItem (d : Direction) (tag : Nat) (r : ReportUnit) : ReportUnit :=
  match d with
  | .source => { r with sources := r.sources.filter (·.1 ≠ tag) }
  | .sink => { r with sinks := r.sinks.filter (·.1 ≠ tag) }

/-- What is left of a source that is removed with lane tiles: hidden and RETIRING, its adapter freed (R17, R18). Latch, fault
count and ingress status end with the order at REMOVE (R120, R135); R6 lists no absence for them, and the hidden record holds
them as at an admission (assumption 38). -/
def Source.retired (r : Source) : Source :=
  { r with state := .retiring, removed := true, adapter := none, latch := false, faultCount := 0, ingress := .absent }

/-- The record of a removed source: deleted without lane tiles (R16), hidden and RETIRING with them (R17, R18). -/
def retireOrDelete (r : Source) (s : State) : State :=
  match r.state with
  | .dormant | .queued =>
    { s with store := { s.store with sources := s.store.sources.filter (·.tag ≠ r.tag)
                                     queue := s.store.queue.filter (· ≠ r.tag) } }
  | .offered | .retiring =>
    updateSource r.tag Source.retired s

/-- REMOVE of a visible source order (R15 to R18). -/
def removeSource (r : Source) (s : State) : State :=
  let st := freeAdapter r.adapter (bindPositions .source r.binding r.cls none s.store)
  retireOrDelete r { s with store := st, report := dropItem .source r.tag s.report }

/-- The client ports' outputs when the sink of a binding is removed (R20). -/
def dropEgress (b : Binding) (out : Vector ClientEgress 32) : Vector ClientEgress 32 :=
  match b with
  | .client p => out.set p out[p].drop
  | .carrier _ _ => out

/-- REMOVE of a sink order (R20). -/
def removeSink (k : Sink) (s : State) : State :=
  let st := freeAdapter k.adapter (bindPositions .sink k.binding k.cls none s.store)
  { s with
    store := { st with sinks := st.sinks.filter (·.tag ≠ k.tag) }
    report := dropItem .sink k.tag s.report
    pins := { s.pins with clientOut := dropEgress k.binding s.pins.clientOut } }

/-- The order's latest departure is completed: a span end left of it comes before the freeing (R102, R105). -/
def completeSource (tag : Nat) (s : State) : State := spanEndAt ((visibleSource s.store tag).bind (·.adapter)) s

/-- As `completeSource`, of a sink order. -/
def completeSink (tag : Nat) (s : State) : State := spanEndAt ((findSink s.store tag).bind (·.adapter)) s

/-- REMOVE on a direction code and a tag (R182). -/
def removeOrder (direction tag : Nat) (s : State) : Status × State :=
  match directionOfCode direction with
  | none => (.range, s)
  | some .source =>
    let s := completeSource tag s
    match visibleSource s.store tag with
    | none => (.tagUnknown, s)
    | some r => (.done, removeSource r s)
  | some .sink =>
    let s := completeSink tag s
    match findSink s.store tag with
    | none => (.tagUnknown, s)
    | some k => (.done, removeSink k s)

/-! ### Restating -/

/-- RESTATE on a tag (R21, R66, R123). -/
def restate (tag : Nat) (s : State) : Status × State :=
  match visibleSource s.store tag with
  | none => (.tagUnknown, s)
  | some r =>
    let s := updateSource tag (fun r => { r with latch := false, faultCount := 0 }) s
    (.done, if r.latch && r.action = .withdraw then evalSource tag s else s)

/-! ### Lighting (R146) -/

def lightPort (p : CarrierPort) : CarrierPort := if p.state = .dark then { p with state := .waiting } else p

def darkenPort (p : CarrierPort) : CarrierPort :=
  if p.state = .dark then p else { p with state := .dark, stagger := none }

/-- The transmitter of a port is off at once (R139). -/
def transmitterOff (p : Fin 4) (s : State) : State :=
  { s with pins := { s.pins with carrierOut := s.pins.carrierOut.set p none } }

/-- LIGHT on a port number (R146). -/
def light (port : Nat) (s : State) : Status × State :=
  if h : port < 4 then (.done, setPort ⟨port, h⟩ (lightPort s.carriers.ports[port]) s) else (.range, s)

/-- DARKEN on a port number (R139, R146). -/
def darken (port : Nat) (s : State) : Status × State :=
  if h : port < 4 then
    (.done, transmitterOff ⟨port, h⟩ (setPort ⟨port, h⟩ (darkenPort s.carriers.ports[port]) s))
  else (.range, s)

/-! ### Attention (R188) -/

/-- The mask of a mask byte (R191). -/
def maskOf (m : Nat) : AttentionMask where
  order := m % 2 = 1
  lane := m / 2 % 2 = 1
  carrier := m / 4 % 2 = 1
  station := m / 8 % 2 = 1

/-- SET ATTENTION on a mask and an enable (R188). -/
def setAttention (mask enable : Nat) (s : State) : Status × State :=
  if mask ≤ 15 ∧ enable ≤ 1 then
    (.done, { s with report := { s.report with mask := maskOf mask, enable := enable = 1 } })
  else (.range, s)

/-- The response of a command without payload (R181). -/
def answer (code : Nat) (r : Status × State) : State := respond code r.1 [] r.2

/-! ### The commands -/

/-- NOP (R182): code 0, no parameters. -/
def execNop (x : Transfer) (s : State) : Host.Outcome State Fault Refusal :=
  .next (request 0 (some 0) x (fun _ s => respond 0 .done [] s) s)

/-- PLACE_SOURCE (R9 to R12, R182): code 1, 16 parameter bytes. -/
def execPlaceSource (x : Transfer) (s : State) : Host.Outcome State Fault Refusal :=
  .next (request 1 (some 16) x (fun ps s => answer 1 (placeSource (sourceRequest ps) s)) s)

/-- PLACE_SINK (R9 to R11, R13, R182): code 2, 13 parameter bytes. -/
def execPlaceSink (x : Transfer) (s : State) : Host.Outcome State Fault Refusal :=
  .next (request 2 (some 13) x (fun ps s => answer 2 (placeSink (sinkRequest ps) s)) s)

/-- REMOVE (R15 to R20, R182): code 3, direction and tag. -/
def execRemove (x : Transfer) (s : State) : Host.Outcome State Fault Refusal :=
  .next (request 3 (some 4) x (fun ps s => answer 3 (removeOrder (param ps 0) (paramBe ps 1 3) s)) s)

/-- RESTATE (R21, R123, R182): code 4, a tag. -/
def execRestate (x : Transfer) (s : State) : Host.Outcome State Fault Refusal :=
  .next (request 4 (some 3) x (fun ps s => answer 4 (restate (paramBe ps 0 3) s)) s)

/-- LIGHT (R146, R182): code 5, a carrier port. -/
def execLight (x : Transfer) (s : State) : Host.Outcome State Fault Refusal :=
  .next (request 5 (some 1) x (fun ps s => answer 5 (light (param ps 0) s)) s)

/-- DARKEN (R139, R146, R182): code 6, a carrier port. -/
def execDarken (x : Transfer) (s : State) : Host.Outcome State Fault Refusal :=
  .next (request 6 (some 1) x (fun ps s => answer 6 (darken (param ps 0) s)) s)

/-- SET_ATTENTION (R182, R188): code 12, mask and enable. -/
def execSetAttention (x : Transfer) (s : State) : Host.Outcome State Fault Refusal :=
  .next (request 12 (some 2) x (fun ps s => answer 12 (setAttention (param ps 0) (param ps 1) s)) s)

/-- UNDEFINED_COMMAND_CODE (R180, R193): a complete request whose code is none of the fourteen. A defined code is no such
event, and nothing changes. -/
def execUndefinedCommandCode (code : Byte) (x : Transfer) (s : State) : Host.Outcome State Fault Refusal :=
  .next (if 13 < code.toNat then request code none x (fun _ s => s) s else s)

/-- TRANSFER_INCOMPLETE (R178, R179): the slot is shifted out and kept. A complete request is no such event. -/
def execTransferIncomplete (bytes : List Byte) (spoiled : Option Nat) (s : State) : Host.Outcome State Fault Refusal :=
  .next (if incompleteBytes bytes then finish s (shifted spoiled bytes.length s) else s)

end Sys2Proof.Machine
end

