-- ==== Sys2Proof/Machine/Reads.lean ====
section
/-! DEFINITION. The commands that read (R184 to R186): the record payloads of R191, the copy of an item's reportable
fields into its snapshot, and the summary of change flags. -/

namespace Sys2Proof.Machine

/-! ### Pieces of a payload (R191) -/

/-- A field of `n` bytes that may be absent; an absent field is sent as 0. -/
def beOpt (n : Nat) (v : Option Nat) : List Byte := be n (v.getD 0)

/-- A signed byte that may be absent. -/
def signedOpt (v : Option Int) : List Byte := signedByte (v.getD 0)

/-- A byte of bits, bit 0 first. -/
def bitsValue : List Bool → Nat
  | [] => 0
  | b :: bs => b.toNat + 2 * bitsValue bs

/-- An expected instant as the own tile-time at which it falls (file 12): in the own frame that ended last, in the one in
progress, or in the next one (assumption 11). -/
def instantByte (tx : Transmitter) (e : Option Int) : List Byte :=
  signedByte (match e with
    | none => 0
    | some d => if d < 0 then d + (tx.lastLen : Int) else if d < (tx.frameLen : Int) then d else d - (tx.frameLen : Int))

def bindingBytes (b : Binding) : List Byte :=
  match b with
  | .client p => be 1 1 ++ be 1 p.val ++ be 1 0
  | .carrier p first => be 1 2 ++ be 1 p.val ++ be 1 first

/-- The adapter block, 22 bytes. -/
def adapterBlock (n : Fin 96) (a : Adapter) : List Byte :=
  be 1 n.val ++ be 1 a.kind.code ++ be 1 a.running.toNat ++ be 2 a.depth ++ be 4 a.rate ++ be 1 a.phase ++
    be 1 a.spanCount ++ be 4 a.arrived ++ be 1 a.dets.code ++ beOpt 5 (a.last.map (·.1)) ++
    beOpt 1 (a.last.map (·.2.code))

/-- The adapter of an order, with its record number. -/
def adapterOf (st : OrderStore) (n : Option (Fin 96)) : Option (Fin 96 × Adapter) :=
  n.bind fun n => st.pool[n].map fun a => (n, a)

/-- The adapter block of an order, 22 zero bytes where it is absent. -/
def adapterBytes (a : Option (Fin 96 × Adapter)) : List Byte :=
  match a with
  | none => List.replicate 22 0
  | some (n, a) => adapterBlock n a

def lastPresent (a : Option (Fin 96 × Adapter)) : Bool := a.any fun p => p.2.last.isSome

/-! ### READ ORDER -/

/-- READ ORDER of a source, 52 bytes. -/
def sourcePayload (s : State) (r : Source) : List Byte :=
  let a := adapterOf s.store r.adapter
  be 1 Direction.source.code ++ be 3 r.tag ++ be 1 r.cls ++ bindingBytes r.binding ++ be 4 r.rnom ++ be 1 r.k ++
    be 1 r.threshold ++ be 1 r.priority ++ be 1 r.action.code ++ be 1 r.standing.code ++
    be 1 (bitsValue [r.firstTile.isSome, r.entryNo.isSome, a.isSome, false, lastPresent a]) ++ be 1 r.state.code ++
    beOpt 1 r.firstTile ++ be 1 r.releaseCount ++ beOpt 4 r.entryNo ++ be 1 r.passedOver ++
    be 1 (bitsValue [r.blocked, r.mismatch, r.latch, r.omitted]) ++ be 1 r.faultCount ++
    be 1 (sourceQuality s.carriers.ports r).code ++ be 1 r.ingress.code ++ adapterBytes a

/-- READ ORDER of a sink: 50 bytes of a client sink, 28 of a carrier sink. -/
def sinkPayload (s : State) (k : Sink) : List Byte :=
  let a := adapterOf s.store k.adapter
  be 1 Direction.sink.code ++ be 3 k.tag ++ be 1 k.cls ++ bindingBytes k.binding ++ beOpt 4 k.rnom ++ beOpt 1 k.k ++
    be 1 k.w ++ be 1 (bitsValue [false, false, a.isSome, k.sel.isSome, lastPresent a]) ++ be 1 k.sel.isSome.toNat ++
    beOpt 1 (k.sel.map (·.lane.val)) ++ beOpt 1 (k.sel.map (·.first)) ++ beOpt 1 (k.sel.map (·.standing.code)) ++
    beOpt 1 (k.sel.map (·.quality.code)) ++ be 1 k.wtr ++ be 2 k.switches ++ be 1 k.slips ++
    be 1 (bitsValue [false, k.mismatch]) ++
    be 1 (match k.binding with | .client _ => k.faultCount | .carrier _ _ => 0) ++ be 1 k.delivered.code ++
    be 1 (outputQuality k).code ++
    (match k.binding with | .client _ => adapterBytes a | .carrier _ _ => [])

/-- An item read: its snapshot takes the fields and its flag is clear (R185). -/
def Item.read {α : Type} (_ : Item α) (now : α) : Item α := { snap := now, flag := false }

/-- The order items of a list with the item of a tag read. -/
def readItem {α : Type} (tag : Nat) (now : α) (l : List (Nat × Item α)) : List (Nat × Item α) :=
  l.map fun e => if e.1 = tag then (e.1, e.2.read now) else e

/-- READ ORDER on a direction code and a tag (R184, R185). -/
def readOrder (direction tag : Nat) (s : State) : State :=
  match directionOfCode direction with
  | none => respond 7 .range [] s
  | some .source =>
    match visibleSource s.store tag with
    | none => respond 7 .tagUnknown [] s
    | some r =>
      respond 7 .done (sourcePayload s r)
        { s with report := { s.report with sources := readItem tag (sourceReport s.carriers.ports r) s.report.sources } }
  | some .sink =>
    match findSink s.store tag with
    | none => respond 7 .tagUnknown [] s
    | some k =>
      respond 7 .done (sinkPayload s k)
        { s with report := { s.report with sinks := readItem tag (sinkReport k) s.report.sinks } }

/-! ### READ CHANGES (R186) -/

/-- The flagged orders, each as its direction code and tag, in ascending order of tag, the source first. -/
def flaggedOrders (r : ReportUnit) : List (Nat × Nat) :=
  let sources := (r.sources.filter (·.2.flag)).map fun e => (Direction.source.code, e.1)
  let sinks := (r.sinks.filter (·.2.flag)).map fun e => (Direction.sink.code, e.1)
  (sources ++ sinks).insertionSort fun a b => 2 * a.2 + a.1 ≤ 2 * b.2 + b.1

/-- READ CHANGES, 6 + 4n bytes. -/
def changesPayload (r : ReportUnit) : List Byte :=
  let all := flaggedOrders r
  let listed := all.take 16
  be 1 listed.length ++ be 1 (decide (16 < all.length)).toNat ++ be 2 (bitsValue (r.lanes.toList.map (·.flag))) ++
    be 1 (bitsValue (r.ports.toList.map (·.flag))) ++ be 1 r.station.flag.toNat ++
    listed.flatMap fun e => be 1 e.1 ++ be 3 e.2

/-! ### READ LANE -/

/-- The heard-header bytes, 10; zero bytes where it is absent. -/
def heardBytes (h : Option Heard) : List Byte :=
  match h with
  | none => List.replicate 10 0
  | some h => be 1 h.station ++ be 1 h.epoch ++ be 1 h.joined.toNat ++ be 2 h.round ++ be 1 h.frag ++ be 1 h.level ++
      be 1 h.source ++ be 1 h.light ++ be 1 h.count

/-- The fragments of an assembly, a bit per index. -/
def fragmentBits (a : Option Assembly) : Nat :=
  bitsValue ((List.range 16).map fun i => a.any fun a => a.frags.any (·.1 = i))

/-- READ LANE, 42 bytes. The own lane has neither aligned rounds nor a qualified flag. -/
def lanePayload (s : State) (l : Fin 9) : List Byte :=
  let x := s.lanes[l]
  let v := s.view[l]
  let u := s.timing.lanes[l]
  let own := l = s.station.number
  be 1 l.val ++
    be 1 (bitsValue [x.capture.isSome, x.candidate.isSome, x.held.isSome, x.heard.isSome, v.manifest.isSome,
      v.nextIndex.isSome, v.assembly.isSome, 0 < x.trackCount]) ++
    be 1 x.state.code ++ signedOpt x.capture ++ signedOpt x.candidate ++ be 1 x.matchCount ++ signedOpt x.held ++
    be 1 (if 0 < x.trackCount then x.trackMinus.toNat else 0) ++ be 1 x.trackCount ++ be 1 x.drift ++ be 1 x.missed ++
    be 1 (bitsValue [x.skewRange, x.misplug]) ++ heardBytes x.heard ++ be 2 x.headerErrors ++ be 1 x.alignments ++
    beOpt 2 (v.manifest.map (·.round)) ++ beOpt 1 (v.manifest.map (·.entries.length)) ++ be 1 v.stale ++
    beOpt 1 v.nextIndex ++ beOpt 2 (v.assembly.map (·.round)) ++ beOpt 1 (v.assembly.map (·.count)) ++
    be 2 (fragmentBits v.assembly) ++ be 1 (v.assembly.any (·.broken)).toNat ++ be 2 v.arrivals ++ be 2 v.incompletes ++
    be 1 (if own then 0 else u.alignedRounds) ++ be 1 (if own then 0 else u.qualified.toNat)

/-- READ LANE on a lane number (R184, R185). -/
def readLane (lane : Nat) (s : State) : State :=
  if h : lane < 9 then
    let l : Fin 9 := ⟨lane, h⟩
    respond 9 .done (lanePayload s l)
      { s with report := { s.report with lanes := s.report.lanes.set l (s.report.lanes[l].read (laneReport s.lanes[l])) } }
  else respond 9 .range [] s

/-! ### READ CARRIER -/

/-- READ CARRIER, 16 bytes. -/
def portPayload (s : State) (p : Fin 4) : List Byte :=
  let x := s.carriers.ports[p]
  be 1 p.val ++ be 1 (bitsValue [x.stagger.isSome, x.expected.isSome, x.confirm.isSome, x.farEnd.isSome]) ++
    be 1 x.state.code ++ beOpt 2 x.stagger ++ be 1 x.framer.code ++ instantByte s.tx x.expected ++
    beOpt 1 x.confirm ++ be 1 x.missing ++ be 2 x.roundErrors ++ be 1 x.degraded.toNat ++ be 2 x.errorTotal ++
    beOpt 1 (x.farEnd.map (·.1)) ++ beOpt 1 (x.farEnd.map (·.2))

/-- READ CARRIER on a port number (R184, R185). -/
def readCarrier (port : Nat) (s : State) : State :=
  if h : port < 4 then
    let p : Fin 4 := ⟨port, h⟩
    respond 10 .done (portPayload s p)
      { s with report := { s.report with
          ports := s.report.ports.set p (s.report.ports[p].read (portReport s.carriers.ports[p])) } }
  else respond 10 .range [] s

/-! ### READ STATION -/

def freeTiles (m : Vector (Option Nat) 160) : Nat := m.toList.countP (·.isNone)

def freeRecords (pool : Vector (Option Adapter) 96) : Nat := pool.toList.countP (·.isNone)

def AttentionMask.code (m : AttentionMask) : Nat := bitsValue [m.order, m.lane, m.carrier, m.station]

/-- READ STATION, 31 bytes. -/
def stationPayload (s : State) : List Byte :=
  let st := s.station
  let u := s.timing
  be 1 (bitsValue [u.refExpected.isSome, u.refPos.isSome]) ++ be 1 st.state.code ++ be 1 st.number.val ++
    be 2 st.staggerSetting ++ be 1 st.epoch ++ be 1 st.cause.code ++ be 1 st.listenRounds ++
    be 1 (bitsValue [st.wholeRound, u.holdover, u.changed, s.pins.hold, st.refUse]) ++ be 1 u.selected.code ++
    be 1 u.level ++ be 1 u.selected.code ++ be 1 u.age ++ be 1 u.refState.code ++ be 1 u.refRun ++ be 1 u.refMissing ++
    instantByte s.tx u.refExpected ++ signedOpt u.refPos ++ be 1 (announcement s.carriers.ports).code ++
    be 1 (freeTiles s.store.tileMap) ++ be 1 s.store.queue.length ++ be 1 s.store.sources.length ++
    be 1 s.store.sinks.length ++ be 1 (s.store.sources.countP (·.removed)) ++ be 1 (freeRecords s.store.pool) ++
    be 4 s.store.freeStore ++ be 1 s.report.mask.code ++ be 1 s.report.enable.toNat

/-- READ STATION (R184, R185). -/
def readStation (s : State) : State :=
  respond 11 .done (stationPayload s)
    { s with report := { s.report with station := s.report.station.read (stationReport s) } }

/-! ### The commands -/

/-- READ_ORDER (R184, R185): code 7, direction and tag. -/
def execReadOrder (x : Transfer) (s : State) : Host.Outcome State Fault Refusal :=
  .next (request 7 (some 4) x (fun ps s => readOrder (param ps 0) (paramBe ps 1 3) s) s)

/-- READ_CHANGES (R186): code 8, no parameters. -/
def execReadChanges (x : Transfer) (s : State) : Host.Outcome State Fault Refusal :=
  .next (request 8 (some 0) x (fun _ s => respond 8 .done (changesPayload s.report) s) s)

/-- READ_LANE (R184, R185): code 9, a lane. -/
def execReadLane (x : Transfer) (s : State) : Host.Outcome State Fault Refusal :=
  .next (request 9 (some 1) x (fun ps s => readLane (param ps 0) s) s)

/-- READ_CARRIER (R184, R185): code 10, a carrier port. -/
def execReadCarrier (x : Transfer) (s : State) : Host.Outcome State Fault Refusal :=
  .next (request 10 (some 1) x (fun ps s => readCarrier (param ps 0) s) s)

/-- READ_STATION (R184, R185): code 11, no parameters. -/
def execReadStation (x : Transfer) (s : State) : Host.Outcome State Fault Refusal :=
  .next (request 11 (some 0) x (fun _ s => readStation s) s)

end Sys2Proof.Machine
end

