-- ==== Sys2Proof/Machine/Reference.lean ====
section
/-! DEFINITION. The shelf reference (R157, R158): the commands REF_PULSE, REF_QUALIFIED, REF_WINDOW_CLOSE and
REF_DISQUALIFIED; and the HOLD input (R89, R90): HOLD_ASSERTED and HOLD_RELEASED. -/

namespace Sys2Proof.Machine

/-- The Timing Unit takes the REF input: the engine runs and the strap enables it (R157, R170). -/
def refTaken (s : State) : Bool := running s && s.station.refUse

/-- Whether a pulse at `t` lies within ±1 of the expected instant (R157). -/
def inRefWindow (t : Nat) (u : TimingUnit) : Bool :=
  match u.refExpected with
  | none => false
  | some e => within 1 (t : Int) e

/-- A pulse that begins a run (R157). -/
def beginRun (t : Nat) (u : TimingUnit) : TimingUnit :=
  { u with refState := .counting, refRun := 0, refExpected := some ((t : Int) + 168) }

/-- A pulse in its window (R157, R158). -/
def takePulse (t : Nat) (u : TimingUnit) : TimingUnit :=
  { u with refPos := some (skewOf t), refExpected := some ((t : Int) + 168) }

/-- Whether a pulse at `t` brings the run count to 64 (R157). -/
def qualifiesNow (t : Nat) (u : TimingUnit) : Bool := u.refState = .counting && inRefWindow t u && u.refRun = 63

/-- A REF pulse at the Timing Unit's REF record (R157, R158). A pulse that falls together with the closing of the third window
in a row without one in QUALIFIED, the closing taken first, finds IDLE and begins a run (assumption 39). -/
def pulse (t : Nat) (u : TimingUnit) : TimingUnit :=
  match u.refState with
  | .idle => beginRun t u
  | .counting =>
    if qualifiesNow t u then { takePulse t u with refState := .qualified, refRun := 64, refMissing := 0 }
    else if inRefWindow t u then { takePulse t u with refRun := u.refRun + 1 }
    else beginRun t u
  | .qualified => if inRefWindow t u then { takePulse t u with refMissing := 0 } else u

/-- REF back in IDLE (R157, R158); the position is kept as the last one taken. -/
def refIdle (u : TimingUnit) : TimingUnit :=
  { u with refState := .idle, refRun := 0, refMissing := 0, refExpected := none }

/-- Whether a window closing without a pulse is the third in a row in QUALIFIED (R158). -/
def disqualifiesNow (u : TimingUnit) : Bool := u.refState = .qualified && 2 ≤ u.refMissing

/-- A REF window that closes without a pulse (R157, R158). -/
def refMiss (u : TimingUnit) : TimingUnit :=
  match u.refState with
  | .idle => u
  | .counting => refIdle u
  | .qualified =>
    if disqualifiesNow u then refIdle u
    else { u with refMissing := u.refMissing + 1, refExpected := u.refExpected.map (· + 168) }

/-- The REF record changes; a change of its qualification re-evaluates the selection (R158, R161). -/
def refStep (u : TimingUnit) (s : State) : State :=
  let changed := decide (u.refState = .qualified) ≠ decide (s.timing.refState = .qualified)
  let s := { s with timing := u }
  if changed then reselect s else s

/-- REF_PULSE (R157, R158): `t` is the own tile-time counter at the pulse. With REF not enabled the pulse is ignored. -/
def execRefPulse (t : Nat) (s : State) : Host.Outcome State Fault Refusal :=
  .next (if refTaken s then finish s (refStep (pulse t s.timing) (atTime t s)) else s)

/-- REF_QUALIFIED (R157): the pulse that brings the run count to 64. -/
def execRefQualified (t : Nat) (s : State) : Host.Outcome State Fault Refusal :=
  .next (if refTaken s && qualifiesNow t s.timing then finish s (refStep (pulse t s.timing) (atTime t s)) else s)

/-- REF_WINDOW_CLOSE (R157, R158): a REF window closes without a pulse. -/
def execRefWindowClose (s : State) : Host.Outcome State Fault Refusal :=
  .next (if refTaken s then finish s (refStep (refMiss s.timing) s) else s)

/-- REF_DISQUALIFIED (R158): the window whose closing is the third without a pulse in a row. -/
def execRefDisqualified (s : State) : Host.Outcome State Fault Refusal :=
  .next (if refTaken s && disqualifiesNow s.timing then finish s (refStep (refMiss s.timing) s) else s)

/-! ### HOLD -/

def setHold (level : Bool) (s : State) : State := { s with pins := { s.pins with hold := level } }

/-- HOLD_ASSERTED (R89): the level of the input; no sink is evaluated. -/
def execHoldAsserted (s : State) : Host.Outcome State Fault Refusal := .next (finish s (setHold true s))

/-- The release of HOLD: every sink of the station is evaluated with HOLD released (R90). In COLD there is none (R22). -/
def releaseHold (s : State) : State := if running s then evalEverySink (setHold false s) else setHold false s

/-- HOLD_RELEASED (R90). -/
def execHoldReleased (s : State) : Host.Outcome State Fault Refusal := .next (finish s (releaseHold s))

end Sys2Proof.Machine
end

