-- ==== Sys2Proof/Machine/Dispatch.lean ====
section
/-! DEFINITION. The meaning of every command and event: one arm per constructor of `Instr`. -/

namespace Sys2Proof.Machine

def exec (i : Instr) (s : State) : Host.Outcome State Fault Refusal :=
  match i with
  | .nop x => Sys2Proof.Machine.execNop x s
  | .placeSource x => Sys2Proof.Machine.execPlaceSource x s
  | .placeSink x => Sys2Proof.Machine.execPlaceSink x s
  | .remove x => Sys2Proof.Machine.execRemove x s
  | .restate x => Sys2Proof.Machine.execRestate x s
  | .light x => Sys2Proof.Machine.execLight x s
  | .darken x => Sys2Proof.Machine.execDarken x s
  | .readOrder x => Sys2Proof.Machine.execReadOrder x s
  | .readChanges x => Sys2Proof.Machine.execReadChanges x s
  | .readLane x => Sys2Proof.Machine.execReadLane x s
  | .readCarrier x => Sys2Proof.Machine.execReadCarrier x s
  | .readStation x => Sys2Proof.Machine.execReadStation x s
  | .setAttention x => Sys2Proof.Machine.execSetAttention x s
  | .restartEngine x => Sys2Proof.Machine.execRestartEngine x s
  | .undefinedCommandCode code x => Sys2Proof.Machine.execUndefinedCommandCode code x s
  | .transferIncomplete bytes spoiled => Sys2Proof.Machine.execTransferIncomplete bytes spoiled s
  | .powerUp => Sys2Proof.Machine.execPowerUp s
  | .resetAsserted => Sys2Proof.Machine.execResetAsserted s
  | .coldStartEnd straps => Sys2Proof.Machine.execColdStartEnd straps s
  | .holdAsserted => Sys2Proof.Machine.execHoldAsserted s
  | .holdReleased => Sys2Proof.Machine.execHoldReleased s
  | .clientIngressBurst port blocks => Sys2Proof.Machine.execClientIngressBurst port blocks s
  | .ownFrameStart leave leaveSpans => Sys2Proof.Machine.execOwnFrameStart leave leaveSpans s
  | .clientSinkDeparture leaveSpans => Sys2Proof.Machine.execClientSinkDeparture leaveSpans s
  | .spanEnd n => Sys2Proof.Machine.execSpanEnd n s
  | .ownRoundStart order => Sys2Proof.Machine.execOwnRoundStart order s
  | .releaseCountExpiry tag => Sys2Proof.Machine.execReleaseCountExpiry tag s
  | .wtrExpiry tag => Sys2Proof.Machine.execWtrExpiry tag s
  | .staggerExpiry port => Sys2Proof.Machine.execStaggerExpiry port s
  | .claimRoundEnd port => Sys2Proof.Machine.execClaimRoundEnd port s
  | .join => Sys2Proof.Machine.execJoin s
  | .laneMarkerArrival lane t => Sys2Proof.Machine.execLaneMarkerArrival lane t s
  | .trackingMove lane t => Sys2Proof.Machine.execTrackingMove lane t s
  | .laneHeaderReceived lane words tiles => Sys2Proof.Machine.execLaneHeaderReceived lane words tiles s
  | .staleManifestClear lane cause => Sys2Proof.Machine.execStaleManifestClear lane cause s
  | .markerWindowCheck lane => Sys2Proof.Machine.execMarkerWindowCheck lane s
  | .missedMarkerLimit lane => Sys2Proof.Machine.execMissedMarkerLimit lane s
  | .carrierMarkerArrival port t => Sys2Proof.Machine.execCarrierMarkerArrival port t s
  | .carrierSyncEntry port t => Sys2Proof.Machine.execCarrierSyncEntry port t s
  | .carrierWindowClose port => Sys2Proof.Machine.execCarrierWindowClose port s
  | .carrierSyncLoss port => Sys2Proof.Machine.execCarrierSyncLoss port s
  | .farEndFrameEnd port frame => Sys2Proof.Machine.execFarEndFrameEnd port frame s
  | .refPulse t => Sys2Proof.Machine.execRefPulse t s
  | .refQualified t => Sys2Proof.Machine.execRefQualified t s
  | .refWindowClose => Sys2Proof.Machine.execRefWindowClose s
  | .refDisqualified => Sys2Proof.Machine.execRefDisqualified s

end Sys2Proof.Machine
end

