-- ==== Sys2Proof/Safety.lean ====
section
/-! DEFINITION. What a safe run is, in the terms the statements use: the engine never stops, and the laws of the device
hold of every state. Each law is a plain predicate of a state. -/

namespace Sys2Proof.Safety

open Sys2Proof.Machine

/-- The step answers a next state: no command ends in a fault or a refusal. -/
def Goes (s : State) : Prop := ∃ t, step s = .next t

/-- The store memory that an adapter record reserves (R11). -/
def reserved (a : Option Adapter) : Nat :=
  match a with
  | none => 0
  | some a => Config.storePerClass * a.cls

/-- The second law of the device, of store memory (R11): free store memory and the reservations of the allocated records
are 327 680 blocks together. -/
def StoreLaw (s : State) : Prop :=
  s.store.freeStore + (s.store.pool.toList.map reserved).sum = Config.storeMemory

/-- The bounds of one rate adapter: those of its order's class, Rnom and k (R2, R5, R99), and the third law of the device
with the bounds of M and of the span frame count (R114), and that of an ended span's M (assumption 3). -/
structure AdapterBounds (a : Adapter) : Prop where
  cls : classOk a.cls = true
  rnomLow : 256 ≤ a.rnom
  rnomHigh : a.rnom ≤ 640000 * a.cls
  spanLow : 2 ≤ a.k
  spanHigh : a.k ≤ 6
  depth : a.depth ≤ a.ecap
  phase : a.phase < 256
  rateLow : a.rateLow ≤ a.rate
  rateHigh : a.rate ≤ a.rateHigh
  count : a.spanCount < a.span
  arrived : a.arrived ≤ 4294967295
  ended : ∀ e, a.ended = some e → e.arrived ≤ 4294967295

/-- The third law of the device (R114), of every allocated record. -/
def AdapterLaw (s : State) : Prop := ∀ n : Fin 96, ∀ a, s.store.pool[n] = some a → AdapterBounds a

/-- Whether a port is CLAIMING or LIGHTING. -/
def active (p : CarrierPort) : Bool := p.state = .claiming || p.state = .lighting

/-- The seventh law of the device (R151): at most one carrier port is CLAIMING or LIGHTING. -/
def LightingLaw (s : State) : Prop :=
  ∀ p q : Fin 4, active s.carriers.ports[p] = true → active s.carriers.ports[q] = true → p = q

/-- Stale count and manifest agree (R49): absent exactly at 3, and never above. -/
def ViewAgrees (v : LaneView) : Prop := v.stale ≤ 3 ∧ (v.manifest = none ↔ v.stale = 3)

/-- R49, of every lane record. -/
def ViewLaw (s : State) : Prop := ∀ l : Fin 9, ViewAgrees s.view[l]

/-- What the selected source and the own level say (R161, R162): the eleventh law of the device. A followed lane is a
peer's, is qualified, and does not name this station as its source. -/
def followsOf (s : State) : Prop :=
  match s.timing.selected with
  | .ref => s.timing.refState = .qualified ∧ s.timing.level = 1
  | .free => s.timing.level = 8
  | .lane l => s.timing.lanes[l].qualified = true ∧ s.timing.level = heardLevel s.lanes[l] + 1

/-- The eleventh law of the device (R160, R162), with what keeps it: the qualified flag of every lane agrees with the
conditions of R160, and in COLD every Lane Receiver is ABSENT (R43). -/
structure TimingLaw (s : State) : Prop where
  cold : s.station.state = .cold → ∀ l : Fin 9, s.lanes[l].state = .absent
  judged : ∀ l : Fin 9, s.timing.lanes[l].qualified = laneQualifies s l
  follows : followsOf s

/-- A source order that holds tiles. -/
def holdsTiles (r : Source) : Bool := r.state = .offered || r.state = .retiring

/-- The tiles of one source order (R73): a source that is OFFERED or RETIRING has a first tile that is a multiple of its
class and leaves room for its group, and holds those tiles; another has none. -/
structure TilesOf (m : Vector (Option Nat) 160) (r : Source) : Prop where
  present : r.firstTile.isSome = holdsTiles r
  aligned : ∀ f, r.firstTile = some f → f % r.cls = 0 ∧ f + r.cls ≤ 160
  held : ∀ f, r.firstTile = some f → ∀ t, f ≤ t → t < f + r.cls → m[t]? = some (some r.tag)

/-- The first law of the device (R73) with the queue's part of R67: tags are unique, every source holds its tiles, every
held tile is some source's, and the queue names each QUEUED source once and nothing else. -/
structure TileLaw (s : State) : Prop where
  classes : ∀ r ∈ s.store.sources, classOk r.cls = true
  tags : (s.store.sources.map (·.tag)).Nodup
  hidden : ∀ r ∈ s.store.sources, r.removed = true → r.state = .retiring
  tiles : ∀ r ∈ s.store.sources, TilesOf s.store.tileMap r
  owned : ∀ t : Nat, ∀ tag, s.store.tileMap[t]? = some (some tag) →
    ∃ r ∈ s.store.sources, ∃ f, r.tag = tag ∧ r.firstTile = some f ∧ f ≤ t ∧ t < f + r.cls
  queue : s.store.queue.Nodup
  queued : ∀ tag, tag ∈ s.store.queue ↔ ∃ r ∈ s.store.sources, r.tag = tag ∧ r.state = .queued

/-- The second part of the eighth law of the device (R66): a source latched with WITHDRAW is never QUEUED. -/
def WithdrawLaw (s : State) : Prop :=
  ∀ r ∈ s.store.sources, r.latch = true → r.action = .withdraw → r.state ≠ .queued

/-- ATTN is asserted exactly as its terms say (R187). -/
def AttentionLaw (s : State) : Prop := s.report.attn = attnLevel s.station.state s.report

/-- The tags of the sink table are unique and in range (R1), and its classes are defined (R2). -/
structure SinkTable (s : State) : Prop where
  tags : (s.store.sinks.map (·.tag)).Nodup
  range : ∀ k ∈ s.store.sinks, tagOk k.tag = true ∧ classOk k.cls = true

/-- The adapter kind a source's binding calls for (R101). -/
def sourceKind (b : Binding) : AdapterKind :=
  match b with
  | .client _ => .clientSource
  | .carrier _ _ => .carrierSource

/-- Record `n` is the adapter of an order: allocated under its tag, with its kind, class, Rnom and k (R101). -/
def Serves (s : State) (n : Fin 96) (kind : AdapterKind) (tag cls rnom k : Nat) : Prop :=
  ∃ a, s.store.pool[n] = some a ∧ a.kind = kind ∧ a.tag = tag ∧ a.cls = cls ∧ a.rnom = rnom ∧ a.k = k

/-- Order tables, adapter records and binding maps agree (R3, R4, R11, R15, R102). -/
structure OwnerLaw (s : State) : Prop where
  sourceTags : (s.store.sources.map (·.tag)).Nodup
  sinkTags : (s.store.sinks.map (·.tag)).Nodup
  sources : ∀ r ∈ s.store.sources, r.removed = false →
    ∃ n, r.adapter = some n ∧ Serves s n (sourceKind r.binding) r.tag r.cls r.rnom r.k
  hidden : ∀ r ∈ s.store.sources, r.removed = true → r.adapter = none
  clientSinks : ∀ k ∈ s.store.sinks, ∀ p, k.binding = .client p →
    ∃ n rnom kk, k.adapter = some n ∧ k.rnom = some rnom ∧ k.k = some kk ∧ Serves s n .clientSink k.tag k.cls rnom kk
  carrierSinks : ∀ k ∈ s.store.sinks, ∀ p first, k.binding = .carrier p first →
    k.adapter = none ∧ k.rnom = none ∧ k.k = none
  records : ∀ n : Fin 96, s.store.pool[n] ≠ none →
    (∃ r ∈ s.store.sources, r.removed = false ∧ r.adapter = some n) ∨ (∃ k ∈ s.store.sinks, k.adapter = some n)
  clientIn : ∀ (p : Fin 32) (tag : Nat), s.store.clientIn[p] = some tag ↔
    ∃ r ∈ s.store.sources, r.removed = false ∧ r.tag = tag ∧ r.binding = .client p
  clientEgr : ∀ (p : Fin 32) (tag : Nat), s.store.clientEgr[p] = some tag ↔
    ∃ k ∈ s.store.sinks, k.tag = tag ∧ k.binding = .client p
  carrierIn : ∀ (p : Fin 4) (i : Fin 40) (tag : Nat), s.store.carrierIn[p][i] = some tag ↔
    ∃ r ∈ s.store.sources, r.removed = false ∧ r.tag = tag ∧
      ∃ first, r.binding = .carrier p first ∧ first ≤ i.val ∧ i.val < first + r.cls
  carrierEgr : ∀ (p : Fin 4) (i : Fin 40) (tag : Nat), s.store.carrierEgr[p][i] = some tag ↔
    ∃ k ∈ s.store.sinks, k.tag = tag ∧ ∃ first, k.binding = .carrier p first ∧ first ≤ i.val ∧ i.val < first + k.cls

/-- The order of the placement queue (R67): higher priority first, and within one priority the lower entry number; every
number given lies below the counter. -/
structure QueueLaw (s : State) : Prop where
  ordered : s.store.queue.Pairwise fun x y => ∀ r ∈ s.store.sources, ∀ q ∈ s.store.sources, r.tag = x → q.tag = y →
    ∃ m n, r.entryNo = some m ∧ q.entryNo = some n ∧ (q.priority < r.priority ∨ (q.priority = r.priority ∧ m < n))
  numbered : ∀ r ∈ s.store.sources, r.state = .queued → ∃ n, r.entryNo = some n ∧ n < s.store.queueCounter

/-! ### The words the statements about commands use -/

/-- A complete request of code `code` with `n` parameter bytes that passes the checks of R180, ending in LISTEN or
JOINED, in a transfer that met no COLD (R178). -/
structure Accepted (code : Byte) (n : Nat) (x : Transfer) (s : State) : Prop where
  runs : s.station.state ≠ .cold
  whole : x.spoiled = none
  sum : requestSumGood code x = true
  len : x.params.length = n

/-- The bytes of a response without payload (R181, R191, R192): code, status, two zero bytes, check. -/
def plainResponse (code : Byte) (st : Status) : List Byte :=
  [code, BitVec.ofNat 8 st.code, 0, 0, 0 - (code + BitVec.ofNat 8 st.code)]

/-- The management port after a transfer that left a response (R178, R181). -/
def portAfter (response : List Byte) (x : Transfer) (s : State) : ManagementPort :=
  { s.mport with slot := response, mso := shiftOut s.mport.slot (transferSize x) }

/-- The report unit with ATTN as its terms say. -/
def attended (st : StationState) (r : ReportUnit) : ReportUnit := { r with attn := attnLevel st r }

/-- The engine after a request whose only effect is its response without payload. -/
def onlyAnswered (code : Byte) (st : Status) (x : Transfer) (s : State) : State :=
  { s with mport := portAfter (plainResponse code st) x s, report := attended s.station.state s.report }

/-- The commands with their codes and parameter lengths (R191). -/
def commandTable : List (Byte × Nat × (Transfer → Instr)) :=
  [(0, 0, .nop), (1, 16, .placeSource), (2, 13, .placeSink), (3, 4, .remove), (4, 3, .restate), (5, 1, .light),
    (6, 1, .darken), (7, 4, .readOrder), (8, 0, .readChanges), (9, 1, .readLane), (10, 1, .readCarrier),
    (11, 0, .readStation), (12, 2, .setAttention), (13, 0, .restartEngine)]

/-- The checks of R9 in their order, each with the status of its failure: a proposition says that the check fails. `enums`
says that failed action and standing are defined. -/
def admissionChecks (d : Direction) (tag cls kind port first : Nat) (enums : Prop) (st : OrderStore) :
    List (Prop × Status) :=
  let tags : List Nat := match d with | .source => st.sources.map Source.tag | .sink => st.sinks.map Sink.tag
  let clients := match d with | .source => st.clientIn | .sink => st.clientEgr
  let carriers := match d with | .source => st.carrierIn | .sink => st.carrierEgr
  let needsAdapter := d = .source ∨ kind = 1
  [(tag = 0 ∨ 1048575 < tag, .range),
    ((cls ≠ 1 ∧ cls ≠ 2 ∧ cls ≠ 5 ∧ cls ≠ 10) ∨ (kind ≠ 1 ∧ kind ≠ 2) ∨ (kind = 1 ∧ 31 < port) ∨
      (kind = 2 ∧ (3 < port ∨ 39 < first)) ∨ ¬ enums, .range),
    (kind = 2 ∧ first % cls ≠ 0, .tileConflict),
    (tag ∈ tags, .tagExists),
    (64 ≤ tags.length, .tableFull),
    (kind = 1 ∧ ∃ o, clients[port]? = some (some o), .portBusy),
    (kind = 2 ∧ ∃ m, carriers[port]? = some m ∧ ∃ j < cls, ∃ o, m[first + j]? = some (some o), .tileConflict),
    (needsAdapter ∧ ∀ n : Fin 96, st.pool[n] ≠ none, .noAdapter),
    (needsAdapter ∧ st.freeStore < 4096 * cls, .noStore)]

/-- The flag of an item after one comparison (R183). -/
def flagAfter {α : Type} [DecidableEq α] (it : Item α) (before after : α) : Bool :=
  it.flag || (decide (before ≠ after) && decide (after ≠ it.snap))

/-! ### Record payloads (R191, Record payloads), as rows of a width in bytes and a value -/

/-- The bytes of fields given by width and value, each value most significant byte first. -/
def laidOut (rows : List (Nat × Nat)) : List Byte :=
  rows.flatMap fun r => (List.range r.1).map fun i => BitVec.ofNat 8 (r.2 / 256 ^ (r.1 - 1 - i))

/-- The value of a row of bits, bit 0 first. -/
def bitRow (bits : List Bool) : Nat := (bits.zipIdx.map fun b => if b.1 then 2 ^ b.2 else 0).sum

/-- The byte of a signed field in two's complement; an absent one is sent as 0. -/
def signedRow (i : Option Int) : Nat := (i.getD 0 % 256).toNat

def qualityRow (q : Quality) : Nat :=
  match q with
  | .good => 1
  | .degraded => 2
  | .failed => 3

/-- The code of a selected source: a station, 9 for REF, 15 for FREE. -/
def sourceRow (c : TimeSource) : Nat :=
  match c with
  | .lane l => l.val
  | .ref => 9
  | .free => 15

/-- Binding kind, port, first tile. -/
def bindingRows (b : Binding) : List (Nat × Nat) :=
  match b with
  | .client p => [(1, 1), (1, p.val), (1, 0)]
  | .carrier p first => [(1, 2), (1, p.val), (1, first)]

/-- The adapter record an order holds, with its number. -/
def heldAdapter (s : State) (n : Option (Fin 96)) : Option (Fin 96 × Adapter) :=
  match n with
  | none => none
  | some n => match s.store.pool[n] with
    | none => none
    | some a => some (n, a)

/-- The adapter block. -/
def adapterRows (held : Option (Fin 96 × Adapter)) : List (Nat × Nat) :=
  match held with
  | none => [(22, 0)]
  | some (n, a) => [(1, n.val), (1, match a.kind with | .clientSource => 1 | .carrierSource => 2 | .clientSink => 3),
      (1, if a.running then 1 else 0), (2, a.store.length), (4, a.rate), (1, a.phase), (1, a.spanCount), (4, a.arrived),
      (1, bitRow [a.dets.rate, a.dets.overflow, a.dets.dry, a.dets.silent]), (5, (a.last.map (·.1)).getD 0),
      (1, (a.last.map fun l => bitRow [l.2.rate, l.2.overflow, l.2.dry, l.2.silent]).getD 0)]

/-- READ LANE. The tracking side stands while the count is above 0 (assumption 13). -/
def laneRows (s : State) (l : Fin 9) : List (Nat × Nat) :=
  let x := s.lanes[l]
  let v := s.view[l]
  [(1, l.val), (1, bitRow [x.capture.isSome, x.candidate.isSome, x.held.isSome, x.heard.isSome, v.manifest.isSome,
      v.nextIndex.isSome, v.assembly.isSome, decide (0 < x.trackCount)]),
    (1, match x.state with | .absent => 0 | .aligning => 1 | .aligned => 2 | .lost => 3), (1, signedRow x.capture),
    (1, signedRow x.candidate), (1, x.matchCount), (1, signedRow x.held),
    (1, if 0 < x.trackCount ∧ x.trackMinus = true then 1 else 0), (1, x.trackCount), (1, x.drift), (1, x.missed),
    (1, bitRow [x.skewRange, x.misplug])] ++
  (match x.heard with
    | none => [(10, 0)]
    | some h => [(1, h.station), (1, h.epoch), (1, if h.joined then 1 else 0), (2, h.round), (1, h.frag), (1, h.level),
        (1, h.source), (1, h.light), (1, h.count)]) ++
  [(2, x.headerErrors), (1, x.alignments), (2, (v.manifest.map (·.round)).getD 0),
    (1, (v.manifest.map (·.entries.length)).getD 0), (1, v.stale), (1, v.nextIndex.getD 0),
    (2, (v.assembly.map (·.round)).getD 0), (1, (v.assembly.map (·.count)).getD 0),
    (2, bitRow ((List.range 16).map fun i => v.assembly.any fun a => a.frags.any fun f => f.1 = i)),
    (1, if v.assembly.any (·.broken) then 1 else 0), (2, v.arrivals), (2, v.incompletes),
    (1, if l = s.station.number then 0 else s.timing.lanes[l].alignedRounds),
    (1, if l ≠ s.station.number ∧ s.timing.lanes[l].qualified = true then 1 else 0)]

/-- The byte of an expected instant: its tile-time in the own frame that ended last, in the one in progress or in the next
(assumption 11). -/
def instantRow (last len : Nat) (e : Option Int) : Nat :=
  match e with
  | none => 0
  | some d => ((if d < 0 then d + (last : Int) else if d < (len : Int) then d else d - (len : Int)) % 256).toNat

/-- READ CARRIER. -/
def portRows (s : State) (p : Fin 4) : List (Nat × Nat) :=
  let x := s.carriers.ports[p]
  [(1, p.val), (1, bitRow [x.stagger.isSome, x.expected.isSome, x.confirm.isSome, x.farEnd.isSome]),
    (1, match x.state with | .dark => 0 | .waiting => 1 | .claiming => 2 | .lighting => 3 | .lit => 4),
    (2, x.stagger.getD 0), (1, match x.framer with | .hunt => 0 | .confirm => 1 | .sync => 2),
    (1, instantRow s.tx.lastLen s.tx.frameLen x.expected), (1, x.confirm.getD 0), (1, x.missing), (2, x.roundErrors),
    (1, if x.degraded then 1 else 0), (2, x.errorTotal), (1, (x.farEnd.map (·.1)).getD 0), (1, (x.farEnd.map (·.2)).getD 0)]

/-- READ STATION. -/
def stationRows (s : State) : List (Nat × Nat) :=
  let u := s.timing
  [(1, bitRow [u.refExpected.isSome, u.refPos.isSome]), (1, if s.station.state = .joined then 1 else 0),
    (1, s.station.number.val), (2, s.station.staggerSetting), (1, s.station.epoch),
    (1, match s.station.cause with | .power => 1 | .pin => 2 | .engine => 3), (1, s.station.listenRounds),
    (1, bitRow [s.station.wholeRound, u.holdover, u.changed, s.pins.hold, s.station.refUse]), (1, sourceRow u.selected),
    (1, u.level), (1, sourceRow u.selected), (1, u.age),
    (1, match u.refState with | .idle => 0 | .counting => 1 | .qualified => 2), (1, u.refRun), (1, u.refMissing),
    (1, instantRow s.tx.lastLen s.tx.frameLen u.refExpected), (1, signedRow u.refPos),
    (1, match announcement s.carriers.ports with | .none => 0 | .intent => 1 | .lighting => 2),
    (1, s.store.tileMap.toList.countP (·.isNone)), (1, s.store.queue.length), (1, s.store.sources.length),
    (1, s.store.sinks.length), (1, s.store.sources.countP (·.removed)), (1, s.store.pool.toList.countP (·.isNone)),
    (4, s.store.freeStore),
    (1, bitRow [s.report.mask.order, s.report.mask.lane, s.report.mask.carrier, s.report.mask.station]),
    (1, if s.report.enable then 1 else 0)]

/-! ### Own frame boundaries -/

/-- The own frame that begins next is the one at place `f`, and nothing but it is left to take at its boundary: within a
round, or at frame 0 when the works of the round start but the WTR step have been taken (assumption 7). -/
def PlainBoundary (f : Nat) (s : State) : Prop :=
  s.station.state ≠ .cold ∧
    ((s.tx.frame < 15 ∧ f = s.tx.frame + 1 ∧ s.tx.boundary = false ∧ s.tx.due = []) ∨
      (s.tx.frame = 15 ∧ f = 0 ∧ s.tx.boundary = true ∧ s.tx.due = [.wtr]))

/-- Whether the own frame whose boundary took `s` to `t` sent the notices of the own lane's record: its header, heard back,
brought an arrival, or cleared a manifest that was present (R54, R57 to R59, R62). -/
def ownNotice (s t : State) : Bool :=
  let me := s.station.number
  match t.lanes[me].heard with
  | none => false
  | some h =>
    (s.view[me].header h (fragmentSlots t.tx.snapshot t.tx.frame) (epochChanged s.lanes[me].heard h.epoch)).2 ||
      (s.view[me].manifest.isSome && t.view[me].manifest.isNone)

/-! ### Lanes that leave ALIGNED, and their judgement -/

/-- The order store after lane `l` has left ALIGNED, from its state `m` before the exit, with the receivers and records of `u`.
The Placement Unit takes the notice of the cleared manifest, if there was one (R56, R59, R65), and every sink that keeps the
lane or whose tag the manifest carries judges its class-mismatch flag and is evaluated (R40, R59, R79, R83). -/
def exitStore (l : Fin 9) (m u : State) : OrderStore :=
  { (noticePlacement m.view[l].manifest none { m with lanes := u.lanes, view := u.view }).store with
    sinks := m.store.sinks.map fun k =>
      if k.sel.any (·.lane = l) = true ∨ k.tag ∈ manifestTags m.view[l].manifest then
        { k with mismatch := otherOfferStands u k.tag k.cls }.evaluate (candidates u k.tag k.cls) m.pins.hold
      else k }

/-- From `s` to `u` the Timing Unit has judged lane `l` once: its flag is as R160 says, and no other lane's moves. A change of
the flag re-evaluates the selection at that event, and without one the selected source stays (R161). Where it stays, nothing
else moves but the level of a followed lane that is ALIGNED (R162); a change of selection takes the level, the holdover and
the step decision with it (R161, R163, R165). -/
structure Rejudged (l : Fin 9) (s u : State) : Prop where
  flag : u.timing.lanes[l].qualified = laneQualifies u l
  others : ∀ m : Fin 9, m ≠ l → u.timing.lanes[m] = s.timing.lanes[m]
  kept : u.timing.lanes[l].qualified = s.timing.lanes[l].qualified → u.timing.selected = s.timing.selected
  chosen : u.timing.lanes[l].qualified ≠ s.timing.lanes[l].qualified → u.timing.selected = (chooseSource u).1
  same : u.timing.selected = s.timing.selected → u.timing = { s.timing with
    lanes := u.timing.lanes
    level := if u.timing.selected = .lane l ∧ u.lanes[l].state = .aligned then heardLevel u.lanes[l] + 1
      else s.timing.level }
  moved : u.timing.selected ≠ s.timing.selected → u.timing = { s.timing with
    lanes := u.timing.lanes
    selected := (chooseSource u).1
    level := (chooseSource u).2
    changed := true
    holdover := decide ((chooseSource u).1 = .free)
    phaseDue := decide ((chooseSource u).1 ≠ .free) }

/-- The length of the own frame at place `f` for a phase error (R163, R165, R166). -/
def frameLengthFor (f : Nat) (st : StationState) (phaseDue : Bool) (error : Option Int) : Nat :=
  match error with
  | none => 168
  | some e =>
    if st = .listen ∧ (phaseDue = true ∨ f = 0) then (168 + e).toNat
    else if st = .joined ∧ f = 15 then (if 0 < e then 169 else if e < 0 then 167 else 168)
    else 168

end Sys2Proof.Safety
end

