-- ==== Sys2Proof/Certificates/Slice0/Obligations.lean ====
section
/-! DEFINITION. The statements for the provers. Each is a proposition about the model; its docstring names the sections or the
rule of the spec that it formalises. -/

open Sys2Proof
open Sys2Proof.Machine
open Sys2Proof.Safety

/-! ### The whole machine -/

/-- A step takes the command at the front of the queue and runs it on the state with the rest of the queue; with no command
waiting the engine idles, which is the model's choice (log entry 3). -/
def Obligations.StepTakesTheFrontCommand : Prop :=
  (∀ (c : Instr) (rest : List Instr) (s : State), s.pending = c :: rest → step s = exec c { s with pending := rest }) ∧
    (∀ s : State, s.pending = [] → step s = .next s)

/-- No command stops the engine, and none adds to or takes from the commands that wait behind it. -/
def Obligations.EveryCommandRunsAndLeavesTheQueue : Prop :=
  ∀ (c : Instr) (s : State), ∃ t, exec c s = .next t ∧ t.pending = s.pending

/-- In COLD nothing but POWER_UP and COLD_START_END changes anything but the HOLD level and the management port's MSO: every
block, the items with their flags, the mask and the enable, the pending response slot, the outputs and the waiting commands
stay; ATTN is not asserted by any command; and a transfer shifts out filler, after what it had shifted out before COLD began
(10_joining_the_shelf.md, Cold start; 11_management_port.md, Transfers). That the transfer says how many bytes it had
carried before COLD is the model's choice (log entry 10). -/
def Obligations.ColdTakesNothing : Prop :=
  ∀ (c : Instr) (s t : State), s.station.state = .cold → c ≠ .powerUp → (∀ straps, c ≠ .coldStartEnd straps) →
    exec c s = .next t →
    t = { s with
      report := { s.report with attn := t.report.attn }
      mport := { s.mport with mso := t.mport.mso }
      pins := { s.pins with hold := t.pins.hold } } ∧
    (t.report.attn = true → s.report.attn = true) ∧ (AttentionLaw s → t.report = s.report) ∧
    (t.mport = s.mport ∨ ∃ (before n : Nat) (sent : List Byte), sent = s.mport.emptied.take before ∧
      t.mport = { s.mport with mso := sent.take n ++ List.replicate (n - sent.length) 255 })

/-- Every step keeps the second law of the device, of store memory (01_circuits_and_orders.md, Placing an order). -/
def Obligations.EveryStepKeepsTheStoreLaw : Prop :=
  ∀ s t : State, StoreLaw s → step s = .next t → StoreLaw t

/-- Every step keeps the third law of the device: depth, phase and estimate of every allocated adapter stay in their bounds
(06_rate_adaptation.md, Span end). -/
def Obligations.EveryStepKeepsTheAdapterLaw : Prop :=
  ∀ s t : State, AdapterLaw s → step s = .next t → AdapterLaw t

/-- Every step keeps the seventh law of the device: at most one carrier port is CLAIMING or LIGHTING (08_carrier_ports.md,
The round-start steps). -/
def Obligations.EveryStepKeepsTheLightingLaw : Prop :=
  ∀ s t : State, LightingLaw s → step s = .next t → LightingLaw t

/-- Every step keeps stale count and manifest of every lane in agreement (03_manifests_and_the_peer_view.md, What the Peer
View holds). -/
def Obligations.EveryStepKeepsTheViewLaw : Prop :=
  ∀ s t : State, ViewLaw s → step s = .next t → ViewLaw t

/-- Every step keeps the eleventh law of the device: the own level follows the selected source, and the followed lane is
qualified by its latest header (09_shelf_timing.md, Choosing the source). -/
def Obligations.EveryStepKeepsTheTimingLaw : Prop :=
  ∀ s t : State, TimingLaw s → step s = .next t → TimingLaw t

/-- Every step keeps the first law of the device: each own-lane tile is held by at most one source order, and the queue names
exactly the QUEUED sources; and with it the second part of the eighth law: a source latched with WITHDRAW is never QUEUED
(04_lane_placement.md, The own-lane tile map and Wanted status). -/
def Obligations.EveryStepKeepsTheTileLaw : Prop :=
  (∀ s t : State, TileLaw s → step s = .next t → TileLaw t) ∧
  (∀ s t : State, TileLaw s → WithdrawLaw s → step s = .next t → WithdrawLaw t)

/-- The engine right after reset obeys every law whose keeping by the steps is stated here: of store memory, adapters,
lighting, views, timing, tiles, the queue, owners, sinks and ATTN. -/
def Obligations.ResetObeysTheLaws : Prop :=
  StoreLaw State.reset ∧ AdapterLaw State.reset ∧ LightingLaw State.reset ∧ ViewLaw State.reset ∧ TimingLaw State.reset ∧
    TileLaw State.reset ∧ WithdrawLaw State.reset ∧ QueueLaw State.reset ∧ OwnerLaw State.reset ∧ SinkTable State.reset ∧
    AttentionLaw State.reset

/-- Under the eleventh law the own level lies within 1 to 14, and a followed lane is another station's ALIGNED lane whose
heard header announces the level below and does not name this station (09_shelf_timing.md, Choosing the source). -/
def Obligations.OwnLevelIsOneMoreThanTheFollowedLane : Prop :=
  ∀ s : State, TimingLaw s → 1 ≤ s.timing.level ∧ s.timing.level ≤ 14 ∧
    ∀ l : Fin 9, s.timing.selected = .lane l → l ≠ s.station.number ∧ s.lanes[l].state = .aligned ∧
      ∃ h, s.lanes[l].heard = some h ∧ h.source ≠ s.station.number.val ∧ s.timing.level = h.level + 1

/-! ### Formats -/

/-- A lane header is read as it was sent: 29 words, a good check, and every field and manifest slot at every value of its
bits (12_frame_and_message_formats.md, Lane frame header). -/
def Obligations.LaneHeaderReadsAsSent : Prop :=
  ∀ (h : Heard) (slots : List Slot), h.station < 16 → h.frag < 16 → h.epoch < 256 → h.round < 65536 → h.level < 16 →
    h.source < 16 → h.light < 4 → h.count < 256 → slots.length = 8 →
    (headerWords h slots).length = 29 ∧ checkGood (headerWords h slots) = true ∧ heardOf (headerWords h slots) = h ∧
      slotsOf (headerWords h slots) = slots

/-- The manifest that a station sends reads back whole: the sixteen fragments of a snapshot pass every check of a complete
lane round and give the snapshot's entries (03_manifests_and_the_peer_view.md, Assembly of a lane round). -/
def Obligations.SnapshotReadsBackAsAManifest : Prop :=
  ∀ s : State, TileLaw s → SinkTable s → (∀ r ∈ s.store.sources, tagOk r.tag = true) → s.store.sources.length ≤ 64 →
    s.store.sinks.length ≤ 64 →
    wellFormedEntries (snapshotEntries s).length ((List.range 16).flatMap (fragmentSlots (snapshotEntries s))) =
      some (snapshotEntries s)

/-- The three checks (R192): the header check over 28 words, the frame check over 121 words and the message check; what the
engine sends is judged good, any other check is judged bad, and the two examples. -/
def Obligations.ChecksAreFormedAndJudged : Prop :=
  (∀ (h : Heard) (slots : List Slot), slots.length = 8 → ∃ ws : List Word, ws.length = 28 ∧
      headerWords h slots = ws ++ [BitVec.ofNat 16 (65535 - (ws.map BitVec.toNat).sum % 65536)]) ∧
    (∀ (header : Word) (tiles : List Tile), (frameCheckWords header tiles).length = 121 ∧
      (carrierFrame header tiles).check =
        BitVec.ofNat 16 (65535 - ((frameCheckWords header tiles).map BitVec.toNat).sum % 65536) ∧
      (∀ w : Word, carrierCheckGood { header := header, tiles := tiles, check := w } = true ↔
        w = (carrierFrame header tiles).check)) ∧
    (∀ (ws : List Word) (w : Word), checkGood (ws ++ [w]) = true ↔ ((ws ++ [w]).map BitVec.toNat).sum % 65536 = 65535) ∧
    (∀ (code : Nat) (st : Status) (payload : List Byte),
      ((responseBytes code st payload).map BitVec.toNat).sum % 256 = 0) ∧
    (∀ (code : Byte) (x : Transfer), requestSumGood code x = true ↔
      ((code :: BitVec.ofNat 8 x.params.length :: x.params ++ [x.check]).map BitVec.toNat).sum % 256 = 0) ∧
    (headerWords ⟨4, 0, false, 0, 0, 8, 15, 0, 0⟩ (List.replicate 8 Slot.empty)).getLast? = some 12543 ∧
    requestSumGood 11 { params := [], check := 245, extra := [], spoiled := none } = true

/-! ### The management port -/

/-- A complete request with a bad sum is answered CHECK; with a good sum and a length that is not its command's, or with an
undefined code, FORM; and nothing but the slot changes. A request in COLD, or in a transfer that met COLD, is discarded
whole, its slot kept and its MSO bytes those of the slot up to COLD and then filler (11_management_port.md, Transfers,
Requests). That the transfer says how many bytes it had carried before COLD is the model's choice (log entry 10). -/
def Obligations.RefusedRequestsChangeOnlyTheSlot : Prop :=
  (∀ e ∈ commandTable, ∀ (x : Transfer) (s : State), s.station.state ≠ .cold → x.spoiled = none →
      (requestSumGood e.1 x = false → exec (e.2.2 x) s = .next (onlyAnswered e.1 .check x s)) ∧
      (requestSumGood e.1 x = true → x.params.length ≠ e.2.1 → exec (e.2.2 x) s = .next (onlyAnswered e.1 .form x s))) ∧
    (∀ (code : Byte) (x : Transfer) (s : State), 13 < code.toNat → s.station.state ≠ .cold → x.spoiled = none →
      (requestSumGood code x = false → exec (.undefinedCommandCode code x) s = .next (onlyAnswered code .check x s)) ∧
      (requestSumGood code x = true → exec (.undefinedCommandCode code x) s = .next (onlyAnswered code .form x s))) ∧
    (∀ (c : Instr) (x : Transfer) (s : State) (sent : List Byte) (n : Nat), (∃ e ∈ commandTable, c = e.2.2 x) ∨
      (∃ code : Byte, 13 < code.toNat ∧ c = .undefinedCommandCode code x) → s.station.state = .cold ∨ x.spoiled ≠ none →
      sent = s.mport.emptied.take (x.spoiled.getD 0) → n = x.params.length + 3 + x.extra.length →
      exec c s = .next { s with
        mport := { s.mport with mso := sent.take n ++ List.replicate (n - sent.length) 255 }
        report := attended s.station.state s.report })

/-- NOP does nothing but answer DONE. An incomplete transfer executes nothing and keeps the slot, whose first bytes and then
filler it shifts out; in COLD, and when it met COLD, it shifts out what it had of the slot before COLD began and then filler
(11_management_port.md, Transfers, Requests, Commands that act on the engine). That the transfer says how
many bytes it had carried before COLD is the model's choice (log entry 10). -/
def Obligations.NopAndIncompleteTransfersExecuteNothing : Prop :=
  (∀ (x : Transfer) (s : State), Accepted 0 0 x s → exec (.nop x) s = .next (onlyAnswered 0 .done x s)) ∧
  (∀ (bytes : List Byte) (spoiled : Option Nat) (s : State) (sent : List Byte), incompleteBytes bytes = true →
      sent = (if s.station.state = .cold ∨ spoiled ≠ none then s.mport.emptied.take (spoiled.getD 0) else s.mport.slot) →
      exec (.transferIncomplete bytes spoiled) s = .next { s with
        mport := { s.mport with mso := sent.take bytes.length ++ List.replicate (bytes.length - sent.length) 255 }
        report := attended s.station.state s.report })

/-- SET ATTENTION (R188): a mask above 15 or an enable above 1 is refused with RANGE; otherwise mask and enable are replaced,
ATTN follows at that event, and no flag and no snapshot changes. -/
def Obligations.SetAttentionReplacesMaskAndEnable : Prop :=
  ∀ (x : Transfer) (s : State), Accepted 12 2 x s →
    (param x.params 0 ≤ 15 → param x.params 1 ≤ 1 → exec (.setAttention x) s = .next { s with
      mport := portAfter (plainResponse 12 .done) x s
      report := attended s.station.state { s.report with
        mask := { order := (param x.params 0).testBit 0, lane := (param x.params 0).testBit 1,
                  carrier := (param x.params 0).testBit 2, station := (param x.params 0).testBit 3 }
        enable := decide (param x.params 1 = 1) } }) ∧
    (15 < param x.params 0 ∨ 1 < param x.params 1 → exec (.setAttention x) s = .next (onlyAnswered 12 .range x s))

/-- READ ORDER: the record of the visible order in 52, 50 or 28 payload bytes, each field at its place, and its item's
snapshot taken and flag cleared, with no other item touched; TAG_UNKNOWN and RANGE touch none (11_management_port.md, Reading
the engine; 12_frame_and_message_formats.md, Record payloads). The first-tile byte of a client binding is the model's reading
(log entry 17). -/
def Obligations.ReadOrderCopiesTheItem : Prop :=
  ∀ (x : Transfer) (s : State) (tag : Nat), Accepted 7 4 x s → tag = paramBe x.params 1 3 →
    (param x.params 0 = 1 → ∀ r, visibleSource s.store tag = some r → (sourcePayload s r).length = 52 ∧
      sourcePayload s r = laidOut ([(1, 1), (3, r.tag), (1, r.cls)] ++ bindingRows r.binding ++
        [(4, r.rnom), (1, r.k), (1, r.threshold), (1, r.priority),
          (1, match r.action with | .withdraw => 1 | .mark => 2 | .fill => 3),
          (1, match r.standing with | .primary => 1 | .standby => 2),
          (1, bitRow [r.firstTile.isSome, r.entryNo.isSome, (heldAdapter s r.adapter).isSome, false,
            (heldAdapter s r.adapter).any fun a => a.2.last.isSome]),
          (1, match r.state with | .dormant => 0 | .queued => 1 | .offered => 2 | .retiring => 3), (1, r.firstTile.getD 0),
          (1, r.releaseCount), (4, r.entryNo.getD 0), (1, r.passedOver), (1, bitRow [r.blocked, r.mismatch, r.latch, r.omitted]),
          (1, r.faultCount), (1, qualityRow (sourceQuality s.carriers.ports r)),
          (1, match r.ingress with
            | .absent => 0 | .passed .good => 1 | .passed .degraded => 2 | .passed .failed => 3 | .refused => 4)] ++
        adapterRows (heldAdapter s r.adapter)) ∧
      exec (.readOrder x) s = .next { s with
        mport := portAfter (responseBytes 7 .done (sourcePayload s r)) x s
        report := attended s.station.state { s.report with sources := s.report.sources.map fun e =>
          if e.1 = tag then (e.1, { snap := sourceReport s.carriers.ports r, flag := false }) else e } }) ∧
    (param x.params 0 = 2 → ∀ k, findSink s.store tag = some k →
      (sinkPayload s k).length = (match k.binding with | .client _ => 50 | .carrier _ _ => 28) ∧
      sinkPayload s k = laidOut ([(1, 2), (3, k.tag), (1, k.cls)] ++ bindingRows k.binding ++
        [(4, k.rnom.getD 0), (1, k.k.getD 0), (1, k.w),
          (1, bitRow [false, false, (heldAdapter s k.adapter).isSome, k.sel.isSome,
            (heldAdapter s k.adapter).any fun a => a.2.last.isSome]),
          (1, if k.sel.isSome then 1 else 0), (1, (k.sel.map fun o => o.lane.val).getD 0), (1, (k.sel.map (·.first)).getD 0),
          (1, match k.sel.map Selection.standing with | some .primary => 1 | some .standby => 2 | none => 0),
          (1, (k.sel.map fun o => qualityRow o.quality).getD 0), (1, k.wtr), (2, k.switches), (1, k.slips),
          (1, bitRow [false, k.mismatch]), (1, match k.binding with | .client _ => k.faultCount | .carrier _ _ => 0),
          (1, qualityRow k.delivered), (1, qualityRow (outputQuality k))] ++
        (match k.binding with | .client _ => adapterRows (heldAdapter s k.adapter) | .carrier _ _ => [])) ∧
      exec (.readOrder x) s = .next { s with
        mport := portAfter (responseBytes 7 .done (sinkPayload s k)) x s
        report := attended s.station.state { s.report with sinks := s.report.sinks.map fun e =>
          if e.1 = tag then (e.1, { snap := sinkReport k, flag := false }) else e } }) ∧
    (param x.params 0 = 1 → visibleSource s.store tag = none →
      exec (.readOrder x) s = .next (onlyAnswered 7 .tagUnknown x s)) ∧
    (param x.params 0 = 2 → findSink s.store tag = none → exec (.readOrder x) s = .next (onlyAnswered 7 .tagUnknown x s)) ∧
    (param x.params 0 ≠ 1 → param x.params 0 ≠ 2 → exec (.readOrder x) s = .next (onlyAnswered 7 .range x s))

/-- READ LANE, READ CARRIER and READ STATION: a payload of 42, 16 or 31 bytes, and the item's snapshot taken and flag
cleared, with no other item touched; a lane above 8 and a port above 3 are refused with RANGE. READ CHANGES: the first
sixteen flagged orders in ascending order of tag with the source before the sink, a more-indication, the summaries of the
lane, carrier and station flags, and no flag or snapshot changed; each field of every payload at its place
(11_management_port.md, Reading the engine and READ CHANGES; 12_frame_and_message_formats.md, Record payloads). The tracking
side and the expected instants are the model's readings (log entries 11 and 13). -/
def Obligations.ReadsReportTheItems : Prop :=
  (∀ (x : Transfer) (s : State) (l : Fin 9), Accepted 9 1 x s → param x.params 0 = l.val →
      (lanePayload s l).length = 42 ∧ lanePayload s l = laidOut (laneRows s l) ∧ exec (.readLane x) s = .next { s with
        mport := portAfter (responseBytes 9 .done (lanePayload s l)) x s
        report := attended s.station.state { s.report with
          lanes := s.report.lanes.set l { snap := laneReport s.lanes[l], flag := false } } }) ∧
    (∀ (x : Transfer) (s : State), Accepted 9 1 x s → 8 < param x.params 0 →
      exec (.readLane x) s = .next (onlyAnswered 9 .range x s)) ∧
    (∀ (x : Transfer) (s : State) (p : Fin 4), Accepted 10 1 x s → param x.params 0 = p.val →
      (portPayload s p).length = 16 ∧ portPayload s p = laidOut (portRows s p) ∧ exec (.readCarrier x) s = .next { s with
        mport := portAfter (responseBytes 10 .done (portPayload s p)) x s
        report := attended s.station.state { s.report with
          ports := s.report.ports.set p { snap := portReport s.carriers.ports[p], flag := false } } }) ∧
    (∀ (x : Transfer) (s : State), Accepted 10 1 x s → 3 < param x.params 0 →
      exec (.readCarrier x) s = .next (onlyAnswered 10 .range x s)) ∧
    (∀ (x : Transfer) (s : State), Accepted 11 0 x s →
      (stationPayload s).length = 31 ∧ stationPayload s = laidOut (stationRows s) ∧ exec (.readStation x) s = .next { s with
        mport := portAfter (responseBytes 11 .done (stationPayload s)) x s
        report := attended s.station.state { s.report with station := { snap := stationReport s, flag := false } } }) ∧
    (∀ (x : Transfer) (s : State), Accepted 8 0 x s →
      (changesPayload s.report).length = 6 + 4 * min 16 (flaggedOrders s.report).length ∧
      exec (.readChanges x) s = .next { s with
        mport := portAfter (responseBytes 8 .done (changesPayload s.report)) x s
        report := attended s.station.state s.report }) ∧
    (∀ r : ReportUnit,
      changesPayload r = laidOut ([(1, min 16 (flaggedOrders r).length), (1, if 16 < (flaggedOrders r).length then 1 else 0),
        (2, bitRow (r.lanes.toList.map (·.flag))), (1, bitRow (r.ports.toList.map (·.flag))), (1, if r.station.flag then 1 else 0)] ++
          ((flaggedOrders r).take 16).flatMap fun e => [(1, e.1), (3, e.2)]) ∧
      (flaggedOrders r).Pairwise (fun a b => a.2 < b.2 ∨ (a.2 = b.2 ∧ a.1 ≤ b.1)) ∧
      ∀ d tag : Nat, (d, tag) ∈ flaggedOrders r ↔ (d = 1 ∧ ∃ it, (tag, it) ∈ r.sources ∧ it.flag = true) ∨
        (d = 2 ∧ ∃ it, (tag, it) ∈ r.sinks ∧ it.flag = true))

/-! ### Orders -/

/-- Admission requests are checked in the order of R9: the first check that fails gives the status, and the refused request
changes nothing but the slot; a request that passes every check is answered DONE (01_circuits_and_orders.md, Placing an
order). -/
def Obligations.AdmissionChecksComeInOrder : Prop :=
  (∀ (x : Transfer) (s : State) (r : SourceRequest) (cs : List (Prop × Status)), Accepted 1 16 x s →
      r = sourceRequest x.params →
      cs = admissionChecks .source r.tag r.cls r.kind r.port r.first
        ((r.action = 1 ∨ r.action = 2 ∨ r.action = 3) ∧ (r.standing = 1 ∨ r.standing = 2)) s.store →
      (∀ (i : Nat) (p : Prop) (st : Status), cs[i]? = some (p, st) → p →
        (∀ (j : Nat) (q : Prop) (u : Status), j < i → cs[j]? = some (q, u) → ¬ q) →
        exec (.placeSource x) s = .next (onlyAnswered 1 st x s)) ∧
      ((∀ c ∈ cs, ¬ c.1) → ∃ t, exec (.placeSource x) s = .next t ∧ t.mport = portAfter (plainResponse 1 .done) x s)) ∧
    (∀ (x : Transfer) (s : State) (r : SinkRequest) (cs : List (Prop × Status)), Accepted 2 13 x s →
      r = sinkRequest x.params → cs = admissionChecks .sink r.tag r.cls r.kind r.port r.first True s.store →
      (∀ (i : Nat) (p : Prop) (st : Status), cs[i]? = some (p, st) → p →
        (∀ (j : Nat) (q : Prop) (u : Status), j < i → cs[j]? = some (q, u) → ¬ q) →
        exec (.placeSink x) s = .next (onlyAnswered 2 st x s)) ∧
      ((∀ c ∈ cs, ¬ c.1) → ∃ t, exec (.placeSink x) s = .next t ∧ t.mport = portAfter (plainResponse 2 .done) x s))

/-- An admitted source order: its record with clamped parameters and the free adapter of lowest number, QUEUED exactly when a
WANT of its tag and class stands in the view, its positions bound, its item made with the flag clear, and every other order
as it was (01_circuits_and_orders.md, Placing an order; 06_rate_adaptation.md, The rate-adapter record). The last queue entry
number, at which the queue is renumbered, is stated in QueueKeepsPriorityOrder. -/
def Obligations.PlaceSourceAdmits : Prop :=
  ∀ (x : Transfer) (s : State) (r : SourceRequest) (b : Binding) (action : FailedAction) (standing : Standing)
    (wanted : Bool), Accepted 1 16 x s → r = sourceRequest x.params → bindingOf r.kind r.port r.first = some b →
    actionOfCode r.action = some action → standingOfCode r.standing = some standing →
    (∀ c ∈ admissionChecks .source r.tag r.cls r.kind r.port r.first True s.store, ¬ c.1) → TileLaw s →
    s.store.queueCounter < 4294967295 → wanted = wantStands s.view r.tag r.cls →
    ∃ (t : State) (n : Fin 96) (q : Source) (a : Adapter), exec (.placeSource x) s = .next t ∧
      s.store.pool[n] = none ∧ (∀ m : Fin 96, m < n → s.store.pool[m] ≠ none) ∧
      (q.tag = r.tag ∧ q.cls = r.cls ∧ q.binding = b ∧ q.rnom = max 256 (min (640000 * r.cls) r.rnom) ∧
        q.k = max 2 (min 6 r.k) ∧
        q.threshold = (if r.n ≤ 1 then 1 else if r.n ≤ 3 then 3 else if r.n ≤ 5 then 5 else 8) ∧
        q.action = action ∧ q.priority = min 3 r.priority ∧ q.standing = standing ∧ q.adapter = some n ∧
        q.removed = false ∧ q.state = (if wanted then .queued else .dormant) ∧ q.firstTile = none ∧ q.releaseCount = 0 ∧
        q.entryNo = (if wanted then some s.store.queueCounter else none) ∧ q.passedOver = 0 ∧ q.blocked = false ∧
        q.omitted = false ∧ q.mismatch = otherWantStands s.view r.tag r.cls ∧ q.faultCount = 0 ∧ q.latch = false ∧
        q.ingress = .absent) ∧
      (a.tag = r.tag ∧ a.cls = r.cls ∧ a.rnom = q.rnom ∧ a.k = q.k ∧ a.running = false ∧ a.store = [] ∧ a.rate = q.rnom ∧
        a.phase = 0 ∧ a.spanCount = 0 ∧ a.arrived = 0 ∧ a.dets.any = false ∧ a.ended = none ∧ a.last = none ∧
        a.kind = (match b with | .client _ => .clientSource | .carrier _ _ => .carrierSource)) ∧
      t = { s with
        store := { s.store with
          sources := s.store.sources ++ [q]
          pool := s.store.pool.set n (some a)
          freeStore := s.store.freeStore - 4096 * r.cls
          queue := if wanted then s.store.queue.filter (fun e => q.priority ≤ priorityOf s.store e) ++
              r.tag :: s.store.queue.filter (fun e => priorityOf s.store e < q.priority) else s.store.queue
          queueCounter := if wanted then s.store.queueCounter + 1 else s.store.queueCounter
          clientIn := (match b with | .client p => s.store.clientIn.set p (some r.tag) | .carrier _ _ => s.store.clientIn)
          carrierIn := (match b with
            | .client _ => s.store.carrierIn
            | .carrier p first => s.store.carrierIn.set p (setRange s.store.carrierIn[p] first r.cls (some r.tag))) }
        mport := portAfter (plainResponse 1 .done) x s
        report := attended s.station.state { s.report with
          sources := s.report.sources.filter (·.1 < r.tag) ++
            (r.tag, { snap := sourceReport s.carriers.ports q, flag := false }) ::
              s.report.sources.filter (r.tag ≤ ·.1) } }

/-- An admitted sink order: its record with clamped parameters, an adapter for a client sink alone, a first selection of the
best candidate counted once, its positions bound, its item made with the flag clear, and every other order as it was
(01_circuits_and_orders.md, Placing an order; 05_selection_and_protection.md, Evaluation). -/
def Obligations.PlaceSinkAdmits : Prop :=
  ∀ (x : Transfer) (s : State) (r : SinkRequest) (b : Binding), Accepted 2 13 x s → r = sinkRequest x.params →
    bindingOf r.kind r.port r.first = some b →
    (∀ c ∈ admissionChecks .sink r.tag r.cls r.kind r.port r.first True s.store, ¬ c.1) →
    ∃ (t : State) (q : Sink), exec (.placeSink x) s = .next t ∧
      (q.tag = r.tag ∧ q.cls = r.cls ∧ q.binding = b ∧ q.w = min 255 r.w ∧ q.wtr = 0 ∧ q.slips = 0 ∧
        q.mismatch = otherOfferStands s r.tag r.cls ∧ q.faultCount = 0 ∧ q.delivered = .failed ∧
        q.sel = bestOf (candidates s r.tag r.cls) ∧
        q.switches = (if candidates s r.tag r.cls = [] then 0 else 1)) ∧
      t = { s with
        store := { s.store with
          sinks := s.store.sinks ++ [q]
          pool := t.store.pool
          freeStore := t.store.freeStore
          clientEgr := (match b with | .client p => s.store.clientEgr.set p (some r.tag) | .carrier _ _ => s.store.clientEgr)
          carrierEgr := (match b with
            | .client _ => s.store.carrierEgr
            | .carrier p first => s.store.carrierEgr.set p (setRange s.store.carrierEgr[p] first r.cls (some r.tag))) }
        mport := portAfter (plainResponse 2 .done) x s
        report := attended s.station.state { s.report with
          sinks := s.report.sinks.filter (·.1 < r.tag) ++
            (r.tag, { snap := sinkReport q, flag := false }) :: s.report.sinks.filter (r.tag ≤ ·.1) } } ∧
      (match b with
        | .carrier _ _ => q.rnom = none ∧ q.k = none ∧ q.adapter = none ∧ t.store.pool = s.store.pool ∧
            t.store.freeStore = s.store.freeStore
        | .client _ => ∃ (n : Fin 96) (a : Adapter), s.store.pool[n] = none ∧
            (∀ m : Fin 96, m < n → s.store.pool[m] ≠ none) ∧ q.adapter = some n ∧ q.rnom = some a.rnom ∧ q.k = some a.k ∧
            a.rnom = max 256 (min (640000 * r.cls) r.rnom) ∧ a.k = max 2 (min 6 r.k) ∧ a.kind = .clientSink ∧
            a.tag = r.tag ∧ a.cls = r.cls ∧ a.running = false ∧ a.store = [] ∧ a.rate = a.rnom ∧ a.phase = 0 ∧
            a.spanCount = 0 ∧ a.arrived = 0 ∧ a.dets.any = false ∧ a.ended = none ∧ a.last = none ∧
            t.store.pool = s.store.pool.set n (some a) ∧ t.store.freeStore = s.store.freeStore - 4096 * r.cls)

/-- REMOVE: the order's positions, adapter and store memory are free at once and its item is deleted; a source record is
deleted when it holds no tiles and stays hidden and RETIRING when it does, a sink record is deleted at once and its blocks go
no further than the own frame in progress; and every other order is as it was. A span end left over from the order's latest
departure comes before the freeing (01_circuits_and_orders.md, Removing an order; 06_rate_adaptation.md, Departures). An
unknown tag and an undefined direction change nothing but the slot. That a span end may be left, how a port shows the blocks
of a removed sink, and what a hidden record holds of latch, fault count and ingress status, are the model's choices (log
entries 3, 25 and 38). -/
def Obligations.RemoveFreesRetiresAndDeletes : Prop :=
  (∀ (x : Transfer) (s : State) (tag : Nat) (r : Source) (n : Fin 96) (a : Adapter), Accepted 3 4 x s →
      param x.params 0 = 1 → tag = paramBe x.params 1 3 → TileLaw s → visibleSource s.store tag = some r →
      r.adapter = some n → s.store.pool[n] = some a → a.ended = none →
      exec (.remove x) s = .next { s with
        store := { s.store with
          sources := if r.state = .offered ∨ r.state = .retiring then
              s.store.sources.map (fun e : Source => if e.tag = tag then
                { e with state := .retiring, removed := true, adapter := none, latch := false, faultCount := 0
                         ingress := .absent } else e)
            else s.store.sources.filter (·.tag ≠ tag)
          queue := s.store.queue.filter (· ≠ tag)
          pool := s.store.pool.set n none
          freeStore := s.store.freeStore + 4096 * a.cls
          clientIn := (match r.binding with | .client p => s.store.clientIn.set p none | .carrier _ _ => s.store.clientIn)
          carrierIn := (match r.binding with
            | .client _ => s.store.carrierIn
            | .carrier p first => s.store.carrierIn.set p (setRange s.store.carrierIn[p] first r.cls none)) }
        mport := portAfter (plainResponse 3 .done) x s
        report := attended s.station.state { s.report with sources := s.report.sources.filter (·.1 ≠ tag) } }) ∧
    (∀ (x : Transfer) (s : State) (tag : Nat) (n : Fin 96), Accepted 3 4 x s → tag = paramBe x.params 1 3 →
      (param x.params 0 = 1 ∧ (visibleSource s.store tag).bind (·.adapter) = some n) ∨
        (param x.params 0 = 2 ∧ (findSink s.store tag).bind (·.adapter) = some n) →
      exec (.remove x) s = exec (.remove x) (spanEndOf n s)) ∧
    (∀ (x : Transfer) (s : State), Accepted 3 4 x s →
      (param x.params 0 = 1 → visibleSource s.store (paramBe x.params 1 3) = none →
        exec (.remove x) s = .next (onlyAnswered 3 .tagUnknown x s)) ∧
      (param x.params 0 ≠ 1 → param x.params 0 ≠ 2 → exec (.remove x) s = .next (onlyAnswered 3 .range x s))) ∧
    (∀ (x : Transfer) (s : State) (tag : Nat) (k : Sink), Accepted 3 4 x s → param x.params 0 = 2 →
      tag = paramBe x.params 1 3 → SinkTable s → findSink s.store tag = some k →
      (∀ n, k.adapter = some n → ∃ a, s.store.pool[n] = some a ∧ a.ended = none) →
      ∃ t, exec (.remove x) s = .next t ∧ t = { s with
        store := { s.store with
          sinks := s.store.sinks.filter (·.tag ≠ tag)
          pool := t.store.pool
          freeStore := t.store.freeStore
          clientEgr := (match k.binding with | .client p => s.store.clientEgr.set p none | .carrier _ _ => s.store.clientEgr)
          carrierEgr := (match k.binding with
            | .client _ => s.store.carrierEgr
            | .carrier p first => s.store.carrierEgr.set p (setRange s.store.carrierEgr[p] first k.cls none)) }
        mport := portAfter (plainResponse 3 .done) x s
        report := attended s.station.state { s.report with sinks := s.report.sinks.filter (·.1 ≠ tag) }
        pins := { s.pins with clientOut := t.pins.clientOut } } ∧
      (∀ p : Fin 32, t.pins.clientOut[p] = if k.binding = .client p then
          (match s.pins.clientOut[p] with | .departure blocks => .removed blocks | e => e) else s.pins.clientOut[p]) ∧
      (k.adapter = none → t.store.pool = s.store.pool ∧ t.store.freeStore = s.store.freeStore) ∧
      (∀ n a, k.adapter = some n → s.store.pool[n] = some a →
        t.store.pool = s.store.pool.set n none ∧ t.store.freeStore = s.store.freeStore + 4096 * a.cls)) ∧
    (∀ (x : Transfer) (s : State), Accepted 3 4 x s → param x.params 0 = 2 →
      findSink s.store (paramBe x.params 1 3) = none → exec (.remove x) s = .next (onlyAnswered 3 .tagUnknown x s))

/-- RESTATE clears latch and fault count of the visible source whatever they were, leaves its adapter and ingress status, and
evaluates it at once when it was latched with WITHDRAW; an unknown tag changes nothing but the slot
(01_circuits_and_orders.md, Restating a source; 07_tributary_health.md, Fault count and latch). -/
def Obligations.RestateClearsTheFailureRecord : Prop :=
  (∀ (x : Transfer) (s : State) (tag : Nat) (r : Source) (wanted : Bool), Accepted 4 3 x s →
      tag = paramBe x.params 0 3 → TileLaw s → s.store.queueCounter < 4294967295 → visibleSource s.store tag = some r →
      wanted = wantStands s.view r.tag r.cls →
      ∃ (t : State) (q : Source), exec (.restate x) s = .next t ∧
        t = { s with
          store := { s.store with sources := t.store.sources, queue := t.store.queue, queueCounter := t.store.queueCounter }
          mport := portAfter (plainResponse 4 .done) x s
          report := { s.report with sources := t.report.sources, attn := t.report.attn } } ∧
        t.store.sources = s.store.sources.map (fun e => if e.tag = tag then q else e) ∧
        t.report.sources.map (fun e => (e.1, e.2.snap)) = s.report.sources.map (fun e => (e.1, e.2.snap)) ∧
        (if r.latch = true ∧ r.action = .withdraw then
          q = { r with
            latch := false
            faultCount := 0
            mismatch := otherWantStands s.view r.tag r.cls
            state := if r.state = .dormant ∧ wanted = true then .queued
              else if r.state = .queued ∧ wanted = false then .dormant else r.state
            entryNo := if r.state = .dormant ∧ wanted = true then some s.store.queueCounter
              else if r.state = .queued ∧ wanted = false then none else r.entryNo
            releaseCount := if r.state = .offered ∧ wanted = true then 0 else r.releaseCount }
        else q = { r with latch := false, faultCount := 0 } ∧ t.store.queue = s.store.queue ∧
          t.store.queueCounter = s.store.queueCounter)) ∧
    (∀ (x : Transfer) (s : State), Accepted 4 3 x s → visibleSource s.store (paramBe x.params 0 3) = none →
      exec (.restate x) s = .next (onlyAnswered 4 .tagUnknown x s))

/-- LIGHT moves a DARK port to WAITING and no other; DARKEN makes any port DARK with no stagger count and its transmitter
off; no other port moves, no snapshot is taken, and a port number above 3 is refused with RANGE (08_carrier_ports.md, LIGHT
and DARKEN; 11_management_port.md, Reportable items and change flags). -/
def Obligations.LightAndDarkenMoveOnePort : Prop :=
  (∀ (x : Transfer) (s : State) (p : Fin 4), Accepted 5 1 x s → param x.params 0 = p.val →
      ∃ (t : State) (y : CarrierPort), exec (.light x) s = .next t ∧
        (if s.carriers.ports[p].state = .dark then y = { s.carriers.ports[p] with state := .waiting }
          else y = s.carriers.ports[p]) ∧
        t = { s with
          carriers := { s.carriers with ports := s.carriers.ports.set p y }
          mport := portAfter (plainResponse 5 .done) x s
          report := { s.report with ports := t.report.ports, attn := t.report.attn } } ∧
        (∀ q : Fin 4, q ≠ p → t.report.ports[q] = s.report.ports[q]) ∧
        t.report.ports[p].snap = s.report.ports[p].snap ∧
        t.report.ports[p].flag = flagAfter s.report.ports[p] (portReport s.carriers.ports[p]) (portReport y)) ∧
    (∀ (x : Transfer) (s : State) (p : Fin 4), Accepted 6 1 x s → param x.params 0 = p.val →
      ∃ (t : State) (y : CarrierPort), exec (.darken x) s = .next t ∧
        (if s.carriers.ports[p].state = .dark then y = s.carriers.ports[p]
          else y = { s.carriers.ports[p] with state := .dark, stagger := none }) ∧
        t = { s with
          carriers := { s.carriers with ports := s.carriers.ports.set p y }
          pins := { s.pins with carrierOut := s.pins.carrierOut.set p none }
          mport := portAfter (plainResponse 6 .done) x s
          report := { s.report with ports := t.report.ports, station := t.report.station, attn := t.report.attn } } ∧
        (∀ q : Fin 4, q ≠ p → t.report.ports[q] = s.report.ports[q]) ∧
        t.report.ports[p].snap = s.report.ports[p].snap ∧
        t.report.ports[p].flag = flagAfter s.report.ports[p] (portReport s.carriers.ports[p]) (portReport y) ∧
        t.report.station.snap = s.report.station.snap ∧
        t.report.station.flag = flagAfter s.report.station (stationReport s) (stationReport t)) ∧
    (∀ (x : Transfer) (s : State), 3 < param x.params 0 →
      (Accepted 5 1 x s → exec (.light x) s = .next (onlyAnswered 5 .range x s)) ∧
      (Accepted 6 1 x s → exec (.darken x) s = .next (onlyAnswered 6 .range x s)))

/-! ### Restarts -/

/-- What every block holds in COLD (10_joining_the_shelf.md, Cold start): POWER_UP brings it with cause POWER, RESET_ASSERTED
in LISTEN or JOINED with cause PIN, and RESET_ASSERTED in COLD changes neither state nor cause. The orders, the maps, the
pool and the queue are empty; receivers, peer view, Timing Unit, carrier ports and busy sets take their cold-start values; no
flag, no mask bit and no enable is set and ATTN is not asserted; the slot is empty and every output silent. What the
slot held is remembered for the bytes that a transfer in progress had shifted out of it (11_management_port.md, Transfers),
which is the model's own field (log entry 10), and the bytes of MSO, which the spec gives no value in COLD, are none by its
choice (log entry 1). -/
def Obligations.ColdStartTakesColdValues : Prop :=
  (∀ s : State, ∃ t, exec .powerUp s = .next t ∧ t.station.cause = .power ∧
      t.station.state = .cold ∧ t.pending = s.pending ∧ t.pins.hold = s.pins.hold) ∧
    (∀ s : State, s.station.state ≠ .cold → ∃ t, exec .resetAsserted s = .next t ∧
      t.station.cause = .pin ∧ t.station.state = .cold ∧ t.pending = s.pending ∧ t.pins.hold = s.pins.hold) ∧
    (∀ s : State, s.station.state = .cold → exec .resetAsserted s = .next s) ∧
    (∀ s t : State, exec .powerUp s = .next t ∨ (s.station.state ≠ .cold ∧ exec .resetAsserted s = .next t) →
      (t.store.sources = [] ∧ t.store.sinks = [] ∧ t.store.queue = [] ∧ t.store.queueCounter = 0 ∧
        t.store.freeStore = 327680 ∧ (∀ n : Fin 96, t.store.pool[n] = none) ∧ (∀ i : Fin 160, t.store.tileMap[i] = none) ∧
        (∀ p : Fin 32, t.store.clientIn[p] = none ∧ t.store.clientEgr[p] = none) ∧
        (∀ (p : Fin 4) (i : Fin 40), t.store.carrierIn[p][i] = none ∧ t.store.carrierEgr[p][i] = none)) ∧
      t.tx.snapshot = [] ∧
      (∀ l : Fin 9, t.lanes[l].state = .absent ∧ t.lanes[l].capture = none ∧ t.lanes[l].candidate = none ∧
        t.lanes[l].matchCount = 0 ∧ t.lanes[l].held = none ∧ t.lanes[l].trackCount = 0 ∧ t.lanes[l].drift = 0 ∧
        t.lanes[l].missed = 0 ∧ t.lanes[l].heard = none ∧ t.lanes[l].skewRange = false ∧ t.lanes[l].misplug = false ∧
        t.lanes[l].headerErrors = 0 ∧ t.lanes[l].alignments = 0 ∧ t.lanes[l].windows = []) ∧
      (∀ l : Fin 9, t.view[l].manifest = none ∧ t.view[l].stale = 3 ∧ t.view[l].nextIndex = none ∧
        t.view[l].assembly = none ∧ t.view[l].arrivals = 0 ∧ t.view[l].incompletes = 0) ∧
      (t.timing.selected = .free ∧ t.timing.level = 8 ∧ t.timing.holdover = false ∧ t.timing.age = 0 ∧
        t.timing.changed = false ∧ t.timing.refState = .idle ∧ t.timing.refRun = 0 ∧ t.timing.refMissing = 0 ∧
        t.timing.refExpected = none ∧ t.timing.refPos = none ∧
        ∀ l : Fin 9, t.timing.lanes[l] = { alignedRounds := 0, wholeRound := false, qualified := false }) ∧
      (∀ p : Fin 4, t.carriers.ports[p].state = .dark ∧ t.carriers.ports[p].stagger = none ∧
        t.carriers.ports[p].framer = .hunt ∧ t.carriers.ports[p].expected = none ∧ t.carriers.ports[p].confirm = none ∧
        t.carriers.ports[p].missing = 0 ∧ t.carriers.ports[p].roundErrors = 0 ∧ t.carriers.ports[p].degraded = false ∧
        t.carriers.ports[p].errorTotal = 0 ∧ t.carriers.ports[p].farEnd = none) ∧
      (∀ i : Fin 9, t.carriers.current[i] = false ∧ t.carriers.previous[i] = false) ∧
      (t.report.attn = false ∧ t.report.enable = false ∧ t.report.sources = [] ∧ t.report.sinks = [] ∧
        t.report.mask = { order := false, lane := false, carrier := false, station := false } ∧
        (∀ l : Fin 9, t.report.lanes[l].flag = false) ∧ (∀ p : Fin 4, t.report.ports[p].flag = false) ∧
        t.report.station.flag = false) ∧
      t.mport = { slot := [], mso := [], emptied := if s.mport.slot = [] then s.mport.emptied else s.mport.slot } ∧
      t.pins.laneOut = none ∧ (∀ p : Fin 4, t.pins.carrierOut[p] = none) ∧ (∀ p : Fin 32, t.pins.clientOut[p] = .off))

/-- The end of a cold start: the straps are read, the station is LISTEN in frame 0 of round 0, its first header is sent, its
own lane is ALIGNED at 0, every item's snapshot is taken with its flag clear, and every client port carries replacement
blocks; a running station reads no strap (10_joining_the_shelf.md, The straps and Cold start; 11_management_port.md, Values
after restarts). That a row which comes without its event changes nothing is the model's choice (log entry 2). -/
def Obligations.ColdStartEndEntersListen : Prop :=
  (∀ (straps : Straps) (cause : RestartCause) (s0 s : State), s = coldStart cause s0 →
      ∃ (t : State) (f : LaneFrame), exec (.coldStartEnd straps) s = .next t ∧
        t.station.state = .listen ∧ t.station.number.val = 3 * straps.sna.val + straps.snb.val ∧
        t.station.staggerSetting = (if straps.stg.val = 0 then 125 else if straps.stg.val = 1 then 250 else 500) ∧
        (t.station.refUse = true ↔ straps.refu.val = 1) ∧ t.station.epoch = 0 ∧ t.station.cause = cause ∧
        t.station.listenRounds = 0 ∧ t.station.wholeRound = true ∧
        t.tx.roundNo = 0 ∧ t.tx.frame = 0 ∧ t.tx.frameLen = 168 ∧ t.tx.tileTime = 0 ∧ t.tx.snapshot = [] ∧
        t.pins.laneOut = some f ∧
        f.words = [BitVec.ofNat 16 (4096 * t.station.number.val), 0, 36608, 0] ++ List.replicate 24 0 ++
          [BitVec.ofNat 16 (65535 - (4096 * t.station.number.val + 36608) % 65536)] ∧
        f.tiles = List.replicate 160 vacantTile ∧
        (∀ l : Fin 9, l ≠ t.station.number → t.lanes[l].state = .absent) ∧
        t.lanes[t.station.number].state = .aligned ∧ t.lanes[t.station.number].held = some 0 ∧
        (∀ p : Fin 32, t.pins.clientOut[p] = .free) ∧ (∀ p : Fin 4, t.pins.carrierOut[p] = none) ∧
        (∀ l : Fin 9, t.report.lanes[l] = { snap := laneReport t.lanes[l], flag := false }) ∧
        (∀ p : Fin 4, t.report.ports[p] = { snap := portReport t.carriers.ports[p], flag := false }) ∧
        t.report.station = { snap := ⟨.listen, .free, 8, false, .none, s0.pins.hold⟩, flag := false } ∧
        t.report.enable = false ∧ t.report.attn = false ∧ t.mport.slot = [] ∧ t.store.sources = [] ∧ t.store.sinks = [] ∧
        t.timing = s.timing ∧ t.carriers.ports = s.carriers.ports ∧ t.pending = s.pending) ∧
    (∀ (straps : Straps) (s : State), s.station.state ≠ .cold → exec (.coldStartEnd straps) s = .next s)

/-- RESTART ENGINE: the epoch moves on, the order store, the snapshot and the order items are emptied, the flags of the other
items are cleared with their snapshots taken, the blocks of the removed sinks go no further than the own frame in progress,
and the lanes, the view, the timing unit, the carriers, the straps' values, the frame count, mask and enable are kept
(10_joining_the_shelf.md, Engine restart; 11_management_port.md, Values after restarts). How a port shows the blocks of a
removed sink is the model's choice (log entry 25). -/
def Obligations.RestartEngineKeepsTheShelf : Prop :=
  ∀ (x : Transfer) (s : State), Accepted 13 0 x s → ∃ t, exec (.restartEngine x) s = .next t ∧
    t = { s with
      station := { s.station with
        state := .listen
        epoch := (s.station.epoch + 1) % 256
        cause := .engine
        listenRounds := 0
        wholeRound := false }
      store := t.store
      tx := { s.tx with snapshot := [] }
      report := { t.report with mask := s.report.mask, enable := s.report.enable }
      mport := portAfter (plainResponse 13 .done) x s
      pins := { s.pins with clientOut := t.pins.clientOut } } ∧
    (∀ p : Fin 32, t.pins.clientOut[p] = match s.pins.clientOut[p] with | .departure blocks => .removed blocks | e => e) ∧
    t.store.sources = [] ∧ t.store.sinks = [] ∧ t.store.queue = [] ∧ t.store.queueCounter = 0 ∧
    t.store.freeStore = 327680 ∧ (∀ n : Fin 96, t.store.pool[n] = none) ∧ (∀ i : Fin 160, t.store.tileMap[i] = none) ∧
    (∀ p : Fin 32, t.store.clientIn[p] = none ∧ t.store.clientEgr[p] = none) ∧
    (∀ (p : Fin 4) (i : Fin 40), t.store.carrierIn[p][i] = none ∧ t.store.carrierEgr[p][i] = none) ∧
    t.report.sources = [] ∧ t.report.sinks = [] ∧ t.report.attn = false ∧
    (∀ l : Fin 9, t.report.lanes[l] = { snap := laneReport s.lanes[l], flag := false }) ∧
    (∀ p : Fin 4, t.report.ports[p] = { snap := portReport s.carriers.ports[p], flag := false }) ∧
    t.report.station = { snap := stationReport t, flag := false } ∧ t.report.station.snap.state = .listen

/-! ### HOLD and selection -/

/-- HOLD_ASSERTED moves the level and evaluates no sink; HOLD_RELEASED moves the level and evaluates every sink of the
station with HOLD released; nothing else moves (05_selection_and_protection.md, The HOLD input). -/
def Obligations.HoldEdgesEvaluateAtReleaseAlone : Prop :=
  (∀ s : State, ∃ t, exec .holdAsserted s = .next t ∧ t = { s with
      pins := { s.pins with hold := true }
      report := { s.report with station := t.report.station, attn := t.report.attn } }) ∧
    (∀ s : State, s.station.state ≠ .cold → SinkTable s → ∃ t, exec .holdReleased s = .next t ∧ t = { s with
      pins := { s.pins with hold := false }
      store := { s.store with sinks := s.store.sinks.map fun k => k.evaluate (candidates s k.tag k.cls) false }
      report := { s.report with sinks := t.report.sinks, station := t.report.station, attn := t.report.attn } }) ∧
    (∀ s : State, s.station.state = .cold → ∃ t, exec .holdReleased s = .next t ∧ t = { s with
      pins := { s.pins with hold := false }
      report := { s.report with attn := t.report.attn } })

/-- The ranking is a strict order (R80): of candidates on different lanes exactly one is the best, and it comes before every
other by quality, then standing, then lane number. -/
def Obligations.BestCandidateRanksBeforeEveryOther : Prop :=
  ∀ cs : List Selection, (cs.map (·.lane)).Nodup → cs ≠ [] → ∃ b, bestOf cs = some b ∧ b ∈ cs ∧
    ∀ d ∈ cs, d ≠ b →
      (b.quality = .good ∧ d.quality ≠ .good ∨ b.quality = .degraded ∧ d.quality = .failed) ∨
      b.quality = d.quality ∧ (b.standing = .primary ∧ d.standing = .standby ∨
        b.standing = d.standing ∧ b.lane < d.lane)

/-- The candidates of a sink are the OFFERs of its tag and class on ALIGNED lanes, at most one a lane, each as announced, in
views whose manifests hold no two OFFERs of one tag. What an evaluation does with them: a sink without a selection, or whose
lane offers it no longer, takes the best candidate or is left with none; a strictly better candidate is taken at once unless
HOLD is asserted; otherwise the selection stays with its record refreshed, and a failed wait-to-restore condition clears the
count unless HOLD is asserted. A notice of a manifest's change evaluates exactly the sinks whose tags stand in the old or the
new manifest, and judges their class-mismatch flags; so does the own lane's notice at the boundary of an own frame (R62),
stated of the boundaries of OwnFrameCarriesItsHeader, a WTR step still due being left (05_selection_and_protection.md,
Candidates and their ranking, Evaluation; 03_manifests_and_the_peer_view.md, What the Peer View tells its neighbours). That
the works of a round start wait in a list is the model's choice (log entry 7). -/
def Obligations.EvaluationSelectsSwitchesOrStays : Prop :=
  (∀ (s : State) (tag cls : Nat),
      (∀ l : Fin 9, ∀ c1 f1 q1 s1 c2 f2 q2 s2, Entry.offer tag c1 f1 q1 s1 ∈ s.view[l].entries →
        Entry.offer tag c2 f2 q2 s2 ∈ s.view[l].entries → c1 = c2 ∧ f1 = f2 ∧ q1 = q2 ∧ s1 = s2) →
      ((candidates s tag cls).map (·.lane)).Nodup ∧
        ∀ c : Selection, c ∈ candidates s tag cls ↔
          s.lanes[c.lane].state = .aligned ∧ Entry.offer tag cls c.first c.quality c.standing ∈ s.view[c.lane].entries) ∧
  (∀ (k : Sink) (cs : List Selection) (hold : Bool),
      (k.sel = none → cs = [] → k.evaluate cs hold = k) ∧
      (∀ b, (k.sel = none ∨ ∃ o, k.sel = some o ∧ ∀ c ∈ cs, c.lane ≠ o.lane) → bestOf cs = some b →
        k.evaluate cs hold = { k with sel := some b, wtr := 0, switches := min 65535 (k.switches + 1) }) ∧
      (∀ o, k.sel = some o → cs = [] → k.evaluate cs hold = { k with sel := none, wtr := 0 }) ∧
      (∀ o cur b, k.sel = some o → cs.find? (·.lane = o.lane) = some cur → bestOf cs = some b →
        (b.quality.rank < cur.quality.rank → hold = false →
          k.evaluate cs hold = { k with sel := some b, wtr := 0, switches := min 65535 (k.switches + 1) }) ∧
        (¬ (b.quality.rank < cur.quality.rank ∧ hold = false) → k.evaluate cs hold = { k with
          sel := some cur
          wtr := if (1 ≤ k.w ∧ b.standing = .primary ∧ cur.standing = .standby ∧ b.quality = cur.quality) ∨ hold = true
            then k.wtr else 0 }))) ∧
  (∀ (old new : Option Manifest) (s : State), SinkTable s →
      noticeSelector old new s = { s with
        store := { s.store with
          sinks := s.store.sinks.map fun k => if k.tag ∈ manifestTags old ∨ k.tag ∈ manifestTags new then
              Sink.evaluate { k with mismatch := otherOfferStands s k.tag k.cls } (candidates s k.tag k.cls) s.pins.hold
            else k } }) ∧
  (∀ (spans : List (Fin 96)) (leave : List RoundWork) (f : Nat) (s t : State) (k j : Sink) (me : Fin 9), PlainBoundary f s →
      (leave = [.wtr] ∨ (f ≠ 0 ∧ leave = [])) → SinkTable s → k ∈ s.store.sinks → me = s.station.number →
      exec (.ownFrameStart leave spans) s = .next t →
      j = (if ownNotice s t = true ∧
          (k.tag ∈ manifestTags s.view[me].manifest ∨ k.tag ∈ manifestTags t.view[me].manifest) then
        Sink.evaluate { k with mismatch := otherOfferStands t k.tag k.cls } (candidates t k.tag k.cls) t.pins.hold
      else k) →
      (findSink t.store k.tag).map (fun e => (e.sel, e.wtr, e.switches, e.mismatch)) =
        some (j.sel, j.wtr, j.switches, j.mismatch))

/-- The read of a selected tile group (05_selection_and_protection.md, Delivery): a group of the sink's tag, a mark that is
not VACANT and a fill that fits passes with that mark and fill; any other fails, is delivered as FAILED and counts a slip; a
WANTING sink makes no read and counts no slip. At the boundary of an own frame each sink reads and is delivered so, and what
passes is one arrival at a client sink's adapter; it is stated of the boundaries of OwnFrameCarriesItsHeader, and of adapters
with no span end left over. An alignment buffer delivers the frame of the window two own frames back, none where that window
has no frame, and nothing outside ALIGNED: a frame keeps its window over check instants and own frames, the frame of a header
takes the window of its marker, and the own lane's frame is delivered two own frames after it was sent
(02_the_shelf_highway.md, The alignment buffer, The own-lane loopback). Windows are numbered against the own frame in
progress by the model's fields (log entry 6). -/
def Obligations.SinkReadPassesTheTagCheckOrSlips : Prop :=
  (∀ (lanes : Vector LaneRx 9) (k : Sink),
    (k.sel = none → sinkRead lanes k = none ∧ k.afterRead (sinkRead lanes k) = { k with delivered := .failed }) ∧
    (∀ sel, k.sel = some sel → delivered lanes[sel.lane] = none → sinkRead lanes k = none) ∧
    (∀ sel tiles, k.sel = some sel → delivered lanes[sel.lane] = some tiles →
      (tileTag (tileAt tiles sel.first) = k.tag ∧ tileMark (tileAt tiles sel.first) ≠ .vacant ∧
          tileFill (tileAt tiles sel.first) ≤ 2500 * k.cls →
        ∃ q blocks, sinkRead lanes k = some (q, blocks) ∧ q.mark = tileMark (tileAt tiles sel.first) ∧
          blocks.length = tileFill (tileAt tiles sel.first) ∧
          k.afterRead (sinkRead lanes k) = { k with delivered := q }) ∧
      (¬ (tileTag (tileAt tiles sel.first) = k.tag ∧ tileMark (tileAt tiles sel.first) ≠ .vacant ∧
          tileFill (tileAt tiles sel.first) ≤ 2500 * k.cls) → sinkRead lanes k = none)) ∧
    (k.sel ≠ none → sinkRead lanes k = none →
      k.afterRead (sinkRead lanes k) = { k with delivered := .failed, slips := min 255 (k.slips + 1) })) ∧
  (∀ (spans : List (Fin 96)) (f : Nat) (s t : State) (k : Sink), PlainBoundary f s → OwnerLaw s → k ∈ s.store.sinks →
    exec (.ownFrameStart [] spans) s = .next t →
    (findSink t.store k.tag).map (fun e => (e.delivered, e.slips)) = some (match sinkRead t.lanes k with
      | some (q, _) => (q, k.slips)
      | none => (.failed, if k.sel = none then k.slips else min 255 (k.slips + 1))) ∧
    (∀ (n : Fin 96) (a : Adapter), k.adapter = some n → s.store.pool[n] = some a →
      t.store.pool[n] = some (match sinkRead t.lanes k with
        | some (_, blocks) => a.arrive blocks
        | none => a))) ∧
  (∀ x : LaneRx, (x.state ≠ .aligned ∨ x.openWindow < -2 → delivered x = none) ∧
    (∀ i : Nat, x.state = .aligned → x.openWindow - (i : Int) = -2 → delivered x = (x.windows[i]?).join)) ∧
  (∀ (l : Fin 9) (s u : State), s.station.state ≠ .cold → l ≠ s.station.number → s.lanes[l].state = .aligned →
    s.lanes[l].openWindow ≤ 0 → exec (.markerWindowCheck l) s = .next u → u.lanes[l].state = .aligned →
    delivered u.lanes[l] = delivered s.lanes[l] ∧ u.lanes[l].windows[0]? = some none) ∧
  (∀ (l : Fin 9) (words : List Word) (tiles : List Tile) (s u : State), s.station.state ≠ .cold → l ≠ s.station.number →
    s.lanes[l].state = .aligned → exec (.laneHeaderReceived l words tiles) s = .next u → u.lanes[l].state = .aligned →
    delivered u.lanes[l] = if s.lanes[l].openWindow - (s.lanes[l].slot : Int) = -2 then some tiles else delivered s.lanes[l]) ∧
  (∀ (spans : List (Fin 96)) (f : Nat) (s t : State) (me : Fin 9), PlainBoundary f s → me = s.station.number →
    exec (.ownFrameStart [] spans) s = .next t →
    (∀ l : Fin 9, l ≠ me → delivered t.lanes[l] = delivered { s.lanes[l] with openWindow := t.lanes[l].openWindow } ∧
      (s.lanes[l].state = .aligned → t.lanes[l].openWindow = s.lanes[l].openWindow - 1)) ∧
    (s.lanes[me].state = .aligned → s.lanes[me].openWindow = 0 →
      t.lanes[me].openWindow = 0 ∧ t.lanes[me].windows[0]? = some (t.pins.laneOut.map (·.tiles)) ∧
      t.lanes[me].windows[1]? = s.lanes[me].windows[0]? ∧ delivered t.lanes[me] = (s.lanes[me].windows[1]?).join))

/-! ### Rate adapters -/

/-- Every step keeps the order tables, the adapter records and the binding maps in agreement: each visible order that needs
an adapter holds one record of its own tag, class, Rnom and k, each allocated record is held by an order, and each binding
position names exactly the order bound there; and the sink tags unique and in range with defined classes
(01_circuits_and_orders.md, Tags, classes and bindings; 06_rate_adaptation.md, The pool). -/
def Obligations.EveryStepKeepsTheOwnerLaw : Prop :=
  (∀ s t : State, OwnerLaw s → step s = .next t → OwnerLaw t) ∧
    (∀ s t : State, SinkTable s → step s = .next t → SinkTable t)

/-- An arrival (R103): M counts every block and saturates, the store takes the first blocks that fit behind those it holds,
and a discarded block sets OVERFLOW. A burst at a bound client port is one arrival at its adapter, and nothing else moves;
on a free port nothing is taken (06_rate_adaptation.md, Arrivals). -/
def Obligations.ClientBurstArrives : Prop :=
  (∀ (a : Adapter) (blocks : List Block), a.arrive blocks = { a with
      arrived := min 4294967295 (a.arrived + blocks.length)
      store := a.store ++ blocks.take (4096 * a.cls - a.store.length)
      dets := { a.dets with
        overflow := a.dets.overflow || decide (4096 * a.cls - a.store.length < blocks.length) } }) ∧
    (∀ (p : Fin 32) (blocks : List Block) (s : State) (tag : Nat) (r : Source) (n : Fin 96) (a : Adapter),
      s.station.state ≠ .cold → s.store.clientIn[p] = some tag → visibleSource s.store tag = some r →
      r.adapter = some n → s.store.pool[n] = some a →
      exec (.clientIngressBurst p blocks) s = .next { s with
        store := { s.store with pool := s.store.pool.set n (some (a.arrive blocks)) }
        report := attended s.station.state s.report }) ∧
    (∀ (p : Fin 32) (blocks : List Block) (s : State), s.store.clientIn[p] = none →
      exec (.clientIngressBurst p blocks) s = .next s)

/-- The steps of a departure: the phase (R106), the correction by the residue (R107), the limits of cap and depth with DRY,
PRIMING with its end, and the span frame count, which at S ends the span and begins the next one (06_rate_adaptation.md,
Departures, Span end); and the fourth law of the device. That the sum and the detections of the ended span are kept for its
span end is the model's field (log entry 3). -/
def Obligations.DepartureFollowsTheEstimate : Prop :=
  ∀ (a : Adapter) (f0 f1 cap : Nat) (q : Int) (step : Adapter → Adapter), f0 = (a.phase + a.rate) / 256 →
    q = (a.store.length : Int) - f0 → cap = 2500 * a.cls →
    step = (fun b => if b.spanCount + 1 = 2 ^ b.k then { b with
        spanCount := 0
        arrived := 0
        dets := { rate := false, overflow := false, dry := false, silent := false }
        ended := some { arrived := b.arrived, dets := b.dets } }
      else { b with spanCount := b.spanCount + 1 }) →
    f1 = (if q > 1280 * (a.cls : Int) then f0 + 1 else if q < 768 * (a.cls : Int) then f0 - 1 else f0) →
    (a.running = false → q < 768 * (a.cls : Int) → a.depart = {
      adapter := step { a with phase := a.phase + a.rate - 256 * f0 }
      blocks := []
      topUp := min f0 cap }) ∧
    (a.running = true ∨ 768 * (a.cls : Int) ≤ q → a.depart = {
      adapter := step { a with
        phase := a.phase + a.rate - 256 * f0
        running := decide (min f1 cap ≤ a.store.length)
        store := a.store.drop (min f1 (min cap a.store.length))
        dets := { a.dets with dry := a.dets.dry || decide (a.store.length < min f1 cap) } }
      blocks := a.store.take (min f1 (min cap a.store.length))
      topUp := min f1 cap - a.store.length }) ∧
    a.depart.blocks.length ≤ cap ∧ a.depart.blocks.length ≤ a.store.length

/-- A span end: the measured rate and the detections, the slew (R113), and what the Health Monitor makes of the set: the fault
count of a client sink; the fault count and the latch of a source, which is evaluated when it latches under WITHDRAW. After
the departure that ends a span and its span end, M, span frame count and detections are those of a new span, with D, P and
the adapter state as the departure left them; a record of which no span has ended takes no span end (06_rate_adaptation.md,
Span end; 07_tributary_health.md, Fault count and latch, Sink health). That a span end is a row of its own over a field that
keeps the ended span, that M, span frame count and detections are set back at the departure before it, and that it changes
nothing without an ended span, are the model's choices (log entries 2 and 3). -/
def Obligations.SpanEndMeasuresAndSlews : Prop :=
  (∀ (a : Adapter) (e : EndedSpan) (rm band target d : Nat), rm = e.arrived * 2 ^ (8 - a.k) → band = max (a.rnom / 4096) 64 →
      target = min (max rm (a.rnom - band)) (min (a.rnom + band) (640000 * a.cls)) →
      d = (if a.rate ≤ target then target - a.rate else a.rate - target) →
      a.outcome e = {
        rate := e.dets.rate || decide (rm < a.rnom - band ∨ a.rnom + band < rm)
        overflow := e.dets.overflow
        dry := e.dets.dry
        silent := e.dets.silent || decide (e.arrived = 0) } ∧
      a.endSpan e = { a with
        rate := if (a.outcome e).silent = true then a.rate
          else if a.rate ≤ target then a.rate + (if 16 < d then min d 64 else min d 1)
          else a.rate - (if 16 < d then min d 64 else min d 1)
        ended := none
        last := some (rm, a.outcome e) }) ∧
    (∀ a b : Adapter, a.spanCount + 1 = 2 ^ a.k → b = a.depart.adapter → ∃ e : EndedSpan, b.ended = some e ∧
      e.arrived = a.arrived ∧ (e.dets = a.dets ∨ e.dets = { a.dets with dry := true }) ∧ (b.endSpan e).spanCount = 0 ∧
      (b.endSpan e).arrived = 0 ∧ (b.endSpan e).dets = { rate := false, overflow := false, dry := false, silent := false } ∧
      (b.endSpan e).store = b.store ∧ (b.endSpan e).phase = b.phase ∧ (b.endSpan e).running = b.running) ∧
    (∀ (n : Fin 96) (s : State), (∀ a, s.store.pool[n] = some a → a.ended = none) →
      exec (.spanEnd n) s = .next (if s.station.state = .cold then s else finish s s)) ∧
    (∀ (n : Fin 96) (s : State) (a : Adapter) (e : EndedSpan) (faulty : Bool), s.station.state ≠ .cold →
      s.store.pool[n] = some a → a.ended = some e →
      (faulty = true ↔ (a.outcome e).rate = true ∨ (a.outcome e).overflow = true ∨ (a.outcome e).dry = true ∨
        (a.outcome e).silent = true) →
      (a.kind = .clientSink → exec (.spanEnd n) s = .next (finish s { s with store := { s.store with
          pool := s.store.pool.set n (some (a.endSpan e))
          sinks := s.store.sinks.map fun k =>
            if k.tag = a.tag then { k with faultCount := if faulty then min 15 (k.faultCount + 1) else 0 } else k } })) ∧
      (∀ (r : Source) (count : Nat) (t : State), a.kind ≠ .clientSink → TileLaw s → visibleSource s.store a.tag = some r →
        count = (if faulty then min 15 (r.faultCount + 1) else 0) →
        t = { s with store := { s.store with
          pool := s.store.pool.set n (some (a.endSpan e))
          sources := s.store.sources.map fun q => if q.tag = a.tag then
            { r with faultCount := count, latch := r.latch || decide (r.threshold ≤ count) } else q } } →
        exec (.spanEnd n) s = .next (finish s
          (if r.latch = false ∧ r.threshold ≤ count ∧ r.action = .withdraw then evalSource a.tag t else t))))

/-- The departure of a client sink, at tile-time 84 or 83: its port sends the released blocks and then the replacement blocks
of the departure, its span end follows, and no source, no lane and no other port moves (06_rate_adaptation.md, Departures and
Where the blocks go). That a span end may be left to a SPAN_END of its own, and is taken first at the next departure, is the
model's choice (log entry 3). -/
def Obligations.ClientSinkDepartsInItsFrame : Prop :=
  ∀ (leave : List (Fin 96)) (s : State), s.station.state ≠ .cold → OwnerLaw s →
    ∃ t, exec (.clientSinkDeparture leave) s = .next t ∧
      t = { s with
        tx := { s.tx with tileTime := if s.tx.frameLen = 84 then 83 else 84 }
        store := { s.store with pool := t.store.pool, sinks := t.store.sinks }
        pins := { s.pins with clientOut := t.pins.clientOut }
        report := { s.report with sinks := t.report.sinks, attn := t.report.attn } } ∧
      (∀ p : Fin 32, s.store.clientEgr[p] = none → t.pins.clientOut[p] = s.pins.clientOut[p]) ∧
      (∀ (n : Fin 96) (a : Adapter), s.store.pool[n] = some a → a.kind ≠ .clientSink → t.store.pool[n] = some a) ∧
      (∀ (k : Sink) (p : Fin 32) (n : Fin 96) (a b c : Adapter) (faults : Detections → Nat → Nat) (count : Nat),
        k ∈ s.store.sinks → k.binding = .client p → k.adapter = some n → s.store.pool[n] = some a →
        faults = (fun d i => if d.any = true then min 15 (i + 1) else 0) →
        b = (match a.ended with | none => a | some e => a.endSpan e) →
        count = (match a.ended with | none => k.faultCount | some e => faults (a.outcome e) k.faultCount) →
        c = b.depart.adapter →
        t.pins.clientOut[p] = .departure (b.depart.blocks ++ List.replicate b.depart.topUp .replacement) ∧
        (n ∈ leave ∨ c.ended = none →
          t.store.pool[n] = some c ∧ findSink t.store k.tag = some { k with faultCount := count }) ∧
        (∀ e, n ∉ leave → c.ended = some e → t.store.pool[n] = some (c.endSpan e) ∧
          findSink t.store k.tag = some { k with faultCount := faults (c.outcome e) count }))

/-- The departure of a source at the own frame boundary: the mark and the content that the latch decides are handed over, and
they fill the tile group of the source when it is OFFERED as the frame is sent; in another state the blocks go nowhere. At
the boundary of an own frame each OFFERED source's departure fills its tiles so, and every tile of no OFFERED source is
vacant; it is stated of the boundaries of OwnFrameCarriesItsHeader, and of adapters with no span end left over
(06_rate_adaptation.md, Where the blocks go; 07_tributary_health.md, Source quality; 02_the_shelf_highway.md, The lane
frame). That a span end may be left, and is taken first at the next departure, is the model's choice (log entry 3). -/
def Obligations.SourceDepartureFillsItsGroup : Prop :=
  (∀ (leave : List (Fin 96)) (s : State) (hs : List HandOver) (tag : Nat) (r : Source) (n : Fin 96) (a : Adapter) (t : State)
      (content : List Block),
    visibleSource s.store tag = some r → r.adapter = some n → s.store.pool[n] = some a →
    t = noteQuality { s with store := { s.store with pool := s.store.pool.set n (some a.depart.adapter) } } tag →
    content = (if r.latch = true ∧ r.action = .mark then []
      else if r.latch = true ∧ r.action = .fill then List.replicate a.depart.blocks.length Block.replacement
      else a.depart.blocks) →
    (a.ended = none → departSource leave (s, hs) tag = (if n ∈ leave then t else spanEndOf n t,
      hs ++ [{ tag := tag, mark := (sourceQuality s.carriers.ports r).mark, blocks := content }])) ∧
    (a.ended ≠ none → departSource leave (s, hs) tag = departSource leave (spanEndOf n s, hs) tag)) ∧
  (∀ (st : OrderStore) (h : HandOver) (r : Source), visibleSource st h.tag = some r →
    (r.state ≠ .offered → h.group st = none) ∧
    (∀ first, r.state = .offered → r.firstTile = some first → h.group st = some {
      first := first, cls := r.cls, tag := h.tag, mark := h.mark, fill := h.blocks.length, blocks := h.blocks })) ∧
  (∀ (spans : List (Fin 96)) (f : Nat) (s t : State) (lf : LaneFrame), PlainBoundary f s →
    exec (.ownFrameStart [] spans) s = .next t → t.pins.laneOut = some lf →
    (∀ (r : Source) (first : Nat) (n : Fin 96) (a : Adapter), TileLaw s → OwnerLaw s → visibleSource s.store r.tag = some r →
      tagOk r.tag = true → r.state = .offered → r.firstTile = some first → r.adapter = some n → s.store.pool[n] = some a →
      a.ended = none → first + r.cls ≤ lf.tiles.length →
      readGroup lf.tiles first r.cls r.tag = some (sourceQuality s.carriers.ports r,
        if r.latch = true ∧ r.action = .mark then []
        else if r.latch = true ∧ r.action = .fill then List.replicate a.depart.blocks.length Block.replacement
        else a.depart.blocks)) ∧
    (∀ i : Nat, i < lf.tiles.length → (∀ r ∈ s.store.sources, r.state = .offered → ∀ first, r.firstTile = some first →
      i < first ∨ first + r.cls ≤ i) → lf.tiles[i]? = some vacantTile))

/-- A tile group is read as it was sent: in a frame of groups that do not meet, the tag check at a group's first tile gives
its mark and its blocks, the first tile carries its header, its further tiles and every tile of no group carry no header
(02_the_shelf_highway.md, The lane frame; 12_frame_and_message_formats.md, Tile-group header). -/
def Obligations.TileGroupReadsAsSent : Prop :=
  ∀ (groups : List Group) (g : Group) (q : Quality) (len : Nat), g ∈ groups →
    (∀ h ∈ groups, h ≠ g → h.first + h.cls ≤ g.first ∨ g.first + g.cls ≤ h.first) → classOk g.cls = true →
    tagOk g.tag = true → g.mark = q.mark → g.fill = g.blocks.length → g.blocks.length ≤ 2500 * g.cls →
    g.first + g.cls ≤ len →
    readGroup ((List.range len).map (tileOf groups)) g.first g.cls g.tag = some (q, g.blocks) ∧
      (tileTag (tileOf groups g.first) = g.tag ∧ tileMark (tileOf groups g.first) = g.mark ∧
        tileFill (tileOf groups g.first) = g.blocks.length) ∧
      (∀ t, g.first < t → t < g.first + g.cls →
        (tileOf groups t).w0 = 0 ∧ (tileOf groups t).w1 = 0 ∧ (tileOf groups t).w2 = 0) ∧
      (∀ t, (∀ h ∈ groups, t < h.first ∨ h.first + h.cls ≤ t) → tileOf groups t = vacantTile)

/-- The quality of a source order, by the first row of the table that applies (R125). -/
def Obligations.SourceQualityFollowsTheTable : Prop :=
  ∀ (ports : Vector CarrierPort 4) (r : Source),
    (∀ p, r.binding = .client p → sourceQuality ports r =
      (if r.latch = true then .failed else if 1 ≤ r.faultCount then .degraded else .good)) ∧
    (∀ p first, r.binding = .carrier p first → sourceQuality ports r =
      (if r.latch = true ∨ ports[p].framer ≠ .sync ∨ r.ingress = .absent ∨ r.ingress = .refused ∨
          r.ingress = .passed .failed then .failed
        else if 1 ≤ r.faultCount ∨ ports[p].degraded = true ∨ r.ingress = .passed .degraded then .degraded
        else .good))

/-! ### Own frames and own rounds -/

/-- An own frame begins: its place, its length, its header and manifest fragment, the number of its tiles, the frames of the
carrier ports by their states with the carrier sinks' groups, as far as a shortened frame reaches, the client ports, and the
own frame heard back on the own lane; captures, REF position and expected instants move with the boundary. It is stated of a
frame within a round, and of frame 0 after a round start whose works but the WTR step have been taken; works that are left,
and a round start that comes with its boundary, are stated in RoundStartPostsItsWorks. Station, peer views, own level, port
states, tile map, binding maps and management port stay (02_the_shelf_highway.md, The lane frame; 08_carrier_ports.md,
Building the outgoing frame; 09_shelf_timing.md, Steering the phase). The model's choices and readings in it are: that the
works of a round start wait in a list (log entry 7), that a step decision still to be taken is held (12), when the stored
captures and the REF position move (19), how many carrier tiles a shortened frame sends (5), the numbers of the windows (6),
the own lane's capture of 0 (15), and what a removed sink's port sends (25). What fills the tiles is stated in
SourceDepartureFillsItsGroup, the sinks' reads in SinkReadPassesTheTagCheckOrSlips, and what the own lane's notices (R62) do
to the orders in EvaluationQueuesAndDequeues and EvaluationSelectsSwitchesOrStays. -/
def Obligations.OwnFrameCarriesItsHeader : Prop :=
  ∀ (spans : List (Fin 96)) (s : State) (f len : Nat) (snap : List Entry) (moved : Int → Int) (me : Fin 9) (h : Heard),
    PlainBoundary f s → me = s.station.number →
    snap = (if f = 0 ∧ s.station.state ≠ .joined then [] else s.tx.snapshot) →
    moved = (fun p => (p - ((s.tx.frameLen : Int) - 168) + 84) % 168 - 84) →
    len = frameLengthFor f s.station.state s.timing.phaseDue (match s.timing.selected with
      | .ref => s.timing.refPos.map moved
      | .lane l => if l = me then s.lanes[l].capture else s.lanes[l].capture.map moved
      | .free => none) →
    h = { station := me.val, epoch := s.station.epoch, joined := decide (s.station.state = .joined), round := s.tx.roundNo
          frag := f, level := s.timing.level, source := s.timing.selected.code
          light := (announcement s.carriers.ports).code, count := snap.length } →
    ∃ (t : State) (lf : LaneFrame) (slots : List Slot), exec (.ownFrameStart [] spans) s = .next t ∧
      t.tx = { s.tx with frame := f, lastLen := s.tx.frameLen, frameLen := len, tileTime := 0, snapshot := snap, boundary := false, due := [] } ∧
      t.pins.laneOut = some lf ∧ lf.words = headerWords h slots ∧
      slots.length = 8 ∧ (∀ i, i < 8 → slots[i]? = some ((snap[8 * f + i]?).elim Slot.empty Entry.slot)) ∧
      lf.tiles.length = min 160 (len - 8) ∧
      (∀ p : Fin 4,
        (s.carriers.ports[p].state = .lighting → ∃ cf, t.pins.carrierOut[p] = some cf ∧ carrierCheckGood cf = true ∧
          cf.header = carrierHeader me.val p.val ∧ cf.tiles = List.replicate 40 vacantTile) ∧
        (s.carriers.ports[p].state = .lit → ∃ (cf : CarrierFrame) (sent : Nat), t.pins.carrierOut[p] = some cf ∧
          carrierCheckGood cf = true ∧ cf.header = carrierHeader me.val p.val ∧ cf.tiles.length = 40 ∧ sent ≤ 40 ∧
          (168 ≤ len → sent = 40) ∧
          (∀ (k : Sink) (first : Nat), OwnerLaw s → SinkTable s → k ∈ s.store.sinks → k.binding = .carrier p first →
            first + k.cls ≤ 40 →
            (first + k.cls ≤ sent →
              readGroup cf.tiles first k.cls k.tag = some ((sinkRead t.lanes k).getD (.failed, []))) ∧
            (first < sent → tileTag (tileAt cf.tiles first) = k.tag ∧
              tileMark (tileAt cf.tiles first) = ((sinkRead t.lanes k).getD (.failed, [])).1.mark ∧
              tileFill (tileAt cf.tiles first) = ((sinkRead t.lanes k).getD (.failed, [])).2.length)) ∧
          (∀ i, i < 40 → (sent ≤ i ∨
              ∀ k ∈ s.store.sinks, ∀ first, k.binding = .carrier p first → i < first ∨ first + k.cls ≤ i) →
            cf.tiles[i]? = some vacantTile)) ∧
        (s.carriers.ports[p].state ≠ .lighting → s.carriers.ports[p].state ≠ .lit → t.pins.carrierOut[p] = none)) ∧
      (∀ p : Fin 32, t.pins.clientOut[p] = match s.store.clientEgr[p], s.pins.clientOut[p] with
        | some _, .departure blocks => .departure blocks
        | some _, .off => .off
        | _, _ => .free) ∧
      (∀ l : Fin 9, l ≠ me → t.view[l] = s.view[l] ∧ t.lanes[l] = { s.lanes[l] with
        capture := s.lanes[l].capture.map moved
        openWindow := if s.lanes[l].state = .aligning ∨ s.lanes[l].state = .aligned then s.lanes[l].openWindow - 1
          else s.lanes[l].openWindow }) ∧
      t.lanes[me] = { s.lanes[me] with
        capture := some 0, heard := some h, windows := (some lf.tiles :: s.lanes[me].windows).take 4 } ∧
      t.view[me] = (s.view[me].header h slots (match s.lanes[me].heard with
        | some old => decide (old.epoch ≠ s.station.epoch)
        | none => false)).1 ∧
      t.timing = { s.timing with
        refExpected := s.timing.refExpected.map (· - (s.tx.frameLen : Int)), refPos := s.timing.refPos.map moved
        phaseDue := false } ∧
      (∀ p : Fin 4, t.carriers.ports[p] = { s.carriers.ports[p] with
        expected := s.carriers.ports[p].expected.map (· - (s.tx.frameLen : Int)) }) ∧
      t = { s with
        tx := t.tx
        store := { s.store with sources := t.store.sources, sinks := t.store.sinks, queue := t.store.queue
                                queueCounter := t.store.queueCounter, pool := t.store.pool }
        lanes := t.lanes
        view := t.view
        timing := t.timing
        carriers := { s.carriers with ports := t.carriers.ports }
        report := t.report
        pins := { s.pins with laneOut := t.pins.laneOut, carrierOut := t.pins.carrierOut, clientOut := t.pins.clientOut } }

/-- The length of an own frame: in LISTEN a step by the whole phase error at the first frame after a change of selection and
at frame 0, in JOINED a slew by one tile-time at frame 15, and 168 tile-times in every other frame and without an error
(09_shelf_timing.md, Steering the phase). That a step decision still to be taken is held as phaseDue is the model's field (log
entry 12). -/
def Obligations.OwnFrameStepsInListenAndSlewsInJoined : Prop :=
  ∀ (f : Nat) (s : State) (e : Option Int),
    e = (match s.timing.selected with | .ref => s.timing.refPos | .lane l => s.lanes[l].capture | .free => none) →
    (s.station.state = .listen → ∀ d : Int, e = some d → s.timing.phaseDue = true ∨ f = 0 →
      frameLength f s = (168 + d).toNat) ∧
    (s.station.state = .joined → ∀ d : Int, e = some d → f = 15 →
      frameLength f s = if 0 < d then 169 else if d < 0 then 167 else 168) ∧
    (e = none ∨ (s.station.state = .listen ∧ s.timing.phaseDue = false ∧ f ≠ 0) ∨
      (s.station.state = .joined ∧ f ≠ 15) → frameLength f s = 168)

/-- The own round start: at the end of frame 15 the round number moves on and every work of the round start falls due, those
named being taken at once; the DEGRADED judgement of every carrier port; and at another place of the round nothing moves. A
boundary that comes alone at the end of frame 15 takes the round start with it, in the order timing, join, pass, snapshot,
lighting, DEGRADED; and the works that a boundary leaves are due after it, but the pass and the snapshot, which its frame
needs, while the others are taken after it. The pass of a round start comes before the departures of frame 0, or after them
and their span ends (R76), and the items are compared after each of the two (02_the_shelf_highway.md, The lane frame;
08_carrier_ports.md, The frame check and the DEGRADED condition). That the round start is a row of its own whose works wait
in a list, their order at a boundary that comes alone, and that the row elsewhere changes nothing, are the model's choices
(log entries 2 and 7). -/
def Obligations.RoundStartPostsItsWorks : Prop :=
  (∀ s : State, s.station.state ≠ .cold → s.tx.frame = 15 → s.tx.boundary = false → s.tx.due = [] →
      exec (.ownRoundStart []) s = .next (finish s { s with tx := { s.tx with
        roundNo := (s.tx.roundNo + 1) % 65536
        boundary := true
        due := [.pass, .snapshot, .wtr, .timing, .join, .lighting, .degraded] } }) ∧
      exec (.ownRoundStart [.degraded]) s = .next (finish s { s with
        tx := { s.tx with
          roundNo := (s.tx.roundNo + 1) % 65536
          boundary := true
          due := [.pass, .snapshot, .wtr, .timing, .join, .lighting] }
        carriers := { s.carriers with ports := s.carriers.ports.map fun p =>
          { p with degraded := decide (2 ≤ p.roundErrors), roundErrors := 0 } } })) ∧
    (∀ (order : List RoundWork) (s : State), s.station.state = .cold ∨ s.tx.frame ≠ 15 ∨ s.tx.boundary = true →
      exec (.ownRoundStart order) s = .next (finish s s)) ∧
    (∀ (spans : List (Fin 96)) (s : State), s.station.state ≠ .cold → s.tx.frame = 15 → s.tx.boundary = false →
      s.tx.due = [] → ∃ u v t, exec (.ownRoundStart [.timing, .join, .pass, .snapshot, .lighting, .degraded]) s = .next u ∧
        exec (.ownFrameStart [] spans) u = .next v ∧ exec (.ownFrameStart [] spans) s = .next t ∧
        t = { v with report := t.report }) ∧
    (∀ (leave : List RoundWork) (spans : List (Fin 96)) (s : State), s.station.state ≠ .cold → s.tx.boundary = true →
      ∃ t, exec (.ownFrameStart leave spans) s = .next t ∧ t.tx.boundary = false ∧
        t.tx.due = s.tx.due.filter fun w => w ∈ leave ∧ w ≠ .pass ∧ w ≠ .snapshot) ∧
    (∀ (leave : List RoundWork) (spans : List (Fin 96)) (s : State), s.station.state ≠ .cold → s.tx.boundary = true →
      RoundWork.pass ∉ leave → ∃ u t, exec (.ownFrameStart [.wtr, .timing, .join, .lighting, .claim, .degraded] spans) s = .next u ∧
        exec (.ownFrameStart leave spans) s = .next t ∧
        t = { (s.tx.due.filter fun w => w ∉ leave ∧ w ≠ .pass ∧ w ≠ .snapshot).foldl takeWork u with report := t.report }) ∧
    (∀ (spans : List (Fin 96)) (s p e q : State) (d : State × List HandOver), s.station.state ≠ .cold →
      s.tx.boundary = true → s.tx.due = [.pass, .snapshot] →
      (p = event placementPass { s with tx := { s.tx with due := [.snapshot] } } → d = sourceDepartures spans (beginFrame p) →
        e = noted (beginFrame p) d.1 → q = takeSnapshot { e with tx := { e.tx with due := [] } } →
        exec (.ownFrameStart [] spans) s = .next (finish s (frameBody (d.2.filterMap (·.group q.store)) q))) ∧
      (d = sourceDepartures spans (beginFrame s) → e = noted (beginFrame s) d.1 →
        p = event placementPass { e with tx := { e.tx with due := [.snapshot] } } → q = takeSnapshot { p with tx := { p.tx with due := [] } } → exec (.ownFrameStart [.pass] spans) s =
          .next (finish s (frameBody (d.2.filterMap (·.group q.store)) q))))

/-- The three lighting steps of a round start in JOINED, after the set step: the stagger count (R149), the end of a claim
round (R150), and the claim of the lowest WAITING port (R151); in LISTEN only the sets move. STAGGER_EXPIRY and
CLAIM_ROUND_END are one port's share of the steps while they are due: the port becomes LIT; the claiming port becomes
LIGHTING, or WAITING when a lower station was heard busy in the round that ends. Each takes the set step before it and
leaves the claim step alone due (08_carrier_ports.md, The round-start steps). That a row which comes without its event
changes nothing, and that the steps wait in a list of works, are the model's choices (log entries 2 and 7). -/
def Obligations.LightingStepsMoveThePorts : Prop :=
  (∀ s : State, s.station.state ≠ .cold → s.tx.frame = 15 → s.tx.boundary = false → s.tx.due = [] →
      ∃ t, exec (.ownRoundStart [.lighting]) s = .next t ∧
        t = { s with
          tx := { s.tx with roundNo := (s.tx.roundNo + 1) % 65536, boundary := true
                            due := [.pass, .snapshot, .wtr, .timing, .join, .degraded] }
          carriers := { ports := t.carriers.ports, current := Vector.replicate 9 false, previous := s.carriers.current }
          report := t.report } ∧
        (s.station.state = .listen → t.carriers.ports = s.carriers.ports) ∧
        (s.station.state = .joined → ∀ p : Fin 4,
          (s.carriers.ports[p].state = .dark ∨ s.carriers.ports[p].state = .lit →
            t.carriers.ports[p] = s.carriers.ports[p]) ∧
          (∀ n, s.carriers.ports[p].state = .lighting → s.carriers.ports[p].stagger = some n → t.carriers.ports[p] =
            if n ≤ 1 then { s.carriers.ports[p] with state := .lit, stagger := none }
            else { s.carriers.ports[p] with stagger := some (n - 1) }) ∧
          (s.carriers.ports[p].state = .claiming → t.carriers.ports[p] =
            if ∃ i : Fin 9, i < s.station.number ∧ s.carriers.current[i] = true then
              { s.carriers.ports[p] with state := .waiting }
            else { s.carriers.ports[p] with state := .lighting, stagger := some s.station.staggerSetting }) ∧
          (s.carriers.ports[p].state = .waiting → ∃ claims : Bool,
            (claims = true ↔ (∀ i : Fin 9, s.carriers.current[i] = false) ∧
              (∀ q : Fin 4, s.carriers.ports[q].state ≠ .claiming) ∧
              (∀ q : Fin 4, s.carriers.ports[q].state = .lighting → ∃ n, s.carriers.ports[q].stagger = some n ∧ n ≤ 1) ∧
              (∀ q : Fin 4, q < p → s.carriers.ports[q].state ≠ .waiting)) ∧
            t.carriers.ports[p] = if claims then { s.carriers.ports[p] with state := .claiming }
              else s.carriers.ports[p]))) ∧
    (∀ (p : Fin 4) (s : State), s.station.state = .joined → RoundWork.lighting ∈ s.tx.due → LightingLaw s →
      s.carriers.ports[p].state = .lighting → s.carriers.ports[p].stagger = some 1 →
      exec (.staggerExpiry p) s = .next (finish s { s with
        tx := { s.tx with due := s.tx.due.map fun w => if w = .lighting then .claim else w }
        carriers := {
          ports := s.carriers.ports.set p { s.carriers.ports[p] with state := .lit, stagger := none }
          current := Vector.replicate 9 false
          previous := s.carriers.current } })) ∧
    (∀ (p : Fin 4) (s : State), s.station.state = .joined → RoundWork.lighting ∈ s.tx.due → LightingLaw s →
      s.carriers.ports[p].state = .claiming →
      exec (.claimRoundEnd p) s = .next (finish s { s with
        tx := { s.tx with due := s.tx.due.map fun w => if w = .lighting then .claim else w }
        carriers := {
          ports := s.carriers.ports.set p
            (if ∃ i : Fin 9, i < s.station.number ∧ s.carriers.current[i] = true then
              { s.carriers.ports[p] with state := .waiting }
            else { s.carriers.ports[p] with state := .lighting, stagger := some s.station.staggerSetting })
          current := Vector.replicate 9 false
          previous := s.carriers.current } })) ∧
    (∀ (p : Fin 4) (s : State), s.station.state ≠ .joined ∨ RoundWork.lighting ∉ s.tx.due →
      exec (.staggerExpiry p) s = .next s ∧ exec (.claimRoundEnd p) s = .next s)

/-! ### Placement -/

/-- The placement queue (R67): every step keeps its order, higher priority first and within one priority by entry number; a
source that enters takes the counter's value; the append that takes the number 4 294 967 295 renumbers the entries in their
order with the new one last, whatever its place in the queue, which is the model's reading (log entry 20). -/
def Obligations.QueueKeepsPriorityOrder : Prop :=
  (∀ s t : State, TileLaw s → QueueLaw s → step s = .next t → QueueLaw t) ∧
    (∀ (s : State) (tag : Nat) (r : Source), TileLaw s → QueueLaw s → visibleSource s.store tag = some r →
      r.state = .dormant →
      (s.store.queueCounter ≠ 4294967295 → enqueue tag s = { s with store := { s.store with
        sources := s.store.sources.map fun e => if e.tag = tag then
          { r with state := .queued, entryNo := some s.store.queueCounter } else e
        queue := s.store.queue.filter (fun e => r.priority ≤ priorityOf s.store e) ++
          tag :: s.store.queue.filter (fun e => priorityOf s.store e < r.priority)
        queueCounter := s.store.queueCounter + 1 } }) ∧
      (s.store.queueCounter = 4294967295 →
        (enqueue tag s).store.queue = s.store.queue.filter (fun e => r.priority ≤ priorityOf s.store e) ++
          tag :: s.store.queue.filter (fun e => priorityOf s.store e < r.priority) ∧
        (enqueue tag s).store.queueCounter = s.store.queue.length + 1 ∧
        (∀ q ∈ (enqueue tag s).store.sources, q.tag = tag → q.entryNo = some s.store.queue.length) ∧
        (∀ (i x : Nat), s.store.queue[i]? = some x → ∀ q ∈ (enqueue tag s).store.sources, q.tag = x →
          q.entryNo = some i)))

/-- An evaluation of wanted status by the state of the source, with the class-mismatch flag re-judged (R65, R61); a source is
wanted while a WANT of its tag and class stands and it is not latched with WITHDRAW. A notice of a manifest's change evaluates
so exactly the visible sources whose tags stand in the old or the new manifest, and so does the own lane's notice at the
boundary of an own frame (R62), stated of the boundaries of OwnFrameCarriesItsHeader and of sources that the boundary cannot
latch with WITHDRAW, a WTR step still due being left (04_lane_placement.md, Wanted status; 03_manifests_and_the_peer_view.md,
What the Peer View tells its neighbours). That the works of a round start wait in a list is the model's choice (log entry
7). -/
def Obligations.EvaluationQueuesAndDequeues : Prop :=
  (∀ (s t : State) (tag : Nat) (r : Source) (wanted : Bool), TileLaw s → visibleSource s.store tag = some r →
    (wanted = true ↔ wantStands s.view r.tag r.cls = true ∧ ¬ (r.latch = true ∧ r.action = .withdraw)) →
    t = { s with store := { s.store with sources := s.store.sources.map fun e => if e.tag = tag then
      { r with mismatch := otherWantStands s.view r.tag r.cls } else e } } →
    (r.state = .dormant → evalSource tag s = if wanted then enqueue tag t else t) ∧
    (r.state = .queued → evalSource tag s = if wanted then t else { t with store := { t.store with
      sources := s.store.sources.map fun e => if e.tag = tag then
        { r with mismatch := otherWantStands s.view r.tag r.cls, state := .dormant, entryNo := none } else e
      queue := s.store.queue.filter (· ≠ tag) } }) ∧
    (r.state = .offered → evalSource tag s = if wanted then { t with store := { t.store with
      sources := s.store.sources.map fun e => if e.tag = tag then
        { r with mismatch := otherWantStands s.view r.tag r.cls, releaseCount := 0 } else e } } else t) ∧
    (r.state = .retiring → evalSource tag s = t)) ∧
  (∀ (old new : Option Manifest) (s t : State) (touched wanted : Source → Bool), TileLaw s → t = noticePlacement old new s →
    (∀ e, touched e = true ↔ e.removed = false ∧ (e.tag ∈ manifestTags old ∨ e.tag ∈ manifestTags new)) →
    (∀ e, wanted e = true ↔ wantStands s.view e.tag e.cls = true ∧ ¬ (e.latch = true ∧ e.action = .withdraw)) →
    TileLaw t ∧
    t = { s with store := { s.store with
      sources := t.store.sources, queue := t.store.queue, queueCounter := t.store.queueCounter } } ∧
    t.store.sources.map (fun e : Source => { e with entryNo := none }) = s.store.sources.map (fun e : Source =>
      if touched e = true then { e with
        entryNo := none
        mismatch := otherWantStands s.view e.tag e.cls
        state := if e.state = .dormant ∧ wanted e = true then .queued
          else if e.state = .queued ∧ wanted e = false then .dormant else e.state
        releaseCount := if e.state = .offered ∧ wanted e = true then 0 else e.releaseCount }
      else { e with entryNo := none })) ∧
  (∀ (spans : List (Fin 96)) (leave : List RoundWork) (f : Nat) (s t : State) (r q : Source) (wanted : Bool) (me : Fin 9),
    PlainBoundary f s → (leave = [.wtr] ∨ (f ≠ 0 ∧ leave = [])) → TileLaw s →
    visibleSource s.store r.tag = some r → (r.latch = true ∨ r.action ≠ .withdraw) → me = s.station.number →
    exec (.ownFrameStart leave spans) s = .next t →
    (wanted = true ↔ wantStands t.view r.tag r.cls = true ∧ ¬ (r.latch = true ∧ r.action = .withdraw)) →
    q = (if ownNotice s t = true ∧ (r.tag ∈ manifestTags s.view[me].manifest ∨ r.tag ∈ manifestTags t.view[me].manifest) then
      { r with
        mismatch := otherWantStands t.view r.tag r.cls
        state := if r.state = .dormant ∧ wanted = true then .queued
          else if r.state = .queued ∧ wanted = false then .dormant else r.state
        releaseCount := if r.state = .offered ∧ wanted = true then 0 else r.releaseCount }
    else r) →
    (visibleSource t.store r.tag).map (fun e => (e.state, e.mismatch, e.releaseCount)) =
      some (q.state, q.mismatch, q.releaseCount))

/-- The round-start pass (R68): first the freeing of the records that are RETIRING and omitted from the last snapshot, in
ascending order of first tile, by which a hidden record is deleted and a visible one becomes DORMANT and is evaluated (R69);
then the release counting of every source; then, in JOINED alone, the placement of the queued sources in queue order, each
of which takes the lowest free start that is a multiple of its class and becomes OFFERED (R71), or with no free start stays
and is passed over, and blocked from the third time on (R72). The snapshot holds the OFFERED sources and the sinks, marks
every RETIRING record and comes after the pass (04_lane_placement.md, The round-start pass, Allocation;
03_manifests_and_the_peer_view.md, Building the manifest). That OWN_ROUND_START names the works it takes is the model's
choice (log entry 7). -/
def Obligations.PassFreesAndPlaces : Prop :=
  (∀ (s : State) (tag : Nat) (r : Source), TileLaw s → visibleSource s.store tag = some r →
      (∀ first : Nat, first % r.cls = 0 → first + r.cls ≤ 160 →
        (∀ t, first ≤ t → t < first + r.cls → s.store.tileMap[t]? = some none) →
        (∀ lower, lower < first → lower % r.cls = 0 →
          ∃ t, lower ≤ t ∧ t < lower + r.cls ∧ s.store.tileMap[t]? ≠ some none) →
        placeOne s tag = { s with store := { s.store with
          sources := s.store.sources.map fun e => if e.tag = tag then
            { r with state := .offered, firstTile := some first, entryNo := none, releaseCount := 0, passedOver := 0
                     blocked := false } else e
          tileMap := setRange s.store.tileMap first r.cls (some tag)
          queue := s.store.queue.filter (· ≠ tag) } }) ∧
      ((∀ first, first % r.cls = 0 → first + r.cls ≤ 160 →
          ∃ t, first ≤ t ∧ t < first + r.cls ∧ s.store.tileMap[t]? ≠ some none) →
        placeOne s tag = { s with store := { s.store with
          sources := s.store.sources.map fun e => if e.tag = tag then
            { r with passedOver := min 3 (r.passedOver + 1), blocked := r.blocked || decide (2 ≤ r.passedOver) } else e } })) ∧
    (∀ (s : State) (r : Source) (first : Nat), TileLaw s → r ∈ s.store.sources → r.firstTile = some first →
      (r.removed = true → freeRecord s r = { s with store := { s.store with
        sources := s.store.sources.filter (·.tag ≠ r.tag)
        tileMap := setRange s.store.tileMap first r.cls none } }) ∧
      (r.removed = false → freeRecord s r = evalSource r.tag { s with store := { s.store with
        sources := s.store.sources.map fun e => if e.tag = r.tag then
          { r with state := .dormant, firstTile := none, omitted := false } else e
        tileMap := setRange s.store.tileMap first r.cls none } })) ∧
    (∀ (s : State) (freed : List Source), TileLaw s →
      freed.Perm (s.store.sources.filter fun r => r.state = .retiring ∧ r.omitted = true) →
      freed.Pairwise (fun a b => ∀ m n, a.firstTile = some m → b.firstTile = some n → m ≤ n) →
      ∃ u v : State, u = freed.foldl freeRecord s ∧
        v = { u with store := { u.store with sources := u.store.sources.map (countRelease u.view) } } ∧
        placementPass s = if s.station.state = .joined then v.store.queue.foldl placeOne v else v) ∧
    (∀ s : State, takeSnapshot s = { s with
        tx := { s.tx with snapshot := snapshotEntries s }
        store := { s.store with sources := s.store.sources.map (fun e : Source => if e.state = .retiring then
          { e with omitted := true } else e) } } ∧
      (∀ (tag cls first : Nat) (q : Quality) (st : Standing), Entry.offer tag cls first q st ∈ snapshotEntries s ↔
        ∃ r ∈ s.store.sources, r.state = .offered ∧ r.firstTile = some first ∧ r.tag = tag ∧ r.cls = cls ∧
          sourceQuality s.carriers.ports r = q ∧ r.standing = st) ∧
      (∀ tag cls : Nat, Entry.want tag cls ∈ snapshotEntries s ↔ ∃ k ∈ s.store.sinks, k.tag = tag ∧ k.cls = cls)) ∧
    (∀ s p : State, s.station.state ≠ .cold → s.tx.frame = 15 → s.tx.boundary = false → s.tx.due = [] →
      p = placementPass { s with tx := { s.tx with
        roundNo := (s.tx.roundNo + 1) % 65536
        boundary := true
        due := [.snapshot, .wtr, .timing, .join, .lighting, .degraded] } } →
      exec (.ownRoundStart [.pass]) s = .next (finish s p) ∧
      exec (.ownRoundStart [.snapshot]) s = .next (finish s (takeSnapshot { p with tx := { p.tx with
        due := [.wtr, .timing, .join, .lighting, .degraded] } })))

/-- Release counting (R70): a wanted OFFERED source counts from 0 again, another counts one, and at 4 it becomes RETIRING
with its tiles kept; and RELEASE_COUNT_EXPIRY of a source whose count reaches 4 is the pass of the round start, taken whole
while it is due (04_lane_placement.md, The round-start pass). That a row which comes without its event changes nothing, and
that the pass waits in a list of works, are the model's choices (log entries 2 and 7). -/
def Obligations.ReleaseCountingRetiresAtFour : Prop :=
  (∀ (view : Vector LaneView 9) (r : Source) (wanted : Bool),
      (wanted = true ↔ wantStands view r.tag r.cls = true ∧ ¬ (r.latch = true ∧ r.action = .withdraw)) →
      (r.state ≠ .offered → countRelease view r = r) ∧
      (r.state = .offered → wanted = true → countRelease view r = { r with releaseCount := 0 }) ∧
      (r.state = .offered → wanted = false → r.releaseCount ≠ 3 →
        countRelease view r = { r with releaseCount := r.releaseCount + 1 }) ∧
      (r.state = .offered → wanted = false → r.releaseCount = 3 →
        countRelease view r = { r with releaseCount := 4, state := .retiring })) ∧
    (∀ (tag : Nat) (s : State) (r : Source), s.station.state ≠ .cold → TileLaw s → visibleSource s.store tag = some r →
      RoundWork.pass ∈ s.tx.due → r.state = .offered → r.releaseCount = 3 →
      wantStands s.view r.tag r.cls = false ∨ (r.latch = true ∧ r.action = .withdraw) →
      ∃ t, exec (.releaseCountExpiry tag) s = .next t ∧
        visibleSource t.store tag = some { r with releaseCount := 4, state := .retiring } ∧
        t = finish s (placementPass { s with tx := { s.tx with due := s.tx.due.filter (· ≠ .pass) } }) ∧
        exec (.releaseCountExpiry tag) t = .next t) ∧
    (∀ (tag : Nat) (s : State), RoundWork.pass ∉ s.tx.due → exec (.releaseCountExpiry tag) s = .next s)

/-! ### Wait-to-restore, stagger, claims, joining -/

/-- The WTR step (R87) of one sink, and the revert at expiry (R88); WTR_EXPIRY of a sink that expires is the step, taken once
for every sink, after the reads of frame 0 while it is due, and an own frame that begins with the step due takes it for every
sink after its reads (05_selection_and_protection.md, Wait-to-restore). That a row which comes without its event changes
nothing, that the step waits in a list of works, and that at frame 0 it follows the notice of the own lane's header, are the
model's choices (log entries 2 and 7). -/
def Obligations.WaitToRestoreCountsAndReverts : Prop :=
  (∀ (k : Sink) (cs : List Selection) (hold : Bool),
      (k.sel = none ∨ hold = true → k.wtrStep cs hold = k) ∧
      (∀ o cur b, k.sel = some o → hold = false → cs.find? (·.lane = o.lane) = some cur → bestOf cs = some b →
        (1 ≤ k.w → b.standing = .primary → cur.standing = .standby → b.quality = cur.quality →
          (k.wtr + 1 ≠ k.w → k.wtrStep cs hold = { k with wtr := k.wtr + 1 }) ∧
          (k.wtr + 1 = k.w → k.wtrStep cs hold =
            { k with sel := some b, wtr := 0, switches := min 65535 (k.switches + 1) })) ∧
        (¬ (1 ≤ k.w ∧ b.standing = .primary ∧ cur.standing = .standby ∧ b.quality = cur.quality) →
          k.wtrStep cs hold = { k with wtr := 0 }))) ∧
    (∀ (tag : Nat) (s : State) (k : Sink) (o cur b : Selection), s.station.state ≠ .cold → SinkTable s →
      findSink s.store tag = some k → s.tx.boundary = false → RoundWork.wtr ∈ s.tx.due → s.pins.hold = false →
      k.sel = some o → (candidates s k.tag k.cls).find? (·.lane = o.lane) = some cur →
      bestOf (candidates s k.tag k.cls) = some b → 1 ≤ k.w → b.standing = .primary → cur.standing = .standby →
      b.quality = cur.quality → k.wtr + 1 = k.w →
      ∃ t, exec (.wtrExpiry tag) s = .next t ∧
        findSink t.store tag = some { k with sel := some b, wtr := 0, switches := min 65535 (k.switches + 1) } ∧
        t = finish s { s with
          tx := { s.tx with due := s.tx.due.filter (· ≠ .wtr) }
          store := { s.store with sinks := s.store.sinks.map fun e => e.wtrStep (candidates s e.tag e.cls) s.pins.hold } } ∧
        exec (.wtrExpiry tag) t = .next t) ∧
    (∀ (tag : Nat) (s : State), RoundWork.wtr ∉ s.tx.due ∨ s.pins.hold = true → exec (.wtrExpiry tag) s = .next s) ∧
    (∀ (spans : List (Fin 96)) (s : State), s.station.state ≠ .cold → s.tx.boundary = true → s.tx.due = [.wtr] → ∃ u t,
      exec (.ownFrameStart [.wtr] spans) s = .next u ∧ exec (.ownFrameStart [] spans) s = .next t ∧
      t = { u with
        tx := { u.tx with due := [] }
        store := { u.store with sinks := u.store.sinks.map fun k => k.wtrStep (candidates u k.tag k.cls) u.pins.hold }
        report := t.report })

/-- The count of complete rounds in LISTEN (R173) and the join (R174): at a round start in LISTEN the count moves on by a
whole round, and the station becomes JOINED exactly when the count is 4 or more and the selection age 2 or more; JOIN is that
work while it is due, and OWN_ROUND_START takes it when it names it (10_joining_the_shelf.md, Listening, The join). That a row
which comes without its event changes nothing, and that the work waits in a list, are the model's choices (log entries 2 and
7). -/
def Obligations.JoinFollowsCountAndAge : Prop :=
  (∀ (s : State) (n : Nat), n = (if s.station.wholeRound = true then min 255 (s.station.listenRounds + 1)
        else s.station.listenRounds) →
      (s.station.state = .listen → joinWork s = { s with station := { s.station with
        state := if 4 ≤ n ∧ 2 ≤ s.timing.age then .joined else .listen
        listenRounds := n
        wholeRound := true } }) ∧
      (s.station.state = .listen → RoundWork.join ∈ s.tx.due → 4 ≤ n → 2 ≤ s.timing.age →
        exec .join s = .next (finish s { s with
          station := { s.station with state := .joined, listenRounds := n, wholeRound := true }
          tx := { s.tx with due := s.tx.due.filter (· ≠ .join) } })) ∧
      (s.station.state ≠ .listen ∨ RoundWork.join ∉ s.tx.due ∨ n < 4 ∨ s.timing.age < 2 → exec .join s = .next s)) ∧
    (∀ s : State, s.station.state ≠ .listen → joinWork s = s) ∧
    (∀ s : State, s.station.state ≠ .cold → s.tx.frame = 15 → s.tx.boundary = false → s.tx.due = [] →
      exec (.ownRoundStart [.join]) s = .next (finish s (joinWork { s with tx := { s.tx with
        roundNo := (s.tx.roundNo + 1) % 65536
        boundary := true
        due := [.pass, .snapshot, .wtr, .timing, .lighting, .degraded] } })))

/-! ### Lanes -/

/-- Markers of a lane that is not ALIGNED (R32, R33): in ABSENT and LOST alignment starts; in ALIGNING a marker within ±1 of
the candidate matches, up to 3, and another restarts; captures are −84 to +83 (02_the_shelf_highway.md, Alignment). The
fields that place a marker in its window are the model's (log entry 6). -/
def Obligations.MarkersStartAndRestartAlignment : Prop :=
  ∀ (l : Fin 9) (t : Nat) (s : State) (skew : Int) (start : LaneRx), s.station.state ≠ .cold → l ≠ s.station.number →
    skew = (if t ≤ 83 then (t : Int) else (t : Int) - 168) →
    start = { s.lanes[l] with
      state := .aligning, capture := some skew, candidate := some skew, matchCount := 1, held := none, trackCount := 0
      drift := 0, missed := 0, skewRange := decide (skew < -24 ∨ 24 < skew), windows := []
      openWindow := if t ≤ 83 then 0 else 1, slot := 0, windowMarker := true, windowHeader := false } →
    (s.lanes[l].state = .absent ∨ s.lanes[l].state = .lost → exec (.laneMarkerArrival l t) s =
      .next (finish s { s with tx := { s.tx with tileTime := t }, lanes := s.lanes.set l start })) ∧
    (∀ c, s.lanes[l].state = .aligning → s.lanes[l].candidate = some c →
      (c - 1 ≤ skew → skew ≤ c + 1 → exec (.laneMarkerArrival l t) s = .next (finish s { s with
        tx := { s.tx with tileTime := t }
        lanes := s.lanes.set l { s.lanes[l] with capture := some skew, matchCount := min 3 (s.lanes[l].matchCount + 1)
                                                 missed := 0, slot := 0, windowMarker := true } })) ∧
      (skew < c - 1 ∨ c + 1 < skew → exec (.laneMarkerArrival l t) s =
        .next (finish s { s with tx := { s.tx with tileTime := t }, lanes := s.lanes.set l start })))

/-- Markers of an ALIGNED lane (R36, R37): tracking of good markers with the move of held skew at the sixteenth, which
TRACKING_MOVE names; the first drift; and the second, which ends ALIGNED. The exit clears the lane's record and sends the
notices of a cleared manifest, evaluates the sinks that the lane fed or its manifest named, sets the Timing Unit's record of
the lane back and, where that takes its qualification, re-evaluates the selection at once (02_the_shelf_highway.md, Holding
alignment; 03_manifests_and_the_peer_view.md, Clearing, What the Peer View tells its neighbours;
05_selection_and_protection.md, Evaluation; 09_shelf_timing.md, Peer lanes as sources, Choosing the source). The fields that
place a marker in its window are the model's (log entry 6), and so is the side kept at a count of 0 (log entry 13); the order
of the evaluations of one notice is free (log entry 4). That a row which comes without its event changes nothing is the
model's choice (log entry 2), and that a change of selection sets holdover to whether it is to FREE is its reading (log entry
29), with phaseDue its field (log entry 12). -/
def Obligations.AlignedMarkersTrackAndDrift : Prop :=
  ∀ (l : Fin 9) (t : Nat) (s : State) (x : LaneRx) (skew held : Int) (good : LaneRx → Host.Outcome State Fault Refusal),
    s.station.state ≠ .cold → l ≠ s.station.number → x = s.lanes[l] → x.state = .aligned → x.held = some held →
    skew = (if t ≤ 83 then (t : Int) else (t : Int) - 168) →
    good = (fun y => .next (finish s { s with
      tx := { s.tx with tileTime := t }
      lanes := s.lanes.set l { y with capture := some skew, missed := 0, slot := 0, windowMarker := true
                                      windows := putWindow x.windows 0 [] } })) →
    (skew = held → exec (.laneMarkerArrival l t) s = good { x with drift := 0, trackCount := 0 }) ∧
    (skew ≠ held → held - 2 ≤ skew → skew ≤ held + 2 →
      (x.trackCount = 0 ∨ x.trackMinus ≠ decide (skew < held) → exec (.laneMarkerArrival l t) s =
        good { x with drift := 0, trackMinus := decide (skew < held), trackCount := 1 }) ∧
      (0 < x.trackCount → x.trackCount ≠ 15 → x.trackMinus = decide (skew < held) →
        exec (.laneMarkerArrival l t) s = good { x with drift := 0, trackCount := x.trackCount + 1 }) ∧
      (x.trackCount = 15 → x.trackMinus = decide (skew < held) →
        exec (.trackingMove l t) s = exec (.laneMarkerArrival l t) s ∧ exec (.trackingMove l t) s = good { x with
          drift := 0, trackCount := 0
          held := some (if skew < held then max (-24) (held - 1) else min 24 (held + 1)) })) ∧
    (skew < held - 2 ∨ held + 2 < skew →
      (x.drift = 0 → exec (.laneMarkerArrival l t) s = good { x with drift := 1, trackCount := 0 }) ∧
      (x.drift ≠ 0 → ∃ u, exec (.laneMarkerArrival l t) s = .next u ∧ u.lanes = s.lanes.set l { x with
          state := .aligning, capture := some skew, candidate := some skew, matchCount := 1, held := none
          trackCount := 0, drift := 0, missed := 0, skewRange := decide (skew < -24 ∨ 24 < skew), windows := []
          openWindow := if t ≤ 83 then 0 else 1, slot := 0, windowMarker := true, windowHeader := false } ∧
        u = { s with
          tx := { s.tx with tileTime := t }
          lanes := u.lanes, view := u.view, timing := u.timing, store := u.store, report := u.report } ∧
        u.view = s.view.set l { s.view[l] with manifest := none, assembly := none, stale := 3, nextIndex := none } ∧
        u.timing.lanes[l] = { alignedRounds := 0, wholeRound := false, qualified := false } ∧ Rejudged l s u ∧
        (∀ k ∈ u.store.sinks, ∀ sel, k.sel = some sel → sel.lane ≠ l) ∧
        (SinkTable s → u.store = exitStore l s u))) ∧
    (x.trackCount ≠ 15 → exec (.trackingMove l t) s = .next s)

/-- Headers of a peer lane (R33, R35, R39): a bad one is counted and changes no heard header; in ALIGNING a good one that
names another station sets the misplug flag, one that names the lane in a matching frame completes alignment and is taken; in
ALIGNED one is taken by the Peer View, the Timing Unit and the Lighting Coordinator, and one that names another station then
ends ALIGNED; in ABSENT and LOST none is taken. The lane's flag is judged by each header taken, and again at the exit; a
change of it re-evaluates the selection at once, and without one the selected source stays. The exit sends the notices of a
cleared manifest and evaluates the sinks that the lane fed or its manifest named (02_the_shelf_highway.md, Headers of an
aligned lane; 03_manifests_and_the_peer_view.md, Clearing, What the Peer View tells its neighbours;
05_selection_and_protection.md, Evaluation; 09_shelf_timing.md, Peer lanes as sources, Choosing the source;
12_frame_and_message_formats.md, R193, by which lighting announcement 3 is busy). The fields that place a marker in its
window are the model's (log entry 6), and so are its readings that in ABSENT and LOST no header is counted (log entry 14), of
what the exit at another station's header sets back (log entry 16), that a change of selection sets holdover to whether it is
to FREE (log entry 29), with phaseDue its field (log entry 12), and that this header is passed on before the exit (log entry
35); the order of the evaluations of one notice is free (log entry 4). -/
def Obligations.HeadersAlignAndInform : Prop :=
  ∀ (l : Fin 9) (words : List Word) (tiles : List Tile) (s : State) (x : LaneRx) (h : Heard) (r : LaneView × Bool),
    s.station.state ≠ .cold → l ≠ s.station.number → x = s.lanes[l] → h = heardOf words →
    r = s.view[l].header h (slotsOf words) (match x.state, x.heard with
      | .aligned, some old => decide (old.epoch ≠ h.epoch)
      | _, _ => false) →
    (x.state = .absent ∨ x.state = .lost → exec (.laneHeaderReceived l words tiles) s = .next (finish s s)) ∧
    (checkGood (words.take 29) = false →
      (x.state = .aligning → exec (.laneHeaderReceived l words tiles) s = .next (finish s { s with
        lanes := s.lanes.set l { x with headerErrors := min 65535 (x.headerErrors + 1) } })) ∧
      (x.state = .aligned → exec (.laneHeaderReceived l words tiles) s = .next (finish s { s with
        lanes := s.lanes.set l { x with
          headerErrors := min 65535 (x.headerErrors + 1), windows := putWindow x.windows x.slot tiles } }))) ∧
    (checkGood (words.take 29) = true → x.state = .aligning →
      (h.station ≠ l.val → exec (.laneHeaderReceived l words tiles) s = .next (finish s { s with
        lanes := s.lanes.set l { x with heard := some h, misplug := true, matchCount := 0 } })) ∧
      (h.station = l.val → (x.matchCount ≠ 3 ∨ ∀ c, x.candidate = some c → c < -24 ∨ 24 < c) →
        exec (.laneHeaderReceived l words tiles) s = .next (finish s { s with
          lanes := s.lanes.set l { x with heard := some h, misplug := false } })) ∧
      (∀ c, h.station = l.val → x.matchCount = 3 → x.candidate = some c → -24 ≤ c → c ≤ 24 →
        ∃ u, exec (.laneHeaderReceived l words tiles) s = .next u ∧ u = { s with
          lanes := u.lanes, view := u.view, timing := u.timing, store := u.store, carriers := u.carriers
          report := u.report } ∧
        u.lanes = s.lanes.set l { x with
          state := .aligned, candidate := none, matchCount := 0, held := some c, trackCount := 0, drift := 0
          missed := 0, misplug := false, heard := some h, alignments := min 255 (x.alignments + 1)
          windows := putWindow [] x.slot tiles, windowHeader := true } ∧
        u.view = s.view.set l r.1 ∧ u.view[l].nextIndex = some (if h.frag < 15 then h.frag + 1 else 0) ∧
        u.store = (setView l r.1 r.2 { s with lanes := u.lanes }).store ∧
        u.timing.lanes[l] = { alignedRounds := 0, wholeRound := false, qualified := false } ∧ Rejudged l s u ∧
        u.carriers = { s.carriers with
          current := if h.light = 0 then s.carriers.current else s.carriers.current.set l true })) ∧
    (checkGood (words.take 29) = true → x.state = .aligned →
      (h.station = l.val → ∃ u, exec (.laneHeaderReceived l words tiles) s = .next u ∧ u = { s with
          lanes := u.lanes, view := u.view, timing := u.timing, store := u.store, carriers := u.carriers
          report := u.report } ∧
        u.lanes = s.lanes.set l { x with
          heard := some h, windows := putWindow x.windows x.slot tiles, windowHeader := true } ∧
        u.view = s.view.set l r.1 ∧ u.store = (setView l r.1 r.2 s).store ∧
        (h.joined = false → u.view[l].manifest = none ∧ u.view[l].stale = 3) ∧
        u.timing.lanes[l] = { s.timing.lanes[l] with qualified := laneQualifies u l } ∧ Rejudged l s u ∧
        (u.timing.selected = .lane l → u.timing.level = h.level + 1) ∧
        u.carriers = { s.carriers with
          current := if h.light = 0 then s.carriers.current else s.carriers.current.set l true }) ∧
      (h.station ≠ l.val → ∃ u, exec (.laneHeaderReceived l words tiles) s = .next u ∧ u = { s with
          lanes := u.lanes, view := u.view, timing := u.timing, store := u.store, carriers := u.carriers
          report := u.report } ∧
        u.lanes = s.lanes.set l { x with
          state := .aligning, candidate := x.held, matchCount := 0, held := none, trackCount := 0, drift := 0
          misplug := true, heard := some h, windows := [] } ∧
        u.view = s.view.set l { r.1 with manifest := none, assembly := none, stale := 3, nextIndex := none } ∧
        u.timing.lanes[l] = { alignedRounds := 0, wholeRound := false, qualified := false } ∧
        (∃ v, v = { s with
            lanes := s.lanes.set l { x with
              heard := some h, windows := putWindow x.windows x.slot tiles, windowHeader := true }
            timing := v.timing } ∧ Rejudged l s v ∧ Rejudged l v u) ∧
        u.carriers = { s.carriers with
          current := if h.light = 0 then s.carriers.current else s.carriers.current.set l true } ∧
        (∀ k ∈ u.store.sinks, ∀ sel, k.sel = some sel → sel.lane ≠ l) ∧
        (SinkTable s → u.store = exitStore l (setView l r.1 r.2 s) u)))

/-- The check instant of a peer lane (R31, R38): a window with a marker, a missed marker with its counts, the eighth missed
marker, which MISSED_MARKER_LIMIT names, in ALIGNING and in ALIGNED; an ALIGNED lane without a good header in the window is
unheard, with the notices of a manifest that this clears. The exit at the eighth clears the record with its notices,
evaluates the sinks that the lane fed or its manifest named, and re-evaluates the selection at once where it takes the lane's
qualification (02_the_shelf_highway.md, The Lane Receivers, Holding alignment; 03_manifests_and_the_peer_view.md, Clearing,
What the Peer View tells its neighbours; 05_selection_and_protection.md, Evaluation; 09_shelf_timing.md, Peer lanes as
sources, Choosing the source). The fields that place a marker in its window are the model's (log entry 6), and so are its
readings that the unheard frame is taken before the exit (log entry 14) and that a change of selection sets holdover to
whether it is to FREE (log entry 29), with phaseDue its field (log entry 12); the order of the evaluations of one notice is
free (log entry 4). That a row which comes without its event changes nothing is the model's choice (log entry 2). -/
def Obligations.WindowsCountMissedMarkers : Prop :=
  ∀ (l : Fin 9) (s : State) (x next missed : LaneRx) (before : LaneView), s.station.state ≠ .cold →
    l ≠ s.station.number → x = s.lanes[l] → before = (if x.windowHeader then s.view[l] else s.view[l].unheard) →
    next = { x with openWindow := x.openWindow + 1, slot := x.slot + 1, windowMarker := false, windowHeader := false } →
    missed = { next with capture := none, trackCount := 0, drift := 0, matchCount := 0, missed := x.missed + 1 } →
    (x.state = .absent ∨ x.state = .lost → exec (.markerWindowCheck l) s = .next (finish s s)) ∧
    (x.state = .aligning →
      (x.windowMarker = true →
        exec (.markerWindowCheck l) s = .next (finish s { s with lanes := s.lanes.set l next })) ∧
      (x.windowMarker = false → x.missed < 7 →
        exec (.markerWindowCheck l) s = .next (finish s { s with lanes := s.lanes.set l missed })) ∧
      (x.windowMarker = false → 7 ≤ x.missed → exec (.missedMarkerLimit l) s = exec (.markerWindowCheck l) s ∧
        exec (.missedMarkerLimit l) s = .next (finish s { s with lanes := s.lanes.set l { missed with
          state := .absent, missed := 0, candidate := none, held := none, skewRange := false, misplug := false
          windows := [] } }))) ∧
    (x.state = .aligned →
      (x.windowMarker = true → x.windowHeader = true → exec (.markerWindowCheck l) s = .next (finish s { s with
        lanes := s.lanes.set l { next with windows := (none :: x.windows).take 4 } })) ∧
      (x.windowMarker = false → x.windowHeader = true → x.missed < 7 →
        exec (.markerWindowCheck l) s = .next (finish s { s with
          lanes := s.lanes.set l { missed with windows := (none :: x.windows).take 4 } })) ∧
      (x.windowHeader = false → x.windowMarker = true ∨ x.missed < 7 → ∃ u,
        exec (.markerWindowCheck l) s = .next u ∧
        u = { s with lanes := u.lanes, view := u.view, store := u.store, report := u.report } ∧
        u.lanes = s.lanes.set l { (if x.windowMarker then next else missed) with windows := (none :: x.windows).take 4 } ∧
        u.view = s.view.set l s.view[l].unheard ∧
        u.store = (setView l s.view[l].unheard false s).store) ∧
      (x.windowMarker = false → 7 ≤ x.missed → exec (.missedMarkerLimit l) s = exec (.markerWindowCheck l) s ∧
        ∃ u, exec (.missedMarkerLimit l) s = .next u ∧
        u.lanes = s.lanes.set l { missed with state := .lost, missed := 0, windows := [] } ∧
        u = { s with lanes := u.lanes, view := u.view, timing := u.timing, store := u.store, report := u.report } ∧
        u.view = s.view.set l { before with manifest := none, assembly := none, stale := 3, nextIndex := none } ∧
        u.timing.lanes[l] = { alignedRounds := 0, wholeRound := false, qualified := false } ∧ Rejudged l s u ∧
        (∀ k ∈ u.store.sinks, ∀ sel, k.sel = some sel → sel.lane ≠ l) ∧
        (SinkTable s → u.store = exitStore l (setView l before false s) u))) ∧
    (x.windowMarker = true ∨ x.missed < 7 → exec (.missedMarkerLimit l) s = .next s)

/-! ### The peer view -/

/-- How a lane round is gathered and ends: a fragment in its place is kept, or breaks the assembly; one at another place ends
the round incomplete and begins anew (R51); sixteen fragments of one round that form a well-formed manifest arrive (R54);
fragment 15 of a round that is broken, lacks a fragment or is ill-formed ends it incomplete (R53, R55); an unheard frame
breaks the assembly and moves the index on, and at index 15 ends the round incomplete (R52, R55); STALE_MANIFEST_CLEAR is the
round end that brings the stale count to 3 and clears the manifest, from 2 by an unheard window, by a header of fragment 15
whose round is not held, is broken, lacks a fragment or is ill-formed, or by one out of its place, and from 1 by a header of
fragment 15 out of its place, which ends two rounds; a header of LISTEN and a header of another epoch clear the record (R57,
R58). An arrival, and the clearing of a manifest that was present, send one notice to the Placement Unit and one to the
Selector (R59) (03_manifests_and_the_peer_view.md, Assembly of a lane round, Arrival and staleness, Clearing, What the Peer
View tells its neighbours). That a row which comes without its event changes nothing is the model's choice (log entry 2);
that a place without an assembly ends no round, and the entry count of a broken assembly, are its readings (log entries 21
and 36), and so are that an unheard frame is taken before the exit which the same check instant brings (log entry 14) and
that a header naming another station is passed on before the exit it brings (log entry 35). -/
def Obligations.LaneRoundsArriveOrGoStale : Prop :=
  (∀ (v w : LaneView) (h : Heard) (frags : Fin 16 → List Slot) (es : List Entry),
      wellFormedEntries h.count ((List.finRange 16).flatMap frags) = some es →
      v.nextIndex = none ∨ v.nextIndex = some 0 ∨ v.assembly = none →
      w = (List.finRange 16).foldl (fun v f => (v.fragment { h with frag := f.val } (frags f)).1) v →
      w = { v with manifest := some { round := h.round, entries := es }, stale := 0, nextIndex := some 0
                   assembly := none, arrivals := min 65535 (v.arrivals + 1) }) ∧
    (∀ (v : LaneView) (h : Heard) (slots : List Slot) (i : Nat) (a : Assembly), v.nextIndex = some i → v.assembly = some a →
      (i = h.frag → 0 < i → i < 15 → v.fragment h slots = ({ v with
        nextIndex := some (i + 1)
        assembly := some (if a.round ≠ h.round then { round := h.round, count := h.count, frags := [], broken := true }
          else if a.count = h.count ∧ a.broken = false then { a with frags := a.frags ++ [(i, slots)] }
          else { a with broken := true }) }, false)) ∧
      (i ≠ h.frag → h.frag < 15 → v.fragment h slots = ({ v with
        nextIndex := some (h.frag + 1)
        stale := min 3 (v.stale + 1)
        incompletes := min 65535 (v.incompletes + 1)
        manifest := if 2 ≤ v.stale then none else v.manifest
        assembly := some (if h.frag = 0 then { round := h.round, count := h.count, frags := [(0, slots)], broken := false }
          else { round := h.round, count := h.count, frags := [], broken := true }) }, false)) ∧
      (i = h.frag → i = 15 → (a.round ≠ h.round ∨ a.count ≠ h.count ∨ a.broken = true ∨ a.frags.map Prod.fst ≠ List.range 15 ∨
          wellFormedEntries h.count (a.frags.flatMap Prod.snd ++ slots) = none) →
        v.fragment h slots = ({ v with
          nextIndex := some 0, assembly := none, stale := min 3 (v.stale + 1)
          incompletes := min 65535 (v.incompletes + 1), manifest := if 2 ≤ v.stale then none else v.manifest }, false)) ∧
      (i ≠ h.frag → h.frag = 15 → v.fragment h slots = ({ v with
        nextIndex := some 0, assembly := none, stale := min 3 (v.stale + 2)
        incompletes := min 65535 (v.incompletes + 2), manifest := if 1 ≤ v.stale then none else v.manifest }, false))) ∧
    (∀ (v : LaneView) (h : Heard) (slots : List Slot), v.assembly = none →
      (h.frag < 15 → v.fragment h slots = ({ v with
        nextIndex := some (h.frag + 1)
        assembly := some (if h.frag = 0 then { round := h.round, count := h.count, frags := [(0, slots)], broken := false }
          else { round := h.round, count := h.count, frags := [], broken := true }) }, false)) ∧
      (h.frag = 15 → v.fragment h slots = ({ v with
        nextIndex := some 0, stale := min 3 (v.stale + 1), incompletes := min 65535 (v.incompletes + 1)
        manifest := if 2 ≤ v.stale then none else v.manifest }, false))) ∧
    (∀ (v w : LaneView) (h : Heard) (slots : List Slot) (e : Bool), w = { v with manifest := none, assembly := none, stale := 3 } →
      (h.joined = false → v.header h slots e = ({ w with nextIndex := some (if h.frag < 15 then h.frag + 1 else 0) }, false)) ∧
      (h.joined = true → v.header h slots true = LaneView.fragment { w with nextIndex := none } h slots ∧
        v.header h slots false = v.fragment h slots)) ∧
    (∀ (l : Fin 9) (v : LaneView) (arrived : Bool) (s t : State), t = { s with view := s.view.set l v } →
      (arrived = true ∨ (s.view[l].manifest ≠ none ∧ v.manifest = none) → setView l v arrived s =
        noticeSelector s.view[l].manifest v.manifest (noticePlacement s.view[l].manifest v.manifest t)) ∧
      (arrived = false → s.view[l].manifest = none ∨ v.manifest ≠ none → setView l v arrived s = t)) ∧
    (∀ (l : Fin 9) (words : List Word) (tiles : List Tile) (s t : State) (h : Heard) (x : LaneRx) (r : LaneView × Bool),
      s.station.state ≠ .cold → l ≠ s.station.number → x = s.lanes[l] → x.state = .aligned → checkGood (words.take 29) = true →
      h = heardOf words → h.station = l.val →
      r = s.view[l].header h (slotsOf words) (match x.heard with | some old => decide (old.epoch ≠ h.epoch) | none => false) →
      t = { s with lanes := s.lanes.set l { x with
        heard := some h, windows := putWindow x.windows x.slot tiles, windowHeader := true } } →
      ∃ u, exec (.laneHeaderReceived l words tiles) s = .next u ∧ u.view = s.view.set l r.1 ∧
        u.store = (setView l r.1 r.2 t).store) ∧
    (∀ v : LaneView, (v.nextIndex = some 15 → v.unheard = { v with
        nextIndex := some 0, assembly := none, stale := min 3 (v.stale + 1), incompletes := min 65535 (v.incompletes + 1)
        manifest := if 2 ≤ v.stale then none else v.manifest }) ∧
      (∀ i, i < 15 → v.nextIndex = some i → v.unheard = { v with
        nextIndex := some (i + 1), assembly := v.assembly.map fun a : Assembly => { a with broken := true } }) ∧
      (v.nextIndex = none → v.unheard = { v with
        assembly := v.assembly.map fun a : Assembly => { a with broken := true } })) ∧
    (∀ (l : Fin 9) (s : State), s.station.state ≠ .cold → l ≠ s.station.number → s.lanes[l].state = .aligned →
      s.view[l].stale = 2 → s.view[l].manifest ≠ none →
      (s.lanes[l].windowHeader = false → s.view[l].nextIndex = some 15 → ∃ u,
          exec (.staleManifestClear l .unheard) s = .next u ∧ exec (.markerWindowCheck l) s = .next u ∧
          u.view[l].manifest = none ∧ u.view[l].stale = 3 ∧
          u.view[l].incompletes = min 65535 (s.view[l].incompletes + 1) ∧
          (s.lanes[l].windowMarker = true ∨ s.lanes[l].missed < 7 →
            u.store = (setView l s.view[l].unheard false s).store)) ∧
      (∀ (words : List Word) (tiles : List Tile) (h : Heard), checkGood (words.take 29) = true → h = heardOf words →
        h.joined = true → h.frag = 15 → (s.view[l].assembly = none ∨
          ∃ a, s.view[l].assembly = some a ∧ s.view[l].nextIndex = some 15 ∧
            (a.round ≠ h.round ∨ a.count ≠ h.count ∨ a.broken = true ∨ a.frags.map Prod.fst ≠ List.range 15 ∨
              wellFormedEntries h.count (a.frags.flatMap Prod.snd ++ slotsOf words) = none)) →
        (∀ old, s.lanes[l].heard = some old → old.epoch = h.epoch) → ∃ u,
          exec (.staleManifestClear l (.header words tiles)) s = .next u ∧
          exec (.laneHeaderReceived l words tiles) s = .next u ∧
          u.view[l].manifest = none ∧ u.view[l].stale = 3 ∧
          u.view[l].incompletes = min 65535 (s.view[l].incompletes + 1))) ∧
    (∀ (l : Fin 9) (s : State) (words : List Word) (tiles : List Tile) (h : Heard) (i : Nat) (rounds : Nat),
      s.station.state ≠ .cold → l ≠ s.station.number → s.lanes[l].state = .aligned → s.view[l].manifest ≠ none →
      checkGood (words.take 29) = true → h = heardOf words → h.joined = true →
      (∀ old, s.lanes[l].heard = some old → old.epoch = h.epoch) →
      s.view[l].nextIndex = some i → i ≠ h.frag → s.view[l].assembly ≠ none →
      rounds = (if h.frag = 15 then 2 else 1) → s.view[l].stale + rounds = 3 ∨ s.view[l].stale = 2 → ∃ u,
        exec (.staleManifestClear l (.header words tiles)) s = .next u ∧
        exec (.laneHeaderReceived l words tiles) s = .next u ∧ u.view[l].manifest = none ∧ u.view[l].stale = 3 ∧
        u.view[l].incompletes = min 65535 (s.view[l].incompletes + rounds)) ∧
    (∀ (l : Fin 9) (cause : RoundEnd) (s : State), s.lanes[l].state ≠ .aligned ∨ s.view[l].stale = 0 ∨
      (s.view[l].stale = 1 ∧ cause = .unheard) ∨ s.view[l].manifest = none → exec (.staleManifestClear l cause) s = .next s)

/-! ### Carrier ingress -/

/-- The framer (R140, R141): a marker in HUNT, in the ±2 window and outside it, the marker that brings SYNC, which
CARRIER_SYNC_ENTRY names; a window that closes without a marker, and the fourth in a row, which CARRIER_SYNC_LOSS names and
at which the ingress status of every source bound to the port becomes absent (08_carrier_ports.md, The ingress framer). That
a row which comes without its event changes nothing is the model's choice (log entry 2); the marks of a frame taken in SYNC
that has not ended, and of the one before it, are the model's fields (log entry 12); that a marker which falls with the
closing that returns the framer to HUNT, taken after it, is one more marker in HUNT is its choice (log entry 37). -/
def Obligations.FramerFollowsTheFarEnd : Prop :=
  (∀ (p : Fin 4) (t : Nat) (s : State) (x : CarrierPort) (become : CarrierPort → Host.Outcome State Fault Refusal),
      s.station.state ≠ .cold → x = s.carriers.ports[p] →
      become = (fun y => .next (finish s { s with
        tx := { s.tx with tileTime := t }, carriers := { s.carriers with ports := s.carriers.ports.set p y } })) →
      (x.framer = .hunt → exec (.carrierMarkerArrival p t) s = become { x with
        framer := .confirm, confirm := some 1, expected := some ((t : Int) + 168), receiving := false
        receivingOld := false }) ∧
      (∀ e : Int, x.expected = some e →
        (x.framer ≠ .hunt → (t : Int) < e - 2 ∨ e + 2 < (t : Int) → exec (.carrierMarkerArrival p t) s = become x) ∧
        (e - 2 ≤ (t : Int) → (t : Int) ≤ e + 2 →
          (∀ n, x.framer = .confirm → x.confirm = some n → n ≠ 2 → exec (.carrierMarkerArrival p t) s = become { x with
            confirm := some (n + 1), expected := some ((t : Int) + 168) }) ∧
          (x.framer = .confirm → x.confirm = some 2 →
            exec (.carrierSyncEntry p t) s = exec (.carrierMarkerArrival p t) s ∧
            exec (.carrierSyncEntry p t) s = become { x with
              framer := .sync, confirm := none, expected := some ((t : Int) + 168), missing := 0, receiving := true
              receivingOld := false }) ∧
          (x.framer = .sync → exec (.carrierMarkerArrival p t) s = become { x with
            missing := 0, expected := some ((t : Int) + 168), receiving := true, receivingOld := x.receiving }))) ∧
      (x.framer ≠ .confirm ∨ x.confirm ≠ some 2 → exec (.carrierSyncEntry p t) s = .next s)) ∧
    (∀ (p : Fin 4) (s : State) (x : CarrierPort) (hunt : CarrierPort), s.station.state ≠ .cold →
      x = s.carriers.ports[p] →
      hunt = { x with
        framer := .hunt, confirm := none, expected := none, missing := 0, receiving := false, receivingOld := false } →
      (x.framer = .hunt → exec (.carrierWindowClose p) s = .next (finish s s)) ∧
      (x.framer = .confirm → exec (.carrierWindowClose p) s = .next (finish s { s with
        carriers := { s.carriers with ports := s.carriers.ports.set p hunt } })) ∧
      (x.framer = .sync → x.missing < 3 → exec (.carrierWindowClose p) s = .next (finish s { s with
        carriers := { s.carriers with ports := s.carriers.ports.set p { x with
          missing := x.missing + 1, expected := x.expected.map (· + 168), receiving := false
          receivingOld := false } } })) ∧
      (x.framer = .sync → 3 ≤ x.missing → exec (.carrierSyncLoss p) s = exec (.carrierWindowClose p) s ∧
        exec (.carrierSyncLoss p) s = .next (finish s { s with
          carriers := { s.carriers with ports := s.carriers.ports.set p hunt }
          store := { s.store with sources := s.store.sources.map fun r : Source =>
            if r.removed = false ∧ r.carrierPort = some p then { r with ingress := .absent } else r } })) ∧
      (x.framer ≠ .sync ∨ x.missing < 3 → exec (.carrierSyncLoss p) s = .next s))

/-- The end of a far-end frame received in SYNC: a mismatch of the frame check is counted and gives no identity (R142, R143),
and so does a station number above 8 (12_frame_and_message_formats.md, R193); the extraction for every source bound to the
port, whatever the check said, with PASSED and an arrival, or REFUSED and none, and no other source field, no other record
and no queue moves (R144); a frame that is not received in SYNC does nothing (08_carrier_ports.md, The frame check and the
DEGRADED condition, Far-end identity, Extraction into carrier-ingress sources). Which frame is received in SYNC, also when
the next frame's marker falls at the same moment, rests on the model's marks (log entry 12); that a row which comes without
its event changes nothing is its choice (log entry 2). -/
def Obligations.FarEndFramesAreJudgedAndExtracted : Prop :=
  (∀ (p : Fin 4) (f : CarrierFrame) (behind : Bool) (s : State) (x ended y : CarrierPort), s.station.state ≠ .cold →
      x = s.carriers.ports[p] → x.framer = .sync → (if behind then x.receivingOld else x.receiving) = true → OwnerLaw s →
      ended = (if behind then { x with receivingOld := false } else { x with receiving := false }) →
      (carrierCheckGood f = true → y = { ended with
        farEnd := if field f.header 15 12 ≤ 8 then some (field f.header 15 12, field f.header 11 10) else x.farEnd }) →
      (carrierCheckGood f = false → y = { ended with
        roundErrors := min 65535 (x.roundErrors + 1), errorTotal := min 65535 (x.errorTotal + 1) }) →
      ∃ t, exec (.farEndFrameEnd p ⟨f, behind⟩) s = .next t ∧
        t = { s with
          carriers := { s.carriers with ports := s.carriers.ports.set p y }
          store := { s.store with
            sources := s.store.sources.map fun r => match r.binding with
              | .carrier q first => if q = p ∧ r.removed = false then { r with
                  ingress := match readGroup f.tiles first r.cls r.tag with
                    | some (m, _) => .passed m
                    | none => .refused } else r
              | .client _ => r
            pool := t.store.pool }
          report := t.report } ∧
        (∀ n : Fin 96, (∀ r ∈ s.store.sources, r.removed = false → r.carrierPort = some p → r.adapter ≠ some n) →
          t.store.pool[n] = s.store.pool[n]) ∧
        (∀ (r : Source) (first : Nat) (n : Fin 96) (a : Adapter), r ∈ s.store.sources → r.removed = false →
          r.binding = .carrier p first → r.adapter = some n → s.store.pool[n] = some a →
          (∀ q blocks, readGroup f.tiles first r.cls r.tag = some (q, blocks) →
            (visibleSource t.store r.tag).map (·.ingress) = some (.passed q) ∧
            t.store.pool[n] = some (a.arrive blocks)) ∧
          (readGroup f.tiles first r.cls r.tag = none →
            (visibleSource t.store r.tag).map (·.ingress) = some .refused ∧ t.store.pool[n] = some a)) ∧
        (∀ r ∈ s.store.sources, r.removed = false → r.carrierPort ≠ some p →
          (visibleSource t.store r.tag).map (·.ingress) = some r.ingress ∧
          ∀ n, r.adapter = some n → t.store.pool[n] = s.store.pool[n])) ∧
    (∀ (p : Fin 4) (f : CarrierFrame) (behind : Bool) (s : State), s.carriers.ports[p].framer ≠ .sync ∨
      (if behind then s.carriers.ports[p].receivingOld else s.carriers.ports[p].receiving) = false →
      exec (.farEndFrameEnd p ⟨f, behind⟩) s = .next s)

/-! ### Timing -/

/-- The shelf reference (R157, R158): a pulse begins a run, is counted in its ±1 window, qualifies REF at the 64th, which
REF_QUALIFIED names, and outside a window begins a new run or, in QUALIFIED, is ignored; a window that closes without a pulse
ends a run, and the third in a row in QUALIFIED ends the qualification, which REF_DISQUALIFIED names. With REF not enabled
nothing is taken (09_shelf_timing.md, The shelf reference). That a row which comes without its event changes nothing is the
model's choice (log entry 2), and so is that a pulse which falls with the closing that disqualifies REF, taken after it, is
one more pulse in IDLE (log entry 39); what stays of the REF record at the end of a run is its reading (log entry 18). -/
def Obligations.ReferencePulsesQualifyAndDisqualify : Prop :=
  (∀ (t : Nat) (s : State) (u : TimingUnit) (skew : Int), s.station.state ≠ .cold → s.station.refUse = true →
      u = s.timing → skew = (if t ≤ 83 then (t : Int) else (t : Int) - 168) →
      (u.refState = .idle ∨ (u.refState = .counting ∧ ∀ e, u.refExpected = some e →
          (t : Int) < e - 1 ∨ e + 1 < (t : Int)) →
        exec (.refPulse t) s = .next (finish s { s with
          tx := { s.tx with tileTime := t }
          timing := { u with refState := .counting, refRun := 0, refExpected := some ((t : Int) + 168) } })) ∧
      (∀ e : Int, u.refExpected = some e → e - 1 ≤ (t : Int) → (t : Int) ≤ e + 1 →
        (u.refState = .counting → u.refRun ≠ 63 → exec (.refPulse t) s = .next (finish s { s with
          tx := { s.tx with tileTime := t }
          timing := { u with
            refRun := u.refRun + 1, refPos := some skew, refExpected := some ((t : Int) + 168) } })) ∧
        (u.refState = .counting → u.refRun = 63 → exec (.refQualified t) s = exec (.refPulse t) s ∧
          exec (.refQualified t) s = .next (finish s (reselect { s with
            tx := { s.tx with tileTime := t }
            timing := { u with refState := .qualified, refRun := 64, refMissing := 0, refPos := some skew
                               refExpected := some ((t : Int) + 168) } }))) ∧
        (u.refState = .qualified → exec (.refPulse t) s = .next (finish s { s with
          tx := { s.tx with tileTime := t }
          timing := { u with
            refMissing := 0, refPos := some skew, refExpected := some ((t : Int) + 168) } }))) ∧
      (u.refState = .qualified → (∀ e, u.refExpected = some e → (t : Int) < e - 1 ∨ e + 1 < (t : Int)) →
        exec (.refPulse t) s = .next (finish s { s with tx := { s.tx with tileTime := t } })) ∧
      (u.refState ≠ .counting ∨ u.refRun ≠ 63 → exec (.refQualified t) s = .next s)) ∧
    (∀ (s : State) (u idle : TimingUnit), s.station.state ≠ .cold → s.station.refUse = true → u = s.timing →
      idle = { u with refState := .idle, refRun := 0, refMissing := 0, refExpected := none } →
      (u.refState = .idle → exec .refWindowClose s = .next (finish s s)) ∧
      (u.refState = .counting → exec .refWindowClose s = .next (finish s { s with timing := idle })) ∧
      (u.refState = .qualified → u.refMissing < 2 → exec .refWindowClose s = .next (finish s { s with
        timing := { u with refMissing := u.refMissing + 1, refExpected := u.refExpected.map (· + 168) } })) ∧
      (u.refState = .qualified → 2 ≤ u.refMissing → exec .refDisqualified s = exec .refWindowClose s ∧
        exec .refDisqualified s = .next (finish s (reselect { s with timing := idle }))) ∧
      (u.refState ≠ .qualified ∨ u.refMissing < 2 → exec .refDisqualified s = .next s)) ∧
    (∀ (t : Nat) (s : State), s.station.refUse = false ∨ s.station.state = .cold →
      exec (.refPulse t) s = .next s ∧ exec (.refQualified t) s = .next s ∧ exec .refWindowClose s = .next s ∧
      exec .refDisqualified s = .next s)

/-- The qualification of a lane, the choice of source and the change of selection (R160, R161; for level 0 and source codes
10 to 14 also 12_frame_and_message_formats.md, R193), with what it does to the level, the step decision and holdover (R163),
and what the Timing Unit does at an own round start: it counts the aligned rounds and whole-round marks of the peer lanes,
re-evaluates the selection, and counts the selection age (09_shelf_timing.md, Peer lanes as sources, Choosing the source,
Holdover). That OWN_ROUND_START names the works it takes and the others wait in a list is the model's choice (log entry 7);
that a step decision still to be taken is held as phaseDue is its field (log entry 12); that every change of selection sets
holdover to whether it is to FREE, also with holdover set and between lanes and REF, is its reading (log entry 29). -/
def Obligations.SelectionTakesTheBestSource : Prop :=
  (∀ (s : State) (l : Fin 9) (h : Heard), s.lanes[l].heard = some h →
      (laneQualifies s l = true ↔ l ≠ s.station.number ∧ s.lanes[l].state = .aligned ∧
        s.timing.lanes[l].alignedRounds = 2 ∧ (1 ≤ h.level ∧ h.level ≤ 13) ∧ (h.source ≤ 9 ∨ h.source = 15) ∧
        h.source ≠ s.station.number.val ∧ (h.level = 8 → l < s.station.number))) ∧
    (∀ s : State,
      (s.timing.refState = .qualified → chooseSource s = (.ref, 1)) ∧
      (∀ l : Fin 9, s.timing.refState ≠ .qualified → s.timing.lanes[l].qualified = true →
        (∀ m : Fin 9, s.timing.lanes[m].qualified = true → heardLevel s.lanes[l] < heardLevel s.lanes[m] ∨
          (heardLevel s.lanes[l] = heardLevel s.lanes[m] ∧ l ≤ m)) →
        chooseSource s = (.lane l, heardLevel s.lanes[l] + 1)) ∧
      (s.timing.refState ≠ .qualified → (∀ l : Fin 9, s.timing.lanes[l].qualified = false) →
        chooseSource s = (.free, 8)) ∧
      ((chooseSource s).1 = s.timing.selected → reselect s = s) ∧
      (∀ c n, chooseSource s = (c, n) → c ≠ s.timing.selected → reselect s = { s with timing := { s.timing with
        selected := c, level := n, changed := true, holdover := decide (c = .free), phaseDue := decide (c ≠ .free) } })) ∧
    (∀ s : State, s.station.state ≠ .cold → s.tx.frame = 15 → s.tx.boundary = false → s.tx.due = [] → ∃ t,
      exec (.ownRoundStart [.timing]) s = .next t ∧
      (∀ l : Fin 9, l ≠ s.station.number → t.timing.lanes[l].alignedRounds =
        if s.lanes[l].state = .aligned then
          (if s.timing.lanes[l].wholeRound = true then min 2 (s.timing.lanes[l].alignedRounds + 1)
            else s.timing.lanes[l].alignedRounds)
        else 0) ∧
      (∀ l : Fin 9, t.timing.lanes[l].qualified = laneQualifies t l) ∧ t.timing.changed = false ∧
      t.timing.selected = (chooseSource t).1 ∧
      t.timing = { s.timing with
        lanes := t.timing.lanes, selected := t.timing.selected, level := t.timing.level, age := t.timing.age
        changed := false, holdover := t.timing.holdover, phaseDue := t.timing.phaseDue } ∧
      (t.timing.selected ≠ s.timing.selected → t.timing.level = (chooseSource t).2 ∧
        t.timing.holdover = decide (t.timing.selected = .free) ∧
        t.timing.phaseDue = decide (t.timing.selected ≠ .free)) ∧
      (TimingLaw s → t.timing.selected = s.timing.selected → t.timing.level = s.timing.level ∧
        t.timing.holdover = s.timing.holdover ∧ t.timing.phaseDue = s.timing.phaseDue) ∧
      (∀ l : Fin 9, l ≠ s.station.number → t.timing.lanes[l].wholeRound =
        (decide (s.lanes[l].state = .aligned) || s.timing.lanes[l].wholeRound)) ∧
      (s.timing.changed = true ∨ t.timing.selected ≠ s.timing.selected → t.timing.age = 0) ∧
      (TimingLaw s → s.timing.changed = false → t.timing.selected = s.timing.selected →
        t.timing.age = min 255 (s.timing.age + 1)) ∧
      t = { s with
        tx := { s.tx with roundNo := (s.tx.roundNo + 1) % 65536, boundary := true
                          due := [.pass, .snapshot, .wtr, .join, .lighting, .degraded] }
        timing := t.timing
        report := { s.report with station := t.report.station, attn := t.report.attn } })

/-! ### Reports -/

/-- What the end of every command does in the Report Unit: an item is flagged exactly when its fields changed at the event
and differ from its snapshot, a source's when its state, latch, blocked or class-mismatch flag changed, no snapshot moves,
and ATTN is asserted exactly while the enable is set and a category of the mask holds a flagged item; every command that
changes anything ends so, and every step keeps ATTN at its terms. At each departure of a source its own item is flagged when
its fields differ from the snapshot, and nothing else moves by that; at the boundary of an own frame this is so for every
source, stated of the boundaries of OwnFrameCarriesItsHeader. A comparison sets no flag but those its change calls for and
clears none; and what the Peer View's taking of a header flags stays flagged though the exit from ALIGNED that the same header
brings moves the field back (07_tributary_health.md, Source quality; 11_management_port.md, Reportable items and change flags,
Attention). That a source's quality is compared at its departures alone is the model's reading (log entry 27), and so is that
a header which names another station is passed on before the exit (log entry 35); which steps of a command bring a comparison
of their own is its choice (log entry 30). -/
def Obligations.EventsSetFlagsAndAttention : Prop :=
  (∀ (s t u : State), t.station.state ≠ .cold → u = finish s t →
      u = { t with report := { t.report with
        sources := u.report.sources, sinks := u.report.sinks, lanes := u.report.lanes, ports := u.report.ports
        station := u.report.station, attn := u.report.attn } } ∧
      (∀ l : Fin 9, u.report.lanes[l].snap = t.report.lanes[l].snap ∧ u.report.lanes[l].flag =
        flagAfter t.report.lanes[l] (laneReport s.lanes[l]) (laneReport t.lanes[l])) ∧
      (∀ p : Fin 4, u.report.ports[p].snap = t.report.ports[p].snap ∧ u.report.ports[p].flag =
        flagAfter t.report.ports[p] (portReport s.carriers.ports[p]) (portReport t.carriers.ports[p])) ∧
      (u.report.station.snap = t.report.station.snap ∧
        u.report.station.flag = flagAfter t.report.station (stationReport s) (stationReport t)) ∧
      (∀ (i tag : Nat) (it : Item SinkReport), t.report.sinks[i]? = some (tag, it) →
        ∃ b, u.report.sinks[i]? = some (tag, { it with flag := b }) ∧
        (∀ k k', findSink s.store tag = some k → findSink t.store tag = some k' →
          b = flagAfter it (sinkReport k) (sinkReport k'))) ∧
      (∀ (i tag : Nat) (it : Item SourceReport), t.report.sources[i]? = some (tag, it) →
        ∃ b, u.report.sources[i]? = some (tag, { it with flag := b }) ∧
        (∀ r r', visibleSource s.store tag = some r → visibleSource t.store tag = some r' →
          (b = true ↔ it.flag = true ∨ ((r.state ≠ r'.state ∨ r.latch ≠ r'.latch ∨ r.blocked ≠ r'.blocked ∨
            r.mismatch ≠ r'.mismatch) ∧ sourceReport t.carriers.ports r' ≠ it.snap)))) ∧
      (u.report.attn = true ↔ u.report.enable = true ∧
        ((u.report.mask.order = true ∧ ((∃ e ∈ u.report.sources, e.2.flag = true) ∨ ∃ e ∈ u.report.sinks, e.2.flag = true)) ∨
          (u.report.mask.lane = true ∧ ∃ l : Fin 9, u.report.lanes[l].flag = true) ∨
          (u.report.mask.carrier = true ∧ ∃ p : Fin 4, u.report.ports[p].flag = true) ∨
          (u.report.mask.station = true ∧ u.report.station.flag = true)))) ∧
    (∀ s t : State, t.station.state = .cold → finish s t = { t with report := { t.report with attn := false } }) ∧
    (∀ (c : Instr) (s t : State), exec c s = .next t → t = s ∨ finish s t = t) ∧
    (∀ s t : State, AttentionLaw s → step s = .next t → AttentionLaw t) ∧
    (∀ (s : State) (r : Source), visibleSource s.store r.tag = some r → noteQuality s r.tag = { s with
      report := { s.report with sources := s.report.sources.map fun e => (e.1, { e.2 with
        flag := e.2.flag || (decide (e.1 = r.tag) && decide (sourceReport s.carriers.ports r ≠ e.2.snap)) }) } }) ∧
    (∀ (spans : List (Fin 96)) (f : Nat) (s t : State) (r : Source) (n : Fin 96) (a : Adapter) (it : Item SourceReport),
      PlainBoundary f s → TileLaw s → OwnerLaw s → visibleSource s.store r.tag = some r → r.adapter = some n →
      s.store.pool[n] = some a → a.ended = none → (r.tag, it) ∈ s.report.sources →
      sourceReport s.carriers.ports r ≠ it.snap → exec (.ownFrameStart [] spans) s = .next t →
      (r.tag, { it with flag := true }) ∈ t.report.sources) ∧
    (∀ s t u : State, t.station.state ≠ .cold → u = noted s t → finish s t = updateAttn u ∧
      u = { t with report := noteChanges s t } ∧ noteChanges s u = u.report) ∧
    (∀ (l : Fin 9) (words : List Word) (tiles : List Tile) (s t : State) (h : Heard) (x : LaneRx) (r : LaneView × Bool)
      (flagged : ReportUnit), s.station.state ≠ .cold → l ≠ s.station.number → x = s.lanes[l] → x.state = .aligned →
      checkGood (words.take 29) = true → h = heardOf words →
      r = s.view[l].header h (slotsOf words) (match x.heard with | some old => decide (old.epoch ≠ h.epoch) | none => false) →
      t = { s with lanes := s.lanes.set l { x with
        heard := some h, windows := putWindow x.windows x.slot tiles, windowHeader := true } } →
      flagged = noteChanges t (setView l r.1 r.2 t) → ∃ u, exec (.laneHeaderReceived l words tiles) s = .next u ∧
        (∀ tag it, (tag, it) ∈ flagged.sources → it.flag = true → (tag, it) ∈ u.report.sources) ∧
        (∀ tag it, (tag, it) ∈ flagged.sinks → it.flag = true → (tag, it) ∈ u.report.sinks))
end

