-- ==== Sys2Proof/Laws/State.lean ====
section
/-! SUPPORT. One lemma per field of State and update: what each named update leaves as it was, and what the records of one
lane, port or adapter read after it. -/

namespace Sys2Proof.Machine

/-! ### updateSource -/

@[simp] theorem updateSource_pending (tag : Nat) (f : Source → Source) (s : State) : (updateSource tag f s).pending = s.pending := rfl
@[simp] theorem updateSource_station (tag : Nat) (f : Source → Source) (s : State) : (updateSource tag f s).station = s.station := rfl
@[simp] theorem updateSource_tx (tag : Nat) (f : Source → Source) (s : State) : (updateSource tag f s).tx = s.tx := rfl
@[simp] theorem updateSource_lanes (tag : Nat) (f : Source → Source) (s : State) : (updateSource tag f s).lanes = s.lanes := rfl
@[simp] theorem updateSource_view (tag : Nat) (f : Source → Source) (s : State) : (updateSource tag f s).view = s.view := rfl
@[simp] theorem updateSource_timing (tag : Nat) (f : Source → Source) (s : State) : (updateSource tag f s).timing = s.timing := rfl
@[simp] theorem updateSource_carriers (tag : Nat) (f : Source → Source) (s : State) : (updateSource tag f s).carriers = s.carriers := rfl
@[simp] theorem updateSource_report (tag : Nat) (f : Source → Source) (s : State) : (updateSource tag f s).report = s.report := rfl
@[simp] theorem updateSource_mport (tag : Nat) (f : Source → Source) (s : State) : (updateSource tag f s).mport = s.mport := rfl
@[simp] theorem updateSource_pins (tag : Nat) (f : Source → Source) (s : State) : (updateSource tag f s).pins = s.pins := rfl

/-! ### updateSink -/

@[simp] theorem updateSink_pending (tag : Nat) (f : Sink → Sink) (s : State) : (updateSink tag f s).pending = s.pending := rfl
@[simp] theorem updateSink_station (tag : Nat) (f : Sink → Sink) (s : State) : (updateSink tag f s).station = s.station := rfl
@[simp] theorem updateSink_tx (tag : Nat) (f : Sink → Sink) (s : State) : (updateSink tag f s).tx = s.tx := rfl
@[simp] theorem updateSink_lanes (tag : Nat) (f : Sink → Sink) (s : State) : (updateSink tag f s).lanes = s.lanes := rfl
@[simp] theorem updateSink_view (tag : Nat) (f : Sink → Sink) (s : State) : (updateSink tag f s).view = s.view := rfl
@[simp] theorem updateSink_timing (tag : Nat) (f : Sink → Sink) (s : State) : (updateSink tag f s).timing = s.timing := rfl
@[simp] theorem updateSink_carriers (tag : Nat) (f : Sink → Sink) (s : State) : (updateSink tag f s).carriers = s.carriers := rfl
@[simp] theorem updateSink_report (tag : Nat) (f : Sink → Sink) (s : State) : (updateSink tag f s).report = s.report := rfl
@[simp] theorem updateSink_mport (tag : Nat) (f : Sink → Sink) (s : State) : (updateSink tag f s).mport = s.mport := rfl
@[simp] theorem updateSink_pins (tag : Nat) (f : Sink → Sink) (s : State) : (updateSink tag f s).pins = s.pins := rfl

/-! ### setAdapter -/

@[simp] theorem setAdapter_pending (n : Fin 96) (a : Option Adapter) (s : State) : (setAdapter n a s).pending = s.pending := rfl
@[simp] theorem setAdapter_station (n : Fin 96) (a : Option Adapter) (s : State) : (setAdapter n a s).station = s.station := rfl
@[simp] theorem setAdapter_tx (n : Fin 96) (a : Option Adapter) (s : State) : (setAdapter n a s).tx = s.tx := rfl
@[simp] theorem setAdapter_lanes (n : Fin 96) (a : Option Adapter) (s : State) : (setAdapter n a s).lanes = s.lanes := rfl
@[simp] theorem setAdapter_view (n : Fin 96) (a : Option Adapter) (s : State) : (setAdapter n a s).view = s.view := rfl
@[simp] theorem setAdapter_timing (n : Fin 96) (a : Option Adapter) (s : State) : (setAdapter n a s).timing = s.timing := rfl
@[simp] theorem setAdapter_carriers (n : Fin 96) (a : Option Adapter) (s : State) : (setAdapter n a s).carriers = s.carriers := rfl
@[simp] theorem setAdapter_report (n : Fin 96) (a : Option Adapter) (s : State) : (setAdapter n a s).report = s.report := rfl
@[simp] theorem setAdapter_mport (n : Fin 96) (a : Option Adapter) (s : State) : (setAdapter n a s).mport = s.mport := rfl
@[simp] theorem setAdapter_pins (n : Fin 96) (a : Option Adapter) (s : State) : (setAdapter n a s).pins = s.pins := rfl

/-! ### setLane -/

@[simp] theorem setLane_pending (l : Fin 9) (x : LaneRx) (s : State) : (setLane l x s).pending = s.pending := rfl
@[simp] theorem setLane_station (l : Fin 9) (x : LaneRx) (s : State) : (setLane l x s).station = s.station := rfl
@[simp] theorem setLane_store (l : Fin 9) (x : LaneRx) (s : State) : (setLane l x s).store = s.store := rfl
@[simp] theorem setLane_tx (l : Fin 9) (x : LaneRx) (s : State) : (setLane l x s).tx = s.tx := rfl
@[simp] theorem setLane_view (l : Fin 9) (x : LaneRx) (s : State) : (setLane l x s).view = s.view := rfl
@[simp] theorem setLane_timing (l : Fin 9) (x : LaneRx) (s : State) : (setLane l x s).timing = s.timing := rfl
@[simp] theorem setLane_carriers (l : Fin 9) (x : LaneRx) (s : State) : (setLane l x s).carriers = s.carriers := rfl
@[simp] theorem setLane_report (l : Fin 9) (x : LaneRx) (s : State) : (setLane l x s).report = s.report := rfl
@[simp] theorem setLane_mport (l : Fin 9) (x : LaneRx) (s : State) : (setLane l x s).mport = s.mport := rfl
@[simp] theorem setLane_pins (l : Fin 9) (x : LaneRx) (s : State) : (setLane l x s).pins = s.pins := rfl

/-! ### setPort -/

@[simp] theorem setPort_pending (p : Fin 4) (x : CarrierPort) (s : State) : (setPort p x s).pending = s.pending := rfl
@[simp] theorem setPort_station (p : Fin 4) (x : CarrierPort) (s : State) : (setPort p x s).station = s.station := rfl
@[simp] theorem setPort_store (p : Fin 4) (x : CarrierPort) (s : State) : (setPort p x s).store = s.store := rfl
@[simp] theorem setPort_tx (p : Fin 4) (x : CarrierPort) (s : State) : (setPort p x s).tx = s.tx := rfl
@[simp] theorem setPort_lanes (p : Fin 4) (x : CarrierPort) (s : State) : (setPort p x s).lanes = s.lanes := rfl
@[simp] theorem setPort_view (p : Fin 4) (x : CarrierPort) (s : State) : (setPort p x s).view = s.view := rfl
@[simp] theorem setPort_timing (p : Fin 4) (x : CarrierPort) (s : State) : (setPort p x s).timing = s.timing := rfl
@[simp] theorem setPort_report (p : Fin 4) (x : CarrierPort) (s : State) : (setPort p x s).report = s.report := rfl
@[simp] theorem setPort_mport (p : Fin 4) (x : CarrierPort) (s : State) : (setPort p x s).mport = s.mport := rfl
@[simp] theorem setPort_pins (p : Fin 4) (x : CarrierPort) (s : State) : (setPort p x s).pins = s.pins := rfl

/-! ### atTime -/

@[simp] theorem atTime_pending (t : Nat) (s : State) : (atTime t s).pending = s.pending := rfl
@[simp] theorem atTime_station (t : Nat) (s : State) : (atTime t s).station = s.station := rfl
@[simp] theorem atTime_store (t : Nat) (s : State) : (atTime t s).store = s.store := rfl
@[simp] theorem atTime_lanes (t : Nat) (s : State) : (atTime t s).lanes = s.lanes := rfl
@[simp] theorem atTime_view (t : Nat) (s : State) : (atTime t s).view = s.view := rfl
@[simp] theorem atTime_timing (t : Nat) (s : State) : (atTime t s).timing = s.timing := rfl
@[simp] theorem atTime_carriers (t : Nat) (s : State) : (atTime t s).carriers = s.carriers := rfl
@[simp] theorem atTime_report (t : Nat) (s : State) : (atTime t s).report = s.report := rfl
@[simp] theorem atTime_mport (t : Nat) (s : State) : (atTime t s).mport = s.mport := rfl
@[simp] theorem atTime_pins (t : Nat) (s : State) : (atTime t s).pins = s.pins := rfl

/-! ### shifted -/

@[simp] theorem shifted_pending (b : Option Nat) (n : Nat) (s : State) : (shifted b n s).pending = s.pending := rfl
@[simp] theorem shifted_station (b : Option Nat) (n : Nat) (s : State) : (shifted b n s).station = s.station := rfl
@[simp] theorem shifted_store (b : Option Nat) (n : Nat) (s : State) : (shifted b n s).store = s.store := rfl
@[simp] theorem shifted_tx (b : Option Nat) (n : Nat) (s : State) : (shifted b n s).tx = s.tx := rfl
@[simp] theorem shifted_lanes (b : Option Nat) (n : Nat) (s : State) : (shifted b n s).lanes = s.lanes := rfl
@[simp] theorem shifted_view (b : Option Nat) (n : Nat) (s : State) : (shifted b n s).view = s.view := rfl
@[simp] theorem shifted_timing (b : Option Nat) (n : Nat) (s : State) : (shifted b n s).timing = s.timing := rfl
@[simp] theorem shifted_carriers (b : Option Nat) (n : Nat) (s : State) : (shifted b n s).carriers = s.carriers := rfl
@[simp] theorem shifted_report (b : Option Nat) (n : Nat) (s : State) : (shifted b n s).report = s.report := rfl
@[simp] theorem shifted_pins (b : Option Nat) (n : Nat) (s : State) : (shifted b n s).pins = s.pins := rfl

/-! ### respond -/

@[simp] theorem respond_pending (code : Nat) (st : Status) (payload : List Byte) (s : State) : (respond code st payload s).pending = s.pending := rfl
@[simp] theorem respond_station (code : Nat) (st : Status) (payload : List Byte) (s : State) : (respond code st payload s).station = s.station := rfl
@[simp] theorem respond_store (code : Nat) (st : Status) (payload : List Byte) (s : State) : (respond code st payload s).store = s.store := rfl
@[simp] theorem respond_tx (code : Nat) (st : Status) (payload : List Byte) (s : State) : (respond code st payload s).tx = s.tx := rfl
@[simp] theorem respond_lanes (code : Nat) (st : Status) (payload : List Byte) (s : State) : (respond code st payload s).lanes = s.lanes := rfl
@[simp] theorem respond_view (code : Nat) (st : Status) (payload : List Byte) (s : State) : (respond code st payload s).view = s.view := rfl
@[simp] theorem respond_timing (code : Nat) (st : Status) (payload : List Byte) (s : State) : (respond code st payload s).timing = s.timing := rfl
@[simp] theorem respond_carriers (code : Nat) (st : Status) (payload : List Byte) (s : State) : (respond code st payload s).carriers = s.carriers := rfl
@[simp] theorem respond_report (code : Nat) (st : Status) (payload : List Byte) (s : State) : (respond code st payload s).report = s.report := rfl
@[simp] theorem respond_pins (code : Nat) (st : Status) (payload : List Byte) (s : State) : (respond code st payload s).pins = s.pins := rfl

/-! ### setLaneTiming -/

@[simp] theorem setLaneTiming_pending (l : Fin 9) (x : LaneTiming) (s : State) : (setLaneTiming l x s).pending = s.pending := rfl
@[simp] theorem setLaneTiming_station (l : Fin 9) (x : LaneTiming) (s : State) : (setLaneTiming l x s).station = s.station := rfl
@[simp] theorem setLaneTiming_store (l : Fin 9) (x : LaneTiming) (s : State) : (setLaneTiming l x s).store = s.store := rfl
@[simp] theorem setLaneTiming_tx (l : Fin 9) (x : LaneTiming) (s : State) : (setLaneTiming l x s).tx = s.tx := rfl
@[simp] theorem setLaneTiming_lanes (l : Fin 9) (x : LaneTiming) (s : State) : (setLaneTiming l x s).lanes = s.lanes := rfl
@[simp] theorem setLaneTiming_view (l : Fin 9) (x : LaneTiming) (s : State) : (setLaneTiming l x s).view = s.view := rfl
@[simp] theorem setLaneTiming_carriers (l : Fin 9) (x : LaneTiming) (s : State) : (setLaneTiming l x s).carriers = s.carriers := rfl
@[simp] theorem setLaneTiming_report (l : Fin 9) (x : LaneTiming) (s : State) : (setLaneTiming l x s).report = s.report := rfl
@[simp] theorem setLaneTiming_mport (l : Fin 9) (x : LaneTiming) (s : State) : (setLaneTiming l x s).mport = s.mport := rfl
@[simp] theorem setLaneTiming_pins (l : Fin 9) (x : LaneTiming) (s : State) : (setLaneTiming l x s).pins = s.pins := rfl

/-! ### setHold -/

@[simp] theorem setHold_pending (level : Bool) (s : State) : (setHold level s).pending = s.pending := rfl
@[simp] theorem setHold_station (level : Bool) (s : State) : (setHold level s).station = s.station := rfl
@[simp] theorem setHold_store (level : Bool) (s : State) : (setHold level s).store = s.store := rfl
@[simp] theorem setHold_tx (level : Bool) (s : State) : (setHold level s).tx = s.tx := rfl
@[simp] theorem setHold_lanes (level : Bool) (s : State) : (setHold level s).lanes = s.lanes := rfl
@[simp] theorem setHold_view (level : Bool) (s : State) : (setHold level s).view = s.view := rfl
@[simp] theorem setHold_timing (level : Bool) (s : State) : (setHold level s).timing = s.timing := rfl
@[simp] theorem setHold_carriers (level : Bool) (s : State) : (setHold level s).carriers = s.carriers := rfl
@[simp] theorem setHold_report (level : Bool) (s : State) : (setHold level s).report = s.report := rfl
@[simp] theorem setHold_mport (level : Bool) (s : State) : (setHold level s).mport = s.mport := rfl

/-! ### transmitterOff -/

@[simp] theorem transmitterOff_pending (p : Fin 4) (s : State) : (transmitterOff p s).pending = s.pending := rfl
@[simp] theorem transmitterOff_station (p : Fin 4) (s : State) : (transmitterOff p s).station = s.station := rfl
@[simp] theorem transmitterOff_store (p : Fin 4) (s : State) : (transmitterOff p s).store = s.store := rfl
@[simp] theorem transmitterOff_tx (p : Fin 4) (s : State) : (transmitterOff p s).tx = s.tx := rfl
@[simp] theorem transmitterOff_lanes (p : Fin 4) (s : State) : (transmitterOff p s).lanes = s.lanes := rfl
@[simp] theorem transmitterOff_view (p : Fin 4) (s : State) : (transmitterOff p s).view = s.view := rfl
@[simp] theorem transmitterOff_timing (p : Fin 4) (s : State) : (transmitterOff p s).timing = s.timing := rfl
@[simp] theorem transmitterOff_carriers (p : Fin 4) (s : State) : (transmitterOff p s).carriers = s.carriers := rfl
@[simp] theorem transmitterOff_report (p : Fin 4) (s : State) : (transmitterOff p s).report = s.report := rfl
@[simp] theorem transmitterOff_mport (p : Fin 4) (s : State) : (transmitterOff p s).mport = s.mport := rfl

/-! ### updateAttn -/

@[simp] theorem updateAttn_pending (s : State) : (updateAttn s).pending = s.pending := rfl
@[simp] theorem updateAttn_station (s : State) : (updateAttn s).station = s.station := rfl
@[simp] theorem updateAttn_store (s : State) : (updateAttn s).store = s.store := rfl
@[simp] theorem updateAttn_tx (s : State) : (updateAttn s).tx = s.tx := rfl
@[simp] theorem updateAttn_lanes (s : State) : (updateAttn s).lanes = s.lanes := rfl
@[simp] theorem updateAttn_view (s : State) : (updateAttn s).view = s.view := rfl
@[simp] theorem updateAttn_timing (s : State) : (updateAttn s).timing = s.timing := rfl
@[simp] theorem updateAttn_carriers (s : State) : (updateAttn s).carriers = s.carriers := rfl
@[simp] theorem updateAttn_mport (s : State) : (updateAttn s).mport = s.mport := rfl
@[simp] theorem updateAttn_pins (s : State) : (updateAttn s).pins = s.pins := rfl

/-! ### retakeSnapshots -/

@[simp] theorem retakeSnapshots_pending (s : State) : (retakeSnapshots s).pending = s.pending := rfl
@[simp] theorem retakeSnapshots_station (s : State) : (retakeSnapshots s).station = s.station := rfl
@[simp] theorem retakeSnapshots_store (s : State) : (retakeSnapshots s).store = s.store := rfl
@[simp] theorem retakeSnapshots_tx (s : State) : (retakeSnapshots s).tx = s.tx := rfl
@[simp] theorem retakeSnapshots_lanes (s : State) : (retakeSnapshots s).lanes = s.lanes := rfl
@[simp] theorem retakeSnapshots_view (s : State) : (retakeSnapshots s).view = s.view := rfl
@[simp] theorem retakeSnapshots_timing (s : State) : (retakeSnapshots s).timing = s.timing := rfl
@[simp] theorem retakeSnapshots_carriers (s : State) : (retakeSnapshots s).carriers = s.carriers := rfl
@[simp] theorem retakeSnapshots_mport (s : State) : (retakeSnapshots s).mport = s.mport := rfl
@[simp] theorem retakeSnapshots_pins (s : State) : (retakeSnapshots s).pins = s.pins := rfl

/-! ### takeSnapshot -/

@[simp] theorem takeSnapshot_pending (s : State) : (takeSnapshot s).pending = s.pending := rfl
@[simp] theorem takeSnapshot_station (s : State) : (takeSnapshot s).station = s.station := rfl
@[simp] theorem takeSnapshot_lanes (s : State) : (takeSnapshot s).lanes = s.lanes := rfl
@[simp] theorem takeSnapshot_view (s : State) : (takeSnapshot s).view = s.view := rfl
@[simp] theorem takeSnapshot_timing (s : State) : (takeSnapshot s).timing = s.timing := rfl
@[simp] theorem takeSnapshot_carriers (s : State) : (takeSnapshot s).carriers = s.carriers := rfl
@[simp] theorem takeSnapshot_report (s : State) : (takeSnapshot s).report = s.report := rfl
@[simp] theorem takeSnapshot_mport (s : State) : (takeSnapshot s).mport = s.mport := rfl
@[simp] theorem takeSnapshot_pins (s : State) : (takeSnapshot s).pins = s.pins := rfl

/-! ### releaseStep -/

@[simp] theorem releaseStep_pending (s : State) : (releaseStep s).pending = s.pending := rfl
@[simp] theorem releaseStep_station (s : State) : (releaseStep s).station = s.station := rfl
@[simp] theorem releaseStep_tx (s : State) : (releaseStep s).tx = s.tx := rfl
@[simp] theorem releaseStep_lanes (s : State) : (releaseStep s).lanes = s.lanes := rfl
@[simp] theorem releaseStep_view (s : State) : (releaseStep s).view = s.view := rfl
@[simp] theorem releaseStep_timing (s : State) : (releaseStep s).timing = s.timing := rfl
@[simp] theorem releaseStep_carriers (s : State) : (releaseStep s).carriers = s.carriers := rfl
@[simp] theorem releaseStep_report (s : State) : (releaseStep s).report = s.report := rfl
@[simp] theorem releaseStep_mport (s : State) : (releaseStep s).mport = s.mport := rfl
@[simp] theorem releaseStep_pins (s : State) : (releaseStep s).pins = s.pins := rfl

/-! ### dropIngress -/

@[simp] theorem dropIngress_pending (p : Fin 4) (s : State) : (dropIngress p s).pending = s.pending := rfl
@[simp] theorem dropIngress_station (p : Fin 4) (s : State) : (dropIngress p s).station = s.station := rfl
@[simp] theorem dropIngress_tx (p : Fin 4) (s : State) : (dropIngress p s).tx = s.tx := rfl
@[simp] theorem dropIngress_lanes (p : Fin 4) (s : State) : (dropIngress p s).lanes = s.lanes := rfl
@[simp] theorem dropIngress_view (p : Fin 4) (s : State) : (dropIngress p s).view = s.view := rfl
@[simp] theorem dropIngress_timing (p : Fin 4) (s : State) : (dropIngress p s).timing = s.timing := rfl
@[simp] theorem dropIngress_carriers (p : Fin 4) (s : State) : (dropIngress p s).carriers = s.carriers := rfl
@[simp] theorem dropIngress_report (p : Fin 4) (s : State) : (dropIngress p s).report = s.report := rfl
@[simp] theorem dropIngress_mport (p : Fin 4) (s : State) : (dropIngress p s).mport = s.mport := rfl
@[simp] theorem dropIngress_pins (p : Fin 4) (s : State) : (dropIngress p s).pins = s.pins := rfl

/-! ### wtrWork -/

@[simp] theorem wtrWork_pending (s : State) : (wtrWork s).pending = s.pending := rfl
@[simp] theorem wtrWork_station (s : State) : (wtrWork s).station = s.station := rfl
@[simp] theorem wtrWork_tx (s : State) : (wtrWork s).tx = s.tx := rfl
@[simp] theorem wtrWork_lanes (s : State) : (wtrWork s).lanes = s.lanes := rfl
@[simp] theorem wtrWork_view (s : State) : (wtrWork s).view = s.view := rfl
@[simp] theorem wtrWork_timing (s : State) : (wtrWork s).timing = s.timing := rfl
@[simp] theorem wtrWork_carriers (s : State) : (wtrWork s).carriers = s.carriers := rfl
@[simp] theorem wtrWork_report (s : State) : (wtrWork s).report = s.report := rfl
@[simp] theorem wtrWork_mport (s : State) : (wtrWork s).mport = s.mport := rfl
@[simp] theorem wtrWork_pins (s : State) : (wtrWork s).pins = s.pins := rfl

/-! ### lightingFirst -/

@[simp] theorem lightingFirst_pending (s : State) : (lightingFirst s).pending = s.pending := rfl
@[simp] theorem lightingFirst_station (s : State) : (lightingFirst s).station = s.station := rfl
@[simp] theorem lightingFirst_store (s : State) : (lightingFirst s).store = s.store := rfl
@[simp] theorem lightingFirst_tx (s : State) : (lightingFirst s).tx = s.tx := rfl
@[simp] theorem lightingFirst_lanes (s : State) : (lightingFirst s).lanes = s.lanes := rfl
@[simp] theorem lightingFirst_view (s : State) : (lightingFirst s).view = s.view := rfl
@[simp] theorem lightingFirst_timing (s : State) : (lightingFirst s).timing = s.timing := rfl
@[simp] theorem lightingFirst_report (s : State) : (lightingFirst s).report = s.report := rfl
@[simp] theorem lightingFirst_mport (s : State) : (lightingFirst s).mport = s.mport := rfl
@[simp] theorem lightingFirst_pins (s : State) : (lightingFirst s).pins = s.pins := rfl

/-! ### degradedWork -/

@[simp] theorem degradedWork_pending (s : State) : (degradedWork s).pending = s.pending := rfl
@[simp] theorem degradedWork_station (s : State) : (degradedWork s).station = s.station := rfl
@[simp] theorem degradedWork_store (s : State) : (degradedWork s).store = s.store := rfl
@[simp] theorem degradedWork_tx (s : State) : (degradedWork s).tx = s.tx := rfl
@[simp] theorem degradedWork_lanes (s : State) : (degradedWork s).lanes = s.lanes := rfl
@[simp] theorem degradedWork_view (s : State) : (degradedWork s).view = s.view := rfl
@[simp] theorem degradedWork_timing (s : State) : (degradedWork s).timing = s.timing := rfl
@[simp] theorem degradedWork_report (s : State) : (degradedWork s).report = s.report := rfl
@[simp] theorem degradedWork_mport (s : State) : (degradedWork s).mport = s.mport := rfl
@[simp] theorem degradedWork_pins (s : State) : (degradedWork s).pins = s.pins := rfl

/-! ### moveBoundary -/

@[simp] theorem moveBoundary_pending (len : Nat) (s : State) : (moveBoundary len s).pending = s.pending := rfl
@[simp] theorem moveBoundary_station (len : Nat) (s : State) : (moveBoundary len s).station = s.station := rfl
@[simp] theorem moveBoundary_store (len : Nat) (s : State) : (moveBoundary len s).store = s.store := rfl
@[simp] theorem moveBoundary_tx (len : Nat) (s : State) : (moveBoundary len s).tx = s.tx := rfl
@[simp] theorem moveBoundary_view (len : Nat) (s : State) : (moveBoundary len s).view = s.view := rfl
@[simp] theorem moveBoundary_report (len : Nat) (s : State) : (moveBoundary len s).report = s.report := rfl
@[simp] theorem moveBoundary_mport (len : Nat) (s : State) : (moveBoundary len s).mport = s.mport := rfl
@[simp] theorem moveBoundary_pins (len : Nat) (s : State) : (moveBoundary len s).pins = s.pins := rfl
@[simp] theorem moveBoundary_timing_selected (len : Nat) (s : State) : (moveBoundary len s).timing.selected = s.timing.selected := rfl
@[simp] theorem moveBoundary_timing_level (len : Nat) (s : State) : (moveBoundary len s).timing.level = s.timing.level := rfl
@[simp] theorem moveBoundary_timing_holdover (len : Nat) (s : State) : (moveBoundary len s).timing.holdover = s.timing.holdover := rfl
@[simp] theorem moveBoundary_timing_age (len : Nat) (s : State) : (moveBoundary len s).timing.age = s.timing.age := rfl
@[simp] theorem moveBoundary_timing_changed (len : Nat) (s : State) : (moveBoundary len s).timing.changed = s.timing.changed := rfl
@[simp] theorem moveBoundary_timing_refState (len : Nat) (s : State) : (moveBoundary len s).timing.refState = s.timing.refState := rfl
@[simp] theorem moveBoundary_timing_refRun (len : Nat) (s : State) : (moveBoundary len s).timing.refRun = s.timing.refRun := rfl
@[simp] theorem moveBoundary_timing_refMissing (len : Nat) (s : State) : (moveBoundary len s).timing.refMissing = s.timing.refMissing := rfl
@[simp] theorem moveBoundary_timing_phaseDue (len : Nat) (s : State) : (moveBoundary len s).timing.phaseDue = s.timing.phaseDue := rfl
@[simp] theorem moveBoundary_timing_lanes (len : Nat) (s : State) : (moveBoundary len s).timing.lanes = s.timing.lanes := rfl
@[simp] theorem moveBoundary_carriers_current (len : Nat) (s : State) : (moveBoundary len s).carriers.current = s.carriers.current := rfl
@[simp] theorem moveBoundary_carriers_previous (len : Nat) (s : State) : (moveBoundary len s).carriers.previous = s.carriers.previous := rfl

/-! ### lightingToClaim -/

@[simp] theorem lightingToClaim_pending (s : State) : (lightingToClaim s).pending = s.pending := rfl
@[simp] theorem lightingToClaim_station (s : State) : (lightingToClaim s).station = s.station := rfl
@[simp] theorem lightingToClaim_store (s : State) : (lightingToClaim s).store = s.store := rfl
@[simp] theorem lightingToClaim_lanes (s : State) : (lightingToClaim s).lanes = s.lanes := rfl
@[simp] theorem lightingToClaim_view (s : State) : (lightingToClaim s).view = s.view := rfl
@[simp] theorem lightingToClaim_timing (s : State) : (lightingToClaim s).timing = s.timing := rfl
@[simp] theorem lightingToClaim_report (s : State) : (lightingToClaim s).report = s.report := rfl
@[simp] theorem lightingToClaim_mport (s : State) : (lightingToClaim s).mport = s.mport := rfl
@[simp] theorem lightingToClaim_pins (s : State) : (lightingToClaim s).pins = s.pins := rfl

/-! ### frameOver and judgeFrame -/

@[simp] theorem frameOver_state (behind : Bool) (p : CarrierPort) : (frameOver behind p).state = p.state := by
  cases behind <;> rfl
@[simp] theorem frameOver_stagger (behind : Bool) (p : CarrierPort) : (frameOver behind p).stagger = p.stagger := by
  cases behind <;> rfl
@[simp] theorem frameOver_framer (behind : Bool) (p : CarrierPort) : (frameOver behind p).framer = p.framer := by
  cases behind <;> rfl
@[simp] theorem frameOver_expected (behind : Bool) (p : CarrierPort) : (frameOver behind p).expected = p.expected := by
  cases behind <;> rfl
@[simp] theorem frameOver_confirm (behind : Bool) (p : CarrierPort) : (frameOver behind p).confirm = p.confirm := by
  cases behind <;> rfl
@[simp] theorem frameOver_missing (behind : Bool) (p : CarrierPort) : (frameOver behind p).missing = p.missing := by
  cases behind <;> rfl
@[simp] theorem frameOver_roundErrors (behind : Bool) (p : CarrierPort) : (frameOver behind p).roundErrors = p.roundErrors := by
  cases behind <;> rfl
@[simp] theorem frameOver_degraded (behind : Bool) (p : CarrierPort) : (frameOver behind p).degraded = p.degraded := by
  cases behind <;> rfl
@[simp] theorem frameOver_errorTotal (behind : Bool) (p : CarrierPort) : (frameOver behind p).errorTotal = p.errorTotal := by
  cases behind <;> rfl
@[simp] theorem frameOver_farEnd (behind : Bool) (p : CarrierPort) : (frameOver behind p).farEnd = p.farEnd := by
  cases behind <;> rfl
@[simp] theorem judgeFrame_state (f : CarrierFrame) (p : CarrierPort) : (judgeFrame f p).state = p.state := by
  unfold judgeFrame; split <;> rfl
@[simp] theorem judgeFrame_stagger (f : CarrierFrame) (p : CarrierPort) : (judgeFrame f p).stagger = p.stagger := by
  unfold judgeFrame; split <;> rfl
@[simp] theorem judgeFrame_framer (f : CarrierFrame) (p : CarrierPort) : (judgeFrame f p).framer = p.framer := by
  unfold judgeFrame; split <;> rfl
@[simp] theorem judgeFrame_expected (f : CarrierFrame) (p : CarrierPort) : (judgeFrame f p).expected = p.expected := by
  unfold judgeFrame; split <;> rfl
@[simp] theorem judgeFrame_confirm (f : CarrierFrame) (p : CarrierPort) : (judgeFrame f p).confirm = p.confirm := by
  unfold judgeFrame; split <;> rfl
@[simp] theorem judgeFrame_missing (f : CarrierFrame) (p : CarrierPort) : (judgeFrame f p).missing = p.missing := by
  unfold judgeFrame; split <;> rfl
@[simp] theorem judgeFrame_degraded (f : CarrierFrame) (p : CarrierPort) : (judgeFrame f p).degraded = p.degraded := by
  unfold judgeFrame; split <;> rfl
@[simp] theorem judgeFrame_receiving (f : CarrierFrame) (p : CarrierPort) : (judgeFrame f p).receiving = p.receiving := by
  unfold judgeFrame; split <;> rfl
@[simp] theorem judgeFrame_receivingOld (f : CarrierFrame) (p : CarrierPort) : (judgeFrame f p).receivingOld = p.receivingOld := by
  unfold judgeFrame; split <;> rfl

/-! ### beginFrame -/

@[simp] theorem beginFrame_pending (s : State) : (beginFrame s).pending = s.pending := rfl
@[simp] theorem beginFrame_station (s : State) : (beginFrame s).station = s.station := rfl
@[simp] theorem beginFrame_store (s : State) : (beginFrame s).store = s.store := rfl
@[simp] theorem beginFrame_view (s : State) : (beginFrame s).view = s.view := rfl
@[simp] theorem beginFrame_report (s : State) : (beginFrame s).report = s.report := rfl
@[simp] theorem beginFrame_mport (s : State) : (beginFrame s).mport = s.mport := rfl
@[simp] theorem beginFrame_pins (s : State) : (beginFrame s).pins = s.pins := rfl

/-! ### noted -/

@[simp] theorem noted_pending (s t : State) : (noted s t).pending = t.pending := by
  unfold noted; split <;> rfl
@[simp] theorem noted_station (s t : State) : (noted s t).station = t.station := by
  unfold noted; split <;> rfl
@[simp] theorem noted_store (s t : State) : (noted s t).store = t.store := by
  unfold noted; split <;> rfl
@[simp] theorem noted_tx (s t : State) : (noted s t).tx = t.tx := by
  unfold noted; split <;> rfl
@[simp] theorem noted_lanes (s t : State) : (noted s t).lanes = t.lanes := by
  unfold noted; split <;> rfl
@[simp] theorem noted_view (s t : State) : (noted s t).view = t.view := by
  unfold noted; split <;> rfl
@[simp] theorem noted_timing (s t : State) : (noted s t).timing = t.timing := by
  unfold noted; split <;> rfl
@[simp] theorem noted_carriers (s t : State) : (noted s t).carriers = t.carriers := by
  unfold noted; split <;> rfl
@[simp] theorem noted_mport (s t : State) : (noted s t).mport = t.mport := by
  unfold noted; split <;> rfl
@[simp] theorem noted_pins (s t : State) : (noted s t).pins = t.pins := by
  unfold noted; split <;> rfl

/-! ### finish -/

@[simp] theorem finish_pending (s t : State) : (finish s t).pending = t.pending := noted_pending s t
@[simp] theorem finish_station (s t : State) : (finish s t).station = t.station := noted_station s t
@[simp] theorem finish_store (s t : State) : (finish s t).store = t.store := noted_store s t
@[simp] theorem finish_tx (s t : State) : (finish s t).tx = t.tx := noted_tx s t
@[simp] theorem finish_lanes (s t : State) : (finish s t).lanes = t.lanes := noted_lanes s t
@[simp] theorem finish_view (s t : State) : (finish s t).view = t.view := noted_view s t
@[simp] theorem finish_timing (s t : State) : (finish s t).timing = t.timing := noted_timing s t
@[simp] theorem finish_carriers (s t : State) : (finish s t).carriers = t.carriers := noted_carriers s t
@[simp] theorem finish_mport (s t : State) : (finish s t).mport = t.mport := noted_mport s t
@[simp] theorem finish_pins (s t : State) : (finish s t).pins = t.pins := noted_pins s t

/-! ### What an update writes -/

@[simp] theorem setLane_same (l : Fin 9) (x : LaneRx) (s : State) : (setLane l x s).lanes[l] = x := by simp [setLane]

theorem setLane_other (l m : Fin 9) (x : LaneRx) (s : State) (h : l ≠ m) : (setLane l x s).lanes[m] = s.lanes[m] := by
  have : l.val ≠ m.val := fun e => h (Fin.ext e)
  simp [setLane, this]

@[simp] theorem setPort_same (p : Fin 4) (x : CarrierPort) (s : State) : (setPort p x s).carriers.ports[p] = x := by
  simp [setPort]

theorem setPort_other (p q : Fin 4) (x : CarrierPort) (s : State) (h : p ≠ q) :
    (setPort p x s).carriers.ports[q] = s.carriers.ports[q] := by
  have : p.val ≠ q.val := fun e => h (Fin.ext e)
  simp [setPort, this]

@[simp] theorem setPort_current (p : Fin 4) (x : CarrierPort) (s : State) :
    (setPort p x s).carriers.current = s.carriers.current := rfl

@[simp] theorem setPort_previous (p : Fin 4) (x : CarrierPort) (s : State) :
    (setPort p x s).carriers.previous = s.carriers.previous := rfl

@[simp] theorem setAdapter_same (n : Fin 96) (a : Option Adapter) (s : State) : (setAdapter n a s).store.pool[n] = a := by
  simp [setAdapter]

theorem setAdapter_other (n m : Fin 96) (a : Option Adapter) (s : State) (h : n ≠ m) :
    (setAdapter n a s).store.pool[m] = s.store.pool[m] := by
  have : n.val ≠ m.val := fun e => h (Fin.ext e)
  simp [setAdapter, this]

@[simp] theorem setAdapter_freeStore (n : Fin 96) (a : Option Adapter) (s : State) :
    (setAdapter n a s).store.freeStore = s.store.freeStore := rfl

@[simp] theorem setAdapter_sources (n : Fin 96) (a : Option Adapter) (s : State) :
    (setAdapter n a s).store.sources = s.store.sources := rfl

@[simp] theorem setAdapter_sinks (n : Fin 96) (a : Option Adapter) (s : State) :
    (setAdapter n a s).store.sinks = s.store.sinks := rfl

@[simp] theorem setAdapter_tileMap (n : Fin 96) (a : Option Adapter) (s : State) :
    (setAdapter n a s).store.tileMap = s.store.tileMap := rfl

@[simp] theorem setAdapter_queue (n : Fin 96) (a : Option Adapter) (s : State) :
    (setAdapter n a s).store.queue = s.store.queue := rfl

@[simp] theorem updateSource_pool (tag : Nat) (f : Source → Source) (s : State) :
    (updateSource tag f s).store.pool = s.store.pool := rfl

@[simp] theorem updateSource_freeStore (tag : Nat) (f : Source → Source) (s : State) :
    (updateSource tag f s).store.freeStore = s.store.freeStore := rfl

@[simp] theorem updateSource_sinks (tag : Nat) (f : Source → Source) (s : State) :
    (updateSource tag f s).store.sinks = s.store.sinks := rfl

@[simp] theorem updateSource_tileMap (tag : Nat) (f : Source → Source) (s : State) :
    (updateSource tag f s).store.tileMap = s.store.tileMap := rfl

@[simp] theorem updateSource_queue (tag : Nat) (f : Source → Source) (s : State) :
    (updateSource tag f s).store.queue = s.store.queue := rfl

@[simp] theorem updateSink_pool (tag : Nat) (f : Sink → Sink) (s : State) :
    (updateSink tag f s).store.pool = s.store.pool := rfl

@[simp] theorem updateSink_freeStore (tag : Nat) (f : Sink → Sink) (s : State) :
    (updateSink tag f s).store.freeStore = s.store.freeStore := rfl

@[simp] theorem updateSink_sources (tag : Nat) (f : Sink → Sink) (s : State) :
    (updateSink tag f s).store.sources = s.store.sources := rfl

@[simp] theorem updateSink_tileMap (tag : Nat) (f : Sink → Sink) (s : State) :
    (updateSink tag f s).store.tileMap = s.store.tileMap := rfl

@[simp] theorem updateSink_queue (tag : Nat) (f : Sink → Sink) (s : State) :
    (updateSink tag f s).store.queue = s.store.queue := rfl

end Sys2Proof.Machine
end

