-- ==== Sys2Proof/Laws/Only.lean ====
section
/-! SUPPORT. Which parts of the state the shared operations can change: each operation equals its argument but for the
parts named. -/

namespace Sys2Proof.Machine

/-- `t` is `s` but for the order store. -/
def OnlyStore (s t : State) : Prop := t = { s with store := t.store }

/-- `t` is `s` but for the order store and the report unit. -/
def OnlyOrders (s t : State) : Prop := t = { s with store := t.store, report := t.report }

/-- `t` is `s` but for the timing unit. -/
def OnlyTiming (s t : State) : Prop := t = { s with timing := t.timing }

/-- `t` is `s` but for the order store and the peer view. -/
def OnlyView (s t : State) : Prop := t = { s with store := t.store, view := t.view }

theorem OnlyStore.refl (s : State) : OnlyStore s s := rfl

theorem OnlyStore.trans {s t u : State} (h : OnlyStore s t) (k : OnlyStore t u) : OnlyStore s u := by
  unfold OnlyStore at *; rw [k, h]

theorem OnlyOrders.trans {s t u : State} (h : OnlyOrders s t) (k : OnlyOrders t u) : OnlyOrders s u := by
  unfold OnlyOrders at *; rw [k, h]

theorem OnlyTiming.trans {s t u : State} (h : OnlyTiming s t) (k : OnlyTiming t u) : OnlyTiming s u := by
  unfold OnlyTiming at *; rw [k, h]

theorem OnlyView.trans {s t u : State} (h : OnlyView s t) (k : OnlyView t u) : OnlyView s u := by
  unfold OnlyView at *; rw [k, h]

theorem OnlyStore.orders {s t : State} (h : OnlyStore s t) : OnlyOrders s t := by
  unfold OnlyStore OnlyOrders at *; rw [h]

theorem OnlyStore.toView {s t : State} (h : OnlyStore s t) : OnlyView s t := by
  unfold OnlyStore OnlyView at *; rw [h]

theorem foldl_onlyStore {α : Type} (f : State → α → State) (hf : ∀ s a, OnlyStore s (f s a)) (l : List α) :
    ∀ s, OnlyStore s (l.foldl f s) := by
  induction l with
  | nil => exact OnlyStore.refl
  | cons a l ih => exact fun s => (hf s a).trans (ih _)

theorem foldl_onlyOrders {α : Type} (f : State → α → State) (hf : ∀ s a, OnlyOrders s (f s a)) (l : List α) :
    ∀ s, OnlyOrders s (l.foldl f s) := by
  induction l with
  | nil => exact fun _ => rfl
  | cons a l ih => exact fun s => (hf s a).trans (ih _)

theorem foldl_onlyTiming {α : Type} (f : State → α → State) (hf : ∀ s a, OnlyTiming s (f s a)) (l : List α) :
    ∀ s, OnlyTiming s (l.foldl f s) := by
  induction l with
  | nil => exact fun _ => rfl
  | cons a l ih => exact fun s => (hf s a).trans (ih _)

/-! ### Comparisons -/

/-- A comparison changes the report unit alone (R183). -/
theorem noted_onlyOrders (s t : State) : OnlyOrders t (noted s t) := by unfold noted; split <;> rfl

theorem event_onlyOrders (f : State → State) (s : State) (h : OnlyOrders s (f s)) : OnlyOrders s (event f s) :=
  h.trans (noted_onlyOrders _ _)

/-! ### Placement -/

theorem enqueue_onlyStore (tag : Nat) (s : State) : OnlyStore s (enqueue tag s) := by
  unfold enqueue OnlyStore; dsimp only; split <;> rfl

theorem dequeue_onlyStore (tag : Nat) (s : State) : OnlyStore s (dequeue tag s) := rfl

theorem updateSource_onlyStore (tag : Nat) (f : Source → Source) (s : State) : OnlyStore s (updateSource tag f s) := rfl

theorem updateSink_onlyStore (tag : Nat) (f : Sink → Sink) (s : State) : OnlyStore s (updateSink tag f s) := rfl

/-- An evaluation of a source changes the order store alone (R65). -/
theorem evalSource_onlyStore (tag : Nat) (s : State) : OnlyStore s (evalSource tag s) := by
  unfold evalSource; split
  · rfl
  · dsimp only; split
    · exact (updateSource_onlyStore tag _ s).trans (enqueue_onlyStore tag _)
    · exact (updateSource_onlyStore tag _ s).trans (dequeue_onlyStore tag _)
    · exact (updateSource_onlyStore tag _ s).trans (updateSource_onlyStore tag _ _)
    · exact updateSource_onlyStore tag _ s

theorem noticePlacement_onlyStore (o n : Option Manifest) (s : State) : OnlyStore s (noticePlacement o n s) := by
  unfold noticePlacement; exact foldl_onlyStore _ (fun s a => evalSource_onlyStore a s) _ _

theorem freeRecord_onlyStore (s : State) (r : Source) : OnlyStore s (freeRecord s r) := by
  unfold freeRecord; dsimp only; split
  · rfl
  · refine OnlyStore.trans ?_ (evalSource_onlyStore _ _); rfl

theorem placeOne_onlyStore (s : State) (tag : Nat) : OnlyStore s (placeOne s tag) := by
  unfold placeOne; split
  · rfl
  · split <;> rfl

/-- The round-start pass changes the order store alone (R68). -/
theorem placementPass_onlyStore (s : State) : OnlyStore s (placementPass s) := by
  have h1 : OnlyStore s (freeingStep s) := foldl_onlyStore _ freeRecord_onlyStore _ _
  have h2 : OnlyStore (freeingStep s) (releaseStep (freeingStep s)) := rfl
  have h3 : ∀ u, OnlyStore u (placementStep u) := by
    intro u; unfold placementStep; split
    · exact foldl_onlyStore _ placeOne_onlyStore _ _
    · rfl
  exact (h1.trans h2).trans (h3 _)

/-! ### Selection and the Peer View -/

theorem evalSink_onlyStore (judge : Bool) (s : State) (tag : Nat) : OnlyStore s (evalSink judge s tag) := rfl

theorem noticeSelector_onlyStore (o n : Option Manifest) (s : State) : OnlyStore s (noticeSelector o n s) :=
  foldl_onlyStore _ (evalSink_onlyStore true) _ _

theorem exitSelector_onlyStore (l : Fin 9) (s : State) : OnlyStore s (exitSelector l s) :=
  foldl_onlyStore _ (evalSink_onlyStore true) _ _

theorem evalEverySink_onlyStore (s : State) : OnlyStore s (evalEverySink s) :=
  foldl_onlyStore _ (evalSink_onlyStore false) _ _

/-- A change of a lane record changes the view and the order store alone (R54 to R59). -/
theorem setView_onlyView (l : Fin 9) (v : LaneView) (arrived : Bool) (s : State) : OnlyView s (setView l v arrived s) := by
  unfold setView; dsimp only
  have h0 : OnlyView s { s with view := s.view.set l v } := rfl
  split
  · exact h0.trans ((noticePlacement_onlyStore _ _ _).trans (noticeSelector_onlyStore _ _ _)).toView
  · exact h0

theorem viewHeader_onlyView (l : Fin 9) (h : Heard) (slots : List Slot) (e : Bool) (s : State) :
    OnlyView s (viewHeader l h slots e s) := setView_onlyView _ _ _ _

theorem viewUnheard_onlyView (l : Fin 9) (s : State) : OnlyView s (viewUnheard l s) := setView_onlyView _ _ _ _

theorem viewExit_onlyView (l : Fin 9) (s : State) : OnlyView s (viewExit l s) := setView_onlyView _ _ _ _

/-! ### Timing -/

theorem reselect_onlyTiming (s : State) : OnlyTiming s (reselect s) := by
  unfold reselect; dsimp only; split <;> rfl

theorem judgeLane_onlyTiming (l : Fin 9) (s : State) : OnlyTiming s (judgeLane l s) := by
  unfold judgeLane; dsimp only; split
  · rfl
  · refine OnlyTiming.trans ?_ (reselect_onlyTiming _); rfl

theorem timingHeader_onlyTiming (l : Fin 9) (s : State) : OnlyTiming s (timingHeader l s) := by
  unfold timingHeader; dsimp only; split
  · refine (judgeLane_onlyTiming l s).trans ?_; rfl
  · exact judgeLane_onlyTiming l s

theorem timingExit_onlyTiming (l : Fin 9) (s : State) : OnlyTiming s (timingExit l s) := by
  unfold timingExit; refine OnlyTiming.trans ?_ (judgeLane_onlyTiming _ _); rfl

/-- The Timing Unit's work at a round start changes the timing unit alone (R161). -/
theorem timingWork_onlyTiming (s : State) : OnlyTiming s (timingWork s) := by
  have h1 : OnlyTiming s (countLanes s) := rfl
  have h2 : OnlyTiming (countLanes s) (judgeLanes (countLanes s)) :=
    foldl_onlyTiming _ (fun s l => judgeLane_onlyTiming l s) _ _
  have h3 : ∀ u : State, OnlyTiming u { u with timing := ageStep u.timing } := fun _ => rfl
  exact ((h1.trans h2).trans (reselect_onlyTiming _)).trans (h3 _)

/-! ### Health and the adapters -/

theorem healthSource_onlyStore (tag : Nat) (d : Detections) (s : State) : OnlyStore s (healthSource tag d s) := by
  unfold healthSource; split
  · rfl
  · dsimp only; split
    · exact (updateSource_onlyStore _ _ _).trans (evalSource_onlyStore _ _)
    · rfl

theorem healthOf_onlyStore (a : Adapter) (d : Detections) (s : State) : OnlyStore s (healthOf a d s) := by
  unfold healthOf; split
  · rfl
  · exact healthSource_onlyStore _ _ _

/-- A span end changes the order store and the report unit alone (R112, R183). -/
theorem spanEndOf_onlyOrders (n : Fin 96) (s : State) : OnlyOrders s (spanEndOf n s) := by
  unfold spanEndOf; split
  · rfl
  · rename_i a _
    split
    · rfl
    · rename_i e _
      have h : OnlyStore s (setAdapter n (some (a.endSpan e)) s) := rfl
      exact (h.trans (healthOf_onlyStore a _ _)).orders.trans (noted_onlyOrders _ _)

theorem spanEndAt_onlyOrders (n : Option (Fin 96)) (s : State) : OnlyOrders s (spanEndAt n s) := by
  unfold spanEndAt; split
  · rfl
  · exact spanEndOf_onlyOrders _ _

/-- An arrival changes the order store alone (R103). -/
theorem arriveAt_onlyStore (n : Fin 96) (b : List Block) (s : State) : OnlyStore s (arriveAt n b s) := by
  unfold arriveAt; split <;> rfl

theorem noteQuality_onlyOrders (s : State) (tag : Nat) : OnlyOrders s (noteQuality s tag) := by
  unfold noteQuality; split <;> rfl

/-- A source's departure changes the order store and the report unit alone (R105, R126). -/
theorem departSource_onlyOrders (spans : List (Fin 96)) (acc : State × List HandOver) (tag : Nat) :
    OnlyOrders acc.1 (departSource spans acc tag).1 := by
  unfold departSource; split
  · rfl
  · rename_i n _
    have h := spanEndOf_onlyOrders n acc.1
    dsimp only; split
    · rename_i a r _ _
      have h2 : OnlyOrders (spanEndOf n acc.1) (setAdapter n (some a.depart.adapter) (spanEndOf n acc.1)) := rfl
      have h3 := noteQuality_onlyOrders (setAdapter n (some a.depart.adapter) (spanEndOf n acc.1)) tag
      refine (h.trans (h2.trans h3)).trans ?_
      split
      · rfl
      · exact spanEndOf_onlyOrders n _
    · exact h

theorem sourceDepartures_onlyOrders (spans : List (Fin 96)) (s : State) : OnlyOrders s (sourceDepartures spans s).1 := by
  unfold sourceDepartures
  generalize s.store.sources.map (·.tag) = l
  suffices ∀ acc : State × List HandOver, OnlyOrders acc.1 (l.foldl (departSource spans) acc).1 from this (s, [])
  induction l with
  | nil => exact fun _ => rfl
  | cons a l ih => exact fun acc => (departSource_onlyOrders spans acc a).trans (ih _)

theorem deliver_onlyStore (s : State) (e : Sink × Option (Quality × List Block)) : OnlyStore s (deliver s e) := by
  unfold deliver; dsimp only; split
  · exact (updateSink_onlyStore _ _ _).trans (arriveAt_onlyStore _ _ _)
  · rfl

end Sys2Proof.Machine
end

