-- ==== Sys2Proof/Laws/Ops.lean ====
section
/-! SUPPORT. What the shared operations do, said once: maps and counters, lookups and updates of one record, the envelope of a
management request, span ends, fragments, and the end of a command. -/

namespace Sys2Proof.Machine

/-! ### Counters, records and maps -/

theorem satInc_le (top n : Nat) : satInc top n ≤ top := Nat.min_le_left _ _

theorem satInc_of_lt {top n : Nat} (h : n < top) : satInc top n = n + 1 := by unfold satInc; omega

theorem set_same {α : Type} {n : Nat} (v : Vector α n) (i : Fin n) : v.set i v[i] = v := by
  ext j hj; simp

theorem setLane_same_lane (l : Fin 9) (s : State) : setLane l s.lanes[l] s = s := by
  unfold setLane; rw [show s.lanes.set l s.lanes[l] = s.lanes from set_same s.lanes l]

theorem setPort_same_port (p : Fin 4) (s : State) : setPort p s.carriers.ports[p] s = s := by
  unfold setPort; rw [show s.carriers.ports.set p s.carriers.ports[p] = s.carriers.ports from set_same s.carriers.ports p]

/-- A position of a map after `setRange`. -/
theorem setRange_getElem {n : Nat} (m : Vector (Option Nat) n) (first c : Nat) (v : Option Nat) (i : Nat) (h : i < n) :
    (setRange m first c v)[i] = if first ≤ i ∧ i < first + c then v else m[i] := by
  simp [setRange]

/-- A range is free when each of its positions exists and is free. -/
theorem rangeFree_iff {n : Nat} (m : Vector (Option Nat) n) (first c : Nat) :
    rangeFree m first c = true ↔ ∀ t, first ≤ t → t < first + c → m[t]? = some none := by
  simp only [rangeFree, List.all_eq_true, List.mem_range, decide_eq_true_eq]
  constructor
  · intro h t h1 h2
    have := h (t - first) (by omega)
    rwa [show first + (t - first) = t by omega] at this
  · intro h j hj
    exact h (first + j) (by omega) (by omega)

/-- A range is bound when one of its positions is. -/
theorem rangeBound_iff {n : Nat} (m : Vector (Option Nat) n) (first c : Nat) :
    rangeBound m first c = true ↔ ∃ j < c, ∃ o, m[first + j]? = some (some o) := by
  simp only [rangeBound, List.any_eq_true, List.mem_range]
  constructor
  · rintro ⟨j, hj, h⟩
    refine ⟨j, hj, ?_⟩
    split at h
    · exact ⟨_, ‹_›⟩
    · cases h
  · rintro ⟨j, hj, o, h⟩
    exact ⟨j, hj, by simp [h]⟩

/-- A start that `lowestStart` finds is a multiple of the class with every tile of its run free. -/
theorem lowestStart_free {m : Vector (Option Nat) 160} {c first : Nat} (h : lowestStart m c = some first) :
    first % c = 0 ∧ ∀ t, first ≤ t → t < first + c → m[t]? = some none := by
  unfold lowestStart at h
  obtain ⟨i, hi, rfl⟩ := Option.map_eq_some_iff.mp h
  exact ⟨Nat.mul_mod_left i c, (rangeFree_iff m _ c).mp (by simpa using List.find?_some hi)⟩

/-! ### Orders -/

/-- An update of one source leaves tags and their order as they were, if the update does. -/
theorem updateSource_tags (tag : Nat) (f : Source → Source) (hf : ∀ r, (f r).tag = r.tag) (s : State) :
    (updateSource tag f s).store.sources.map (·.tag) = s.store.sources.map (·.tag) := by
  simp only [updateSource, List.map_map]
  apply List.map_congr_left
  intro r _
  simp only [Function.comp]
  split <;> simp [hf]

theorem updateSink_tags (tag : Nat) (f : Sink → Sink) (hf : ∀ k, (f k).tag = k.tag) (s : State) :
    (updateSink tag f s).store.sinks.map (·.tag) = s.store.sinks.map (·.tag) := by
  simp only [updateSink, List.map_map]
  apply List.map_congr_left
  intro k _
  simp only [Function.comp]
  split <;> simp [hf]

/-- A visible source is a record of the table with that tag, not removed. -/
theorem visibleSource_some {st : OrderStore} {tag : Nat} {r : Source} (h : visibleSource st tag = some r) :
    r ∈ st.sources ∧ r.tag = tag ∧ r.removed = false := by
  unfold visibleSource at h
  have hp := List.find?_some h
  simp only [Bool.and_eq_true, decide_eq_true_eq, Bool.not_eq_true'] at hp
  exact ⟨List.mem_of_find?_eq_some h, hp.1, hp.2⟩

theorem findSink_some {st : OrderStore} {tag : Nat} {k : Sink} (h : findSink st tag = some k) :
    k ∈ st.sinks ∧ k.tag = tag := by
  unfold findSink at h
  exact ⟨List.mem_of_find?_eq_some h, by simpa using List.find?_some h⟩

/-- Of records with unique tags, the update of one reaches that record alone. -/
theorem map_tag_eq {l : List Source} (h : (l.map (·.tag)).Nodup) {r : Source} (hr : r ∈ l) (f : Source → Source) :
    l.map (fun e => if e.tag = r.tag then f e else e) = l.map (fun e => if e.tag = r.tag then f r else e) := by
  apply List.map_congr_left
  intro e he
  split
  · rename_i ht
    rw [List.inj_on_of_nodup_map h he hr ht]
  · rfl

/-! ### The management port -/

/-- A request that meets COLD is discarded: only the bytes on MSO show it (R178). -/
theorem request_spoiled {code : Byte} {len : Option Nat} {x : Transfer} {body : List Byte → State → State} {s : State}
    (h : s.station.state = .cold ∨ x.spoiled ≠ none) :
    request code len x body s = finish s (shifted x.spoiled (transferSize x) s) := by
  unfold request; rcases h with h | h <;> simp [h, Option.isSome_iff_ne_none]

/-- A request with a bad sum is answered CHECK (R180). -/
theorem request_badSum {code : Byte} {len : Option Nat} {x : Transfer} {body : List Byte → State → State} {s : State}
    (h : s.station.state ≠ .cold) (w : x.spoiled = none) (b : requestSumGood code x = false) :
    request code len x body s = finish s (respond code.toNat .check [] (shifted x.spoiled (transferSize x) s)) := by
  unfold request; simp [h, w, b]

/-- A request of an undefined code or of another length than its command's is answered FORM (R180). -/
theorem request_badForm {code : Byte} {len : Option Nat} {x : Transfer} {body : List Byte → State → State} {s : State}
    (h : s.station.state ≠ .cold) (w : x.spoiled = none) (b : requestSumGood code x = true)
    (l : len ≠ some x.params.length) :
    request code len x body s = finish s (respond code.toNat .form [] (shifted x.spoiled (transferSize x) s)) := by
  unfold request
  cases len with
  | none => simp [h, w, b]
  | some n => simp [h, w, b, show ¬ x.params.length = n from fun e => l (by rw [e])]

/-- A request that passes the checks of R180 is executed. -/
theorem request_runs {code : Byte} {x : Transfer} {body : List Byte → State → State} {s : State}
    (h : s.station.state ≠ .cold) (w : x.spoiled = none) (b : requestSumGood code x = true) :
    request code (some x.params.length) x body s = finish s (body x.params (shifted x.spoiled (transferSize x) s)) := by
  unfold request; simp [h, w, b]

/-! ### Adapters -/

/-- A span end does nothing to a record of which no span has ended. -/
theorem spanEndOf_none {n : Fin 96} {s : State} (h : ∀ a, s.store.pool[n] = some a → a.ended = none) :
    spanEndOf n s = s := by
  unfold spanEndOf
  split
  · rfl
  · rw [h _ ‹_›]

/-- A span end of a record of which a span has ended (R112, R113). -/
theorem spanEndOf_some {n : Fin 96} {s : State} {a : Adapter} {e : EndedSpan} (h : s.store.pool[n] = some a)
    (he : a.ended = some e) :
    spanEndOf n s = noted s (healthOf a (a.outcome e) (setAdapter n (some (a.endSpan e)) s)) := by
  unfold spanEndOf
  rw [h]
  dsimp only
  rw [he]

/-- An arrival keeps the order, kind and constants of its record. -/
theorem arrive_keeps (a : Adapter) (blocks : List Block) :
    (a.arrive blocks).tag = a.tag ∧ (a.arrive blocks).kind = a.kind ∧ (a.arrive blocks).cls = a.cls ∧
      (a.arrive blocks).rnom = a.rnom ∧ (a.arrive blocks).k = a.k ∧ (a.arrive blocks).spanCount = a.spanCount ∧
      (a.arrive blocks).ended = a.ended :=
  ⟨rfl, rfl, rfl, rfl, rfl, rfl, rfl⟩

/-- The first four steps of a departure keep the order, kind and constants of the record, its estimate and its span. -/
theorem release_keeps (a : Adapter) :
    a.release.adapter.tag = a.tag ∧ a.release.adapter.kind = a.kind ∧ a.release.adapter.cls = a.cls ∧
      a.release.adapter.rnom = a.rnom ∧ a.release.adapter.k = a.k ∧ a.release.adapter.rate = a.rate ∧
      a.release.adapter.arrived = a.arrived ∧ a.release.adapter.spanCount = a.spanCount ∧
      a.release.adapter.ended = a.ended := by
  unfold Adapter.release
  dsimp only
  split <;> exact ⟨rfl, rfl, rfl, rfl, rfl, rfl, rfl, rfl, rfl⟩

/-- The fifth step keeps all but the fields of the span. -/
theorem stepSpan_keeps (a : Adapter) :
    a.stepSpan = { a with spanCount := a.stepSpan.spanCount, arrived := a.stepSpan.arrived, dets := a.stepSpan.dets
                          ended := a.stepSpan.ended } := by
  unfold Adapter.stepSpan; split <;> rfl

/-- The span frame count stays below S (R114). -/
theorem stepSpan_count (a : Adapter) (h : a.spanCount < a.span) : a.stepSpan.spanCount < a.span := by
  unfold Adapter.stepSpan; split
  · exact Nat.lt_of_le_of_lt (Nat.zero_le _) h
  · change a.spanCount + 1 < a.span; omega

/-- A departure keeps the order, kind and constants of its record, and its estimate (R105 to R112). -/
theorem depart_keeps (a : Adapter) :
    a.depart.adapter.tag = a.tag ∧ a.depart.adapter.kind = a.kind ∧ a.depart.adapter.cls = a.cls ∧
      a.depart.adapter.rnom = a.rnom ∧ a.depart.adapter.k = a.k ∧ a.depart.adapter.rate = a.rate := by
  obtain ⟨h1, h2, h3, h4, h5, h6, -⟩ := release_keeps a
  unfold Adapter.depart
  dsimp only
  rw [stepSpan_keeps]
  exact ⟨h1, h2, h3, h4, h5, h6⟩

/-- A span end keeps the order, kind and constants of its record, its depth, phase and state, and the span in progress
(R113). -/
theorem endSpan_keeps (a : Adapter) (e : EndedSpan) :
    (a.endSpan e).tag = a.tag ∧ (a.endSpan e).kind = a.kind ∧ (a.endSpan e).cls = a.cls ∧ (a.endSpan e).rnom = a.rnom ∧
      (a.endSpan e).k = a.k ∧ (a.endSpan e).store = a.store ∧ (a.endSpan e).phase = a.phase ∧
      (a.endSpan e).running = a.running ∧ (a.endSpan e).spanCount = a.spanCount ∧ (a.endSpan e).arrived = a.arrived ∧
      (a.endSpan e).dets = a.dets :=
  ⟨rfl, rfl, rfl, rfl, rfl, rfl, rfl, rfl, rfl, rfl, rfl⟩

/-! ### The Peer View -/

/-- A fragment moves the next index to the place after it, and a manifest arrives only at fragment 15 (R51, R53). -/
theorem fragment_nextIndex (v : LaneView) (h : Heard) (slots : List Slot) :
    (v.fragment h slots).1.nextIndex = some (nextFrag h.frag) ∧ ((v.fragment h slots).2 = true → h.frag = 15) := by
  unfold LaneView.fragment
  dsimp only
  by_cases hf : h.frag = 15
  · rw [if_pos hf]
    refine ⟨?_, fun _ => hf⟩
    split <;> rfl
  · rw [if_neg hf]
    exact ⟨rfl, fun e => by cases e⟩

/-! ### The end of a command -/

/-- Nothing has changed: no item is flagged (R183). -/
theorem note_same {α : Type} [DecidableEq α] (it : Item α) (a : α) : it.note a a = it := by simp [Item.note]

theorem noteSource_same (s : State) (t : State) (h : t.store.sources = s.store.sources) (e : Nat × Item SourceReport) :
    noteSource s t e = e := by
  unfold noteSource
  have : visibleSource t.store e.1 = visibleSource s.store e.1 := by simp [visibleSource, h]
  rw [this]
  split <;> simp_all

theorem noteSink_same (s : State) (t : State) (h : t.store.sinks = s.store.sinks) (e : Nat × Item SinkReport) :
    noteSink s t e = e := by
  unfold noteSink
  have : findSink t.store e.1 = findSink s.store e.1 := by simp [findSink, h]
  rw [this]
  split
  · simp_all [note_same]
  · rfl

/-- A command that changes no reportable field leaves every item and snapshot as it was; ATTN follows its terms (R183,
R187). -/
theorem finish_quiet {s t : State} (hs : t.store.sources = s.store.sources) (hk : t.store.sinks = s.store.sinks)
    (hl : t.lanes = s.lanes) (hp : t.carriers.ports = s.carriers.ports) (hr : stationReport t = stationReport s) :
    finish s t = { t with report := { t.report with attn := attnLevel t.station.state t.report } } := by
  have hn : noteChanges s t = t.report := by
    unfold noteChanges
    have h1 : t.report.sources.map (noteSource s t) = t.report.sources := by
      rw [show noteSource s t = id from funext (noteSource_same s t hs)]; exact List.map_id _
    have h2 : t.report.sinks.map (noteSink s t) = t.report.sinks := by
      rw [show noteSink s t = id from funext (noteSink_same s t hk)]; exact List.map_id _
    have h3 : ∀ w : Vector (Item LaneReport) 9, (w.mapIdx fun i it =>
        if h : i < 9 then it.note (laneReport s.lanes[i]) (laneReport t.lanes[i]) else it) = w := by
      intro w; ext i hi; simp [hl, note_same]
    have h4 : ∀ w : Vector (Item PortReport) 4, (w.mapIdx fun i it =>
        if h : i < 4 then it.note (portReport s.carriers.ports[i]) (portReport t.carriers.ports[i]) else it) = w := by
      intro w; ext i hi; simp [hp, note_same]
    rw [h1, h2, h3, h4, hr, note_same]
  unfold finish noted updateAttn
  split
  · rfl
  · rw [hn]

/-- A comparison made twice is made once. -/
theorem note_note {α : Type} [DecidableEq α] (it : Item α) (a b : α) : (it.note a b).note a b = it.note a b := by
  unfold Item.note; split_ifs <;> simp_all

theorem note_snap {α : Type} [DecidableEq α] (it : Item α) (a b : α) : (it.note a b).snap = it.snap := by
  unfold Item.note; split <;> rfl

theorem noteSource_noteSource (s t t' : State) (h : t'.store = t.store) (hp : t'.carriers = t.carriers)
    (e : Nat × Item SourceReport) : noteSource s t' (noteSource s t e) = noteSource s t e := by
  cases a : visibleSource s.store e.1 <;> cases b : visibleSource t.store e.1 <;> simp only [noteSource, h, hp, a, b]
  split_ifs <;> simp_all

theorem noteSink_noteSink (s t t' : State) (h : t'.store = t.store) (e : Nat × Item SinkReport) :
    noteSink s t' (noteSink s t e) = noteSink s t e := by
  cases a : findSink s.store e.1 <;> cases b : findSink t.store e.1 <;> simp only [noteSink, h, a, b, note_note]

/-- A comparison depends on the state before it through the orders, lanes, ports and station fields alone (R183). -/
theorem noteChanges_before {s u : State} (t : State) (hk : u.store = s.store) (hl : u.lanes = s.lanes)
    (hp : u.carriers = s.carriers) (hr : stationReport u = stationReport s) : noteChanges u t = noteChanges s t := by
  have h1 : noteSource u t = noteSource s t := by funext e; unfold noteSource; rw [hk]
  have h2 : noteSink u t = noteSink s t := by funext e; unfold noteSink; rw [hk]
  unfold noteChanges
  simp only [h1, h2, hl, hp, hr]

/-- The end of a command that was one compared step is the end of that step (R183). -/
theorem finish_noted (s t : State) : finish s (noted s t) = finish s t := by
  unfold finish
  congr 1
  by_cases h : t.station.state = .cold
  · simp [noted, h]
  · have e1 : noted s t = { t with report := noteChanges s t } := by simp [noted, h]
    rw [e1]
    have e2 : noteChanges s { t with report := noteChanges s t } = noteChanges s t := by
      unfold noteChanges
      dsimp only
      congr 1
      · rw [List.map_map]
        exact List.map_congr_left fun e _ => noteSource_noteSource s t _ rfl rfl e
      · rw [List.map_map]
        exact List.map_congr_left fun e _ => noteSink_noteSink s t _ rfl e
      · ext i hi; simp [hi, note_note]
      · ext i hi; simp [hi, note_note]
      · exact note_note _ _ _
    simp [noted, h, e2]

/-! ### Positions, outputs and bytes -/

/-- A position moved by a boundary is a position against it (R30). -/
theorem movePosition_bounds (len : Nat) (p : Int) : -84 ≤ movePosition len p ∧ movePosition len p ≤ 83 := by
  unfold movePosition; omega

/-- A frame of nominal length moves no position (R156). -/
theorem movePosition_nominal {p : Int} (h : -84 ≤ p ∧ p ≤ 83) : movePosition 168 p = p := by
  unfold movePosition; omega

/-- A removed sink's blocks end with the own frame in progress, whatever is bound to the port then (R20, R22, R111). -/
@[simp] theorem egressStart_drop_departure (bound : Option Nat) (blocks : List Block) :
    egressStart bound (ClientEgress.departure blocks).drop = .free := by cases bound <;> rfl

/-- The tiles of a carrier frame follow one another in rising order, so those a shortened frame does not send are its last
(R137). -/
theorem carrierTilePlace_mono {i j : Nat} (h : i ≤ j) : Config.carrierTilePlace i ≤ Config.carrierTilePlace j := by
  induction j with
  | zero => rw [Nat.le_zero.mp h]
  | succ j ih =>
    obtain h | rfl := Nat.le_succ_iff.mp h
    · exact (ih h).trans (Nat.le_add_right _ _)
    · exact le_rfl

/-- A frame that takes its place in the window list leaves every other place as it was (R41). -/
theorem putWindow_getD (ws : List (Option (List Tile))) (i j : Nat) (f : List Tile) :
    (putWindow ws i f).getD j none = if j = i then some f else ws.getD j none := by
  induction ws generalizing i j with
  | nil =>
    induction i generalizing j with
    | zero => cases j <;> simp [putWindow]
    | succ i ih =>
      cases j with
      | zero => simp [putWindow]
      | succ j => simpa [putWindow] using ih j
  | cons w ws ih =>
    cases i with
    | zero => cases j <;> simp [putWindow]
    | succ i =>
      cases j with
      | zero => simp [putWindow]
      | succ j => simpa [putWindow] using ih i j

/-- What a hand-over says of the tile group it fills (R26, R110). -/
theorem group_some {st : OrderStore} {h : HandOver} {g : Group} (e : h.group st = some g) :
    ∃ r, visibleSource st h.tag = some r ∧ r.state = .offered ∧ r.firstTile = some g.first ∧ g.cls = r.cls ∧ g.tag = h.tag ∧
      g.mark = h.mark ∧ g.fill = h.blocks.length ∧ g.blocks = h.blocks := by
  unfold HandOver.group at e
  split at e
  · cases e
  · rename_i r hr
    split at e
    · cases e; exact ⟨r, hr, ‹_›, ‹_›, rfl, rfl, rfl, rfl, rfl⟩
    · cases e

/-- `n` bytes, most significant first, byte by byte. -/
theorem be_eq_map (n v : Nat) : be n v = (List.range n).map fun i => BitVec.ofNat 8 (v / 256 ^ (n - 1 - i)) := by
  induction n generalizing v with
  | zero => rfl
  | succ n ih =>
    rw [be, ih, List.range_succ, List.map_append, List.map_singleton]
    congr 1
    · refine List.map_congr_left fun i hi => ?_
      have hi := List.mem_range.mp hi
      rw [Nat.div_div_eq_div_mul, show n + 1 - 1 - i = (n - 1 - i) + 1 by omega, Nat.pow_succ, Nat.mul_comm]
    · simp

end Sys2Proof.Machine
end

