-- ==== Sys2Proof/Tests/Slice0.lean ====
section
/-! SUPPORT. Tests: the checks of WellFormed, single steps against the worked examples of the spec, and for every statement with
hypotheses a concrete state that meets them.

The tests are elaborated one after another. Each asks the kernel to evaluate a state, and a proof that runs ahead of the
kernel waits for it in a thread of its own: with all of them ahead at once, the stacks of the waiting threads pass the
memory limit of the check. -/

set_option Elab.async false

namespace Sys2Proof.Tests

open Sys2Proof.Machine
open Sys2Proof.Safety

/-! ### Small states -/

/-- A request whose sum is good. -/
def rq (code : Byte) (ps : List Byte) : Transfer :=
  { params := ps, check := messageCheck (code :: BitVec.ofNat 8 ps.length :: ps), extra := [], spoiled := none }

/-- The next state of a step, for tests whose step is one. -/
def after (c : Instr) (s : State) : State :=
  match exec c s with
  | .next t => t
  | _ => s

/-- A running station: number 4, LISTEN, REF enabled, with 3 complete rounds counted. -/
def station : Station :=
  { state := .listen, number := 4, staggerSetting := 125, refUse := true, epoch := 0, cause := .power, listenRounds := 3
    wholeRound := true }

def up : State := { State.reset with station := station }

def joined : State := { up with station := { station with state := .joined } }

/-- A class-1 source on client port 3 with adapter 0. -/
def src : Source :=
  { tag := 7, cls := 1, binding := .client 3, rnom := 300000, k := 2, threshold := 1, action := .withdraw, priority := 2
    standing := .primary, adapter := some 0, removed := false, state := .offered, firstTile := some 0, releaseCount := 3
    entryNo := none, passedOver := 0, blocked := false, omitted := false, mismatch := false, faultCount := 0, latch := false
    ingress := .absent }

def ad : Adapter := newAdapter .clientSource 7 1 300000 2

/-- A class-1 sink on client port 5 with adapter 1, selected on lane 2. -/
def snk : Sink :=
  { tag := 9, cls := 1, binding := .client 5, rnom := some 300000, k := some 2, w := 1, adapter := some 1
    sel := some { lane := 2, first := 0, standing := .standby, quality := .good }, wtr := 0, switches := 1, slips := 0
    mismatch := false, faultCount := 0, delivered := .good }

def snkAd : Adapter := newAdapter .clientSink 9 1 300000 2

/-- An order store with that source alone, in a given state and with a given adapter record. -/
def oneSource (r : Source) (a : Adapter) : OrderStore :=
  { OrderStore.empty with
    sources := [r]
    clientIn := OrderStore.empty.clientIn.set 3 (some 7)
    tileMap := match r.firstTile with
      | some f => setRange OrderStore.empty.tileMap f 1 (some 7)
      | none => OrderStore.empty.tileMap
    queue := if r.state = .queued then [7] else []
    queueCounter := 5
    pool := OrderStore.empty.pool.set 0 (some a)
    freeStore := 323584 }

/-- The same with the sink beside it. -/
def twoOrders (r : Source) (a : Adapter) (k : Sink) (b : Adapter) : OrderStore :=
  { oneSource r a with
    sinks := [k]
    clientEgr := OrderStore.empty.clientEgr.set 5 (some 9)
    pool := (OrderStore.empty.pool.set 0 (some a)).set 1 (some b)
    freeStore := 319488 }

/-- A lane ALIGNED at 0 whose last header came from station `n`. -/
def lane (n : Nat) : LaneRx :=
  { LaneRx.cold with
    state := .aligned, capture := some 0, held := some 0, alignments := 1, windowMarker := true, windowHeader := true
    windows := [some []]
    heard := some { station := n, epoch := 0, joined := true, round := 0, frag := 0, level := 1, source := 9, light := 0, count := 1 } }

/-- A lane record with a manifest that offers tag 9 and wants tag 7. -/
def viewOf (st : Standing) : LaneView :=
  { LaneView.cold with
    manifest := some { round := 0, entries := [.offer 9 1 0 .good st, .want 7 1] }, stale := 0, nextIndex := some 1, arrivals := 1 }

/-- A working station in JOINED: the two orders, lanes 1 and 2 ALIGNED and offering the sink's tag, lane 2 followed. -/
def work : State :=
  { joined with
    store := twoOrders src ad snk snkAd
    lanes := ((State.reset.lanes.set 2 (lane 2)).set 1 (lane 1)).set 4 LaneRx.own
    view := (State.reset.view.set 2 (viewOf .standby)).set 1 (viewOf .primary)
    timing := { TimingUnit.cold with
      selected := .lane 2, level := 2, lanes := TimingUnit.cold.lanes.set 2 { alignedRounds := 2, wholeRound := true, qualified := true } } }

/-! ### WellFormed -/

/-- A parameter length is one byte (R179). -/
theorem test_wf_refuses_long_parameters : (Instr.nop { params := List.replicate 256 0, check := 0, extra := [], spoiled := none }).wf = false := by
  decide +kernel

/-- Code 13 is defined (R191). -/
theorem test_wf_refuses_defined_code : (Instr.undefinedCommandCode 13 (rq 13 [])).wf = false := by decide +kernel

/-- Code 0, L 0 and a check byte are complete (R179). -/
theorem test_wf_refuses_complete_transfer : (Instr.transferIncomplete [0, 0, 0] none).wf = false := by decide +kernel

/-- A burst holds 1 to 256 blocks (R104). -/
theorem test_wf_refuses_empty_burst : (Instr.clientIngressBurst 0 []).wf = false ∧
    (Instr.clientIngressBurst 0 (List.replicate 257 Block.padding)).wf = false := by decide +kernel

/-- Works and adapters named at a boundary are named once, and the snapshot is not left, which the frame needs (R68). -/
theorem test_wf_refuses_left_works : (Instr.ownFrameStart [.pass] []).wf = true ∧ (Instr.ownFrameStart [.snapshot] []).wf = false ∧
    (Instr.ownFrameStart [.join, .join] []).wf = false ∧ (Instr.ownFrameStart [] [3, 3]).wf = false ∧
    (Instr.clientSinkDeparture [3, 3]).wf = false := by decide +kernel

/-- The WTR step follows the reads of frame 0 (R87). -/
theorem test_wf_refuses_early_wtr : (Instr.ownRoundStart [.wtr]).wf = false ∧ (Instr.ownRoundStart [.claim]).wf = false ∧
    (Instr.ownRoundStart [.join, .join]).wf = false := by decide +kernel

/-- A tag is 1 to 1 048 575 (R1). -/
theorem test_wf_refuses_tag_out_of_range : (Instr.releaseCountExpiry 0).wf = false ∧ (Instr.wtrExpiry 1048576).wf = false := by
  decide +kernel

/-- The longest own frame lasts 251 tile-times (R165). -/
theorem test_wf_refuses_counter_out_of_range : (Instr.laneMarkerArrival 0 251).wf = false ∧ (Instr.trackingMove 0 251).wf = false ∧
    (Instr.carrierMarkerArrival 0 251).wf = false ∧ (Instr.carrierSyncEntry 0 251).wf = false ∧ (Instr.refPulse 251).wf = false ∧
    (Instr.refQualified 251).wf = false := by decide +kernel

/-- A lane frame has 29 header words and 160 tiles, a carrier frame 40 tiles, a tile 2 500 blocks (R191). -/
theorem test_wf_refuses_malformed_frames : (Instr.laneHeaderReceived 0 [] []).wf = false ∧
    (Instr.laneHeaderReceived 0 (List.replicate 29 0) (List.replicate 161 vacantTile)).wf = false ∧
    (Instr.staleManifestClear 0 (.header [] [])).wf = false ∧
    (Instr.farEndFrameEnd 0 { header := 0, tiles := List.replicate 41 vacantTile, check := 0, behind := false }).wf = false ∧
    (Tile.wf { vacantTile with payload := List.replicate 2501 Block.padding }) = false := by decide +kernel

/-! ### Formats -/

/-- 12_frame_and_message_formats.md: the header of station 4 free in LISTEN has check 12 543. -/
theorem test_header_check_of_example : (headerWords { station := 4, epoch := 0, joined := false, round := 0, frag := 0, level := 8, source := 15, light := 0, count := 0 }
    (List.replicate 8 Slot.empty)).getLast? = some 12543 := by decide +kernel

/-- 12_frame_and_message_formats.md: READ STATION is the three bytes 11, 0, 245. -/
theorem test_read_station_request : requestBytes 11 (rq 11 []) = [11, 0, 245] := by decide +kernel

/-- The table gives no row bits, so no word spells a command. -/
theorem test_no_word_spells_a_command : decodeTableWord 8 1 = none := rfl

/-! ### Single steps -/

/-- R113: the slew by 64, by |d| and by 1. -/
theorem test_slew_steps : slewStep 65 = 64 ∧ slewStep 64 = 64 ∧ slewStep 17 = 17 ∧ slewStep 16 = 1 ∧ slewStep 1 = 1 ∧ slewStep 0 = 0 := by
  decide

/-- R112 to R114: the departure that takes the count to S leaves it at 0, with the span's sum kept for its span end. -/
theorem test_span_count_returns_to_zero :
    ({ newAdapter .clientSource 1 1 256 2 with spanCount := 3, arrived := 5 }.depart.adapter).spanCount = 0 ∧
    ({ newAdapter .clientSource 1 1 256 2 with spanCount := 3, arrived := 5 }.depart.adapter).arrived = 0 ∧
    ({ newAdapter .clientSource 1 1 256 2 with spanCount := 3, arrived := 5 }.depart.adapter).ended =
      some { arrived := 5, dets := Detections.none } := by
  decide +kernel

/-- R100: for class 1 and Rnom 640 000 the band is 156, Rlo 639 844 and Rhi 640 000. -/
theorem test_rate_bounds_at_the_top : (newAdapter .clientSource 1 1 640000 2).band = 156 ∧
    (newAdapter .clientSource 1 1 640000 2).rateLow = 639844 ∧ (newAdapter .clientSource 1 1 640000 2).rateHigh = 640000 := by
  decide +kernel

/-- R30: a counter reading of 83 is a capture of 83, one of 84 a capture of −84. -/
theorem test_capture_wraps : skewOf 83 = 83 ∧ skewOf 84 = -84 := by decide

/-- R169: straps 1 and 2 make station number 5. -/
theorem test_straps_give_the_number : (after (.coldStartEnd ⟨1, 2, 0, 0⟩) State.reset).station.number = 5 := by decide +kernel

/-- R102: the first adapter given is number 0, and a class-10 order reserves 40 960 blocks. -/
theorem test_admission_reserves_store :
    (after (.placeSource (rq 1 [0, 0, 1, 10, 1, 3, 0, 0, 4, 147, 224, 2, 1, 0, 1, 1])) up).store.freeStore = 286720 := by decide +kernel

/-- R180: a request with a bad sum is answered CHECK. -/
theorem test_bad_sum_is_answered_check : (after (.nop { rq 0 [] with check := 1 }) up).mport.slot = [0, 2, 0, 0, 254] := by decide +kernel

/-- R178: of a transfer that COLD meets after two bytes, two bytes are the slot's and the rest filler. -/
theorem test_cold_cuts_a_transfer : (after (.transferIncomplete [0, 255, 0, 0] (some 2))
    (after .resetAsserted { up with mport := { up.mport with slot := [1, 2, 3] } })).mport.mso = [1, 2, 255, 255] := by decide +kernel

/-- R30, R156: after a frame of 178 tile-times a position is 10 smaller, within −84 to +83. -/
theorem test_positions_move : movePosition 178 5 = -5 ∧ movePosition 178 (-80) = 78 ∧ movePosition 167 83 = -84 := by decide

/-- R20: the blocks of a removed sink go no further than the frame in progress, whatever is placed on its port. -/
theorem test_removed_blocks_end : egressStart (some 9) (ClientEgress.departure [.replacement]).drop = .free ∧
    egressStart (some 9) (.departure [.replacement]) = .departure [.replacement] := by decide

/-- R144: of two frames back to back, the first is received in SYNC also when the second's marker is taken first. -/
theorem test_frames_back_to_back : endsReceived true (framerMarker 20 { CarrierPort.cold with
      framer := .sync, expected := some 20, receiving := true }) = true ∧
    endsReceived true (framerMarker 20 { CarrierPort.cold with framer := .confirm, confirm := some 2, expected := some 20 }) = false := by
  decide

/-- R191: after a frame of 167 tile-times, an instant one tile-time before the boundary fell at tile-time 166. -/
theorem test_instant_before_boundary : instantByte { Transmitter.cold with lastLen := 167 } (some (-1)) = [166] ∧
    instantByte { Transmitter.cold with frameLen := 84 } (some 85) = [1] := by decide +kernel

/-! ### The laws hold of a working state -/

theorem work_pool : ∀ n : Fin 96, work.store.pool[n] = if n = 0 then some ad else if n = 1 then some snkAd else none := by
  decide +kernel

theorem bounds_ad : AdapterBounds ad := by constructor <;> decide +kernel

theorem bounds_snkAd : AdapterBounds snkAd := by constructor <;> decide +kernel

/-- The tile law of a store with one class-1 source of tag 7. -/
theorem tileLaw_one {s : State} (r : Source) (hs : s.store.sources = [r])
    (hm : s.store.tileMap = match r.firstTile with
      | some f => setRange OrderStore.empty.tileMap f 1 (some 7)
      | none => OrderStore.empty.tileMap)
    (hq : s.store.queue = if r.state = .queued then [7] else []) (ht : r.tag = 7) (hc : r.cls = 1)
    (hr : r.removed = true → r.state = .retiring) (hp : r.firstTile.isSome = holdsTiles r)
    (hf : ∀ f, r.firstTile = some f → f < 160) : TileLaw s := by
  have empty : ∀ t : Nat, ∀ o, OrderStore.empty.tileMap[t]? = some o → o = none := by
    intro t o h
    obtain ⟨ht, h⟩ := Vector.getElem?_eq_some_iff.mp h
    rw [← h]; simp [OrderStore.empty]
  constructor
  · rw [hs]; intro q hq; rw [List.mem_singleton.mp hq, hc]; rfl
  · rw [hs]; simp
  · rw [hs]; intro q hq; rw [List.mem_singleton.mp hq]; exact hr
  · rw [hs]; intro q hq; rw [List.mem_singleton.mp hq]
    refine ⟨hp, fun f h => ⟨by rw [hc]; exact Nat.mod_one f, by rw [hc]; have := hf f h; omega⟩, ?_⟩
    intro f h t h1 h2
    rw [hc] at h2
    obtain rfl : t = f := by omega
    rw [hm, h, ht]
    have := hf t h
    simp only [Vector.getElem?_eq_getElem this, setRange_getElem]
    simp
  · intro t tag h
    rw [hs]
    cases e : r.firstTile with
    | none => rw [hm, e] at h; have := empty t _ h; cases this
    | some f =>
      rw [hm, e] at h
      obtain ⟨hb, h⟩ := Vector.getElem?_eq_some_iff.mp h
      rw [setRange_getElem] at h
      split at h
      · exact ⟨r, List.mem_singleton_self r, f, by rw [ht]; cases h; rfl, e, by omega, by rw [hc]; omega⟩
      · have := empty t _ (Vector.getElem?_eq_some_iff.mpr ⟨hb, h⟩); cases this
  · rw [hq]; split <;> simp
  · intro tag
    rw [hq, hs]
    constructor
    · intro h
      split at h
      · exact ⟨r, List.mem_singleton_self r, by rw [ht, List.mem_singleton.mp h], ‹_›⟩
      · cases h
    · rintro ⟨q, hq', rfl, hst⟩
      rw [List.mem_singleton.mp hq'] at hst ⊢
      simp [hst, ht]

theorem work_tileLaw : TileLaw work := by
  refine tileLaw_one src rfl rfl rfl rfl rfl (by decide) rfl ?_
  intro f h; cases h; decide

theorem work_ownerLaw : OwnerLaw work := by
  have hp := work_pool
  have ci : ∀ p : Fin 32, work.store.clientIn[p] = if p = 3 then some 7 else none := by decide +kernel
  have ce : ∀ p : Fin 32, work.store.clientEgr[p] = if p = 5 then some 9 else none := by decide +kernel
  have ri : ∀ (p : Fin 4) (i : Fin 40), work.store.carrierIn[p][i] = none := by decide +kernel
  have re : ∀ (p : Fin 4) (i : Fin 40), work.store.carrierEgr[p][i] = none := by decide +kernel
  have s1 : work.store.sources = [src] := rfl
  have s2 : work.store.sinks = [snk] := rfl
  constructor
  · rw [s1]; simp
  · rw [s2]; simp
  · rw [s1]; intro r hr _; rw [List.mem_singleton.mp hr]
    exact ⟨0, rfl, ad, hp 0, rfl, rfl, rfl, rfl, rfl⟩
  · rw [s1]; intro r hr h; rw [List.mem_singleton.mp hr] at h; cases h
  · rw [s2]; intro k hk p _; rw [List.mem_singleton.mp hk]
    exact ⟨1, 300000, 2, rfl, rfl, rfl, snkAd, hp 1, rfl, rfl, rfl, rfl, rfl⟩
  · rw [s2]; intro k hk p f h; rw [List.mem_singleton.mp hk] at h; cases h
  · intro n h
    rw [hp n] at h
    split at h
    · exact .inl ⟨src, by rw [s1]; simp, rfl, by subst n; rfl⟩
    · split at h
      · exact .inr ⟨snk, by rw [s2]; simp, by subst n; rfl⟩
      · exact absurd rfl h
  · intro p tag
    rw [ci p, s1]
    constructor
    · intro h; split at h
      · exact ⟨src, by simp, rfl, by cases h; rfl, by subst p; rfl⟩
      · cases h
    · rintro ⟨r, hr, _, rfl, hb⟩
      rw [List.mem_singleton.mp hr] at hb ⊢
      cases hb; rfl
  · intro p tag
    rw [ce p, s2]
    constructor
    · intro h; split at h
      · exact ⟨snk, by simp, by cases h; rfl, by subst p; rfl⟩
      · cases h
    · rintro ⟨k, hk, rfl, hb⟩
      rw [List.mem_singleton.mp hk] at hb ⊢
      cases hb; rfl
  · intro p i tag
    rw [ri p i, s1]
    refine ⟨fun h => (nomatch h), ?_⟩
    rintro ⟨r, hr, _, _, f, hb, _⟩
    rw [List.mem_singleton.mp hr] at hb
    cases hb
  · intro p i tag
    rw [re p i, s2]
    refine ⟨fun h => (nomatch h), ?_⟩
    rintro ⟨k, hk, _, f, hb, _⟩
    rw [List.mem_singleton.mp hk] at hb
    cases hb

theorem work_adapterLaw : AdapterLaw work := by
  intro n a h
  rw [work_pool n] at h
  split at h
  · cases h; exact bounds_ad
  · split at h
    · cases h; exact bounds_snkAd
    · cases h

theorem work_timingLaw : TimingLaw work := by
  refine ⟨fun h => (nomatch h), ?_, ?_⟩
  · decide +kernel
  · exact ⟨by decide +kernel, by decide +kernel⟩

theorem work_lightingLaw : LightingLaw work := by unfold LightingLaw; decide +kernel

theorem work_sinkTable : SinkTable work := by
  refine ⟨?_, ?_⟩
  · rw [show work.store.sinks = [snk] from rfl]; simp
  · intro k hk
    rw [show work.store.sinks = [snk] from rfl] at hk
    rw [List.mem_singleton.mp hk]
    exact ⟨rfl, rfl⟩

theorem work_queueLaw : QueueLaw work := by
  refine ⟨List.Pairwise.nil, ?_⟩
  intro r hr h
  rw [show work.store.sources = [src] from rfl] at hr
  rw [List.mem_singleton.mp hr] at h
  cases h

/-- The working state with a command in front, for the statements about steps. -/
def workStep : State := { work with pending := [.holdAsserted] }

/-- Hypotheses of every statement that a step keeps a law: the law holds and the step answers a next state. -/
theorem witness_laws_and_step : StoreLaw work ∧ AdapterLaw work ∧ LightingLaw work ∧ (∀ l : Fin 9, ViewAgrees work.view[l]) ∧
    TimingLaw work ∧ TileLaw work ∧ WithdrawLaw work ∧ OwnerLaw work ∧ QueueLaw work ∧ SinkTable work ∧ AttentionLaw work ∧
    (∃ t, step work = .next t) ∧
    ∃ t, step workStep = .next t := by
  refine ⟨by unfold StoreLaw; decide +kernel, work_adapterLaw, work_lightingLaw, by unfold ViewAgrees; decide +kernel,
    work_timingLaw, work_tileLaw, ?_, work_ownerLaw, work_queueLaw, work_sinkTable, by unfold AttentionLaw; decide +kernel,
    ⟨_, rfl⟩, ⟨_, rfl⟩⟩
  intro r hr h
  rw [show work.store.sources = [src] from rfl] at hr
  rw [List.mem_singleton.mp hr] at h
  cases h

/-! ### Hypotheses of the statements about commands -/

/-- A request that passes the checks of R180 in a running station. -/
theorem accepted {code : Byte} {n : Nat} {x : Transfer} {s : State} (h : s.station.state ≠ .cold) (w : x.spoiled = none)
    (b : requestSumGood code x = true) (l : x.params.length = n) : Accepted code n x s := ⟨h, w, b, l⟩

theorem witness_front_command : workStep.pending = Instr.holdAsserted :: [] ∧ work.pending = [] := ⟨rfl, rfl⟩

theorem witness_cold_command : State.reset.station.state = .cold ∧ Instr.holdAsserted ≠ .powerUp ∧
    (∀ straps, Instr.holdAsserted ≠ .coldStartEnd straps) ∧ AttentionLaw State.reset ∧
    ∃ t, exec .holdAsserted State.reset = .next t :=
  ⟨rfl, nofun, fun _ h => (nomatch h), rfl, _, rfl⟩

theorem witness_followed_lane : TimingLaw work ∧ work.timing.selected = .lane 2 := ⟨work_timingLaw, rfl⟩

/-- The largest value of every header field. -/
def widest : Heard :=
  { station := 15, epoch := 255, joined := true, round := 65535, frag := 15, level := 15, source := 15, light := 3, count := 255 }

theorem witness_header_fields : widest.station < 16 ∧ widest.frag < 16 ∧ widest.epoch < 256 ∧ widest.round < 65536 ∧
    widest.level < 16 ∧ widest.source < 16 ∧ widest.light < 4 ∧ widest.count < 256 ∧
    (List.replicate 8 (Slot.mk 65535 65535 65535)).length = 8 := by decide

theorem witness_snapshot : TileLaw work ∧ SinkTable work ∧ (∀ r ∈ work.store.sources, tagOk r.tag = true) ∧
    work.store.sources.length ≤ 64 ∧ work.store.sinks.length ≤ 64 :=
  ⟨work_tileLaw, work_sinkTable, by decide +kernel, by decide +kernel, by decide +kernel⟩

theorem witness_refused_requests : up.station.state ≠ .cold ∧ requestSumGood 5 { rq 5 [0] with check := 0 } = false ∧
    requestSumGood 5 (rq 5 []) = true ∧ (rq 5 []).params.length ≠ 1 ∧ 13 < (14 : Byte).toNat ∧
    requestSumGood 14 { rq 14 [] with check := 0 } = false ∧ requestSumGood 14 (rq 14 []) = true ∧
    { rq 14 [] with spoiled := some 2 }.spoiled ≠ none ∧ State.reset.station.state = .cold := by decide +kernel

theorem witness_nop_and_incomplete : Accepted 0 0 (rq 0 []) up ∧ incompleteBytes [] = true ∧
    incompleteBytes [0, 0] = true ∧ incompleteBytes (0 :: 255 :: List.replicate 255 0) = true :=
  ⟨accepted (by decide) rfl (by decide +kernel) rfl, by decide, by decide, by decide +kernel⟩

theorem witness_set_attention : Accepted 12 2 (rq 12 [15, 1]) up ∧ param (rq 12 [15, 1]).params 0 ≤ 15 ∧
    param (rq 12 [15, 1]).params 1 ≤ 1 ∧ Accepted 12 2 (rq 12 [16, 0]) up ∧ 15 < param (rq 12 [16, 0]).params 0 ∧
    Accepted 12 2 (rq 12 [0, 2]) up ∧ 1 < param (rq 12 [0, 2]).params 1 :=
  ⟨accepted (by decide) rfl (by decide +kernel) rfl, by decide +kernel, by decide +kernel,
    accepted (by decide) rfl (by decide +kernel) rfl, by decide +kernel, accepted (by decide) rfl (by decide +kernel) rfl,
    by decide +kernel⟩

theorem witness_read_order : Accepted 7 4 (rq 7 [1, 0, 0, 7]) work ∧ paramBe (rq 7 [1, 0, 0, 7]).params 1 3 = 7 ∧
    param (rq 7 [1, 0, 0, 7]).params 0 = 1 ∧ visibleSource work.store 7 = some src ∧ param (rq 7 [2, 0, 0, 9]).params 0 = 2 ∧
    findSink work.store 9 = some snk ∧ visibleSource work.store 9 = none ∧ findSink work.store 7 = none ∧
    param (rq 7 [3, 0, 0, 7]).params 0 = 3 :=
  ⟨accepted (by decide) rfl (by decide +kernel) rfl, by decide +kernel, by decide +kernel, by decide +kernel, by decide +kernel,
    by decide +kernel, by decide +kernel, by decide +kernel, by decide +kernel⟩

theorem witness_reads : Accepted 9 1 (rq 9 [8]) up ∧ param (rq 9 [8]).params 0 = (8 : Fin 9).val ∧
    Accepted 9 1 (rq 9 [9]) up ∧ 8 < param (rq 9 [9]).params 0 ∧ Accepted 10 1 (rq 10 [3]) up ∧
    param (rq 10 [3]).params 0 = (3 : Fin 4).val ∧ Accepted 10 1 (rq 10 [4]) up ∧ 3 < param (rq 10 [4]).params 0 ∧
    Accepted 11 0 (rq 11 []) up ∧ Accepted 8 0 (rq 8 []) up :=
  ⟨accepted (by decide) rfl (by decide +kernel) rfl, by decide +kernel, accepted (by decide) rfl (by decide +kernel) rfl,
    by decide +kernel, accepted (by decide) rfl (by decide +kernel) rfl, by decide +kernel,
    accepted (by decide) rfl (by decide +kernel) rfl, by decide +kernel, accepted (by decide) rfl (by decide +kernel) rfl,
    accepted (by decide) rfl (by decide +kernel) rfl⟩

/-! Admission. -/

/-- PLACE SOURCE of a class-10 source on client port 3, and of a class-1 source at carrier tile 39. -/
def placeSrc : Transfer := rq 1 [0, 0, 7, 10, 1, 3, 0, 0, 4, 147, 224, 2, 1, 3, 1, 1]
def placeSrcCarrier : Transfer := rq 1 [15, 255, 255, 1, 2, 3, 39, 0, 4, 147, 224, 2, 1, 3, 3, 2]

/-- PLACE SINK of a class-1 sink on client port 31, and of a class-10 sink at carrier tile 30. -/
def placeSnk : Transfer := rq 2 [0, 0, 9, 1, 1, 31, 0, 0, 4, 147, 224, 2, 1]
def placeSnkCarrier : Transfer := rq 2 [0, 0, 9, 10, 2, 0, 30, 0, 4, 147, 224, 2, 1]

/-- The state with a full store: no store memory is left for a new adapter. -/
def full : State := { up with store := { OrderStore.empty with freeStore := 4095 } }

theorem up_tileLaw (s : State) (h : s.store = OrderStore.empty) : TileLaw s := by
  have hs : s.store.sources = [] := by rw [h]; rfl
  have hq : s.store.queue = [] := by rw [h]; rfl
  constructor
  · rw [hs]; exact fun _ hr => (nomatch hr)
  · rw [hs]; exact List.nodup_nil
  · rw [hs]; exact fun _ hr => (nomatch hr)
  · rw [hs]; exact fun _ hr => (nomatch hr)
  · intro t tag ht
    rw [h] at ht
    obtain ⟨_, ht⟩ := Vector.getElem?_eq_some_iff.mp ht
    simp [OrderStore.empty] at ht
  · rw [hq]; exact List.nodup_nil
  · intro tag
    rw [hq, hs]
    exact ⟨fun hr => (nomatch hr), fun ⟨_, hr, _⟩ => (nomatch hr)⟩

theorem admission_checks_pass (tag cls port : Nat) (d : Direction) (s : State) (h : s.store = OrderStore.empty)
    (ht : 1 ≤ tag ∧ tag ≤ 1048575) (hc : cls = 1 ∨ cls = 10) (hp : port ≤ 31) :
    ∀ c ∈ admissionChecks d tag cls 1 port 0 True s.store, ¬ c.1 := by
  have free : ∀ (m : Vector (Option Nat) 32), m = Vector.replicate 32 none → ∀ o, m[port]? ≠ some (some o) := by
    intro m hm o ho
    rw [hm] at ho
    obtain ⟨_, ho⟩ := Vector.getElem?_eq_some_iff.mp ho
    simp at ho
  rw [h]
  intro c hcm
  simp only [admissionChecks, List.mem_cons, List.not_mem_nil, or_false] at hcm
  rcases hcm with rfl | rfl | rfl | rfl | rfl | rfl | rfl | rfl | rfl
  · simp; omega
  · simp; omega
  · simp
  · cases d <;> simp [OrderStore.empty]
  · cases d <;> simp [OrderStore.empty]
  · rintro ⟨_, o, ho⟩
    cases d
    · exact free _ rfl o ho
    · exact free _ rfl o ho
  · simp
  · rintro ⟨_, hn⟩
    exact hn 0 rfl
  · rintro ⟨_, hn⟩
    have : OrderStore.empty.freeStore = 327680 := rfl
    rw [this] at hn
    omega

theorem witness_place_source : Accepted 1 16 placeSrc up ∧ bindingOf 1 3 0 = some (.client 3) ∧
    sourceRequest placeSrc.params = { tag := 7, cls := 10, kind := 1, port := 3, first := 0, rnom := 300000, k := 2, n := 1, priority := 3, action := 1, standing := 1 } ∧
    actionOfCode 1 = some .withdraw ∧ standingOfCode 1 = some .primary ∧
    (∀ c ∈ admissionChecks .source 7 10 1 3 0 True up.store, ¬ c.1) ∧ TileLaw up ∧ up.store.queueCounter < 4294967295 ∧
    wantStands up.view 7 10 = false ∧ wantStands work.view 7 1 = true :=
  ⟨accepted (by decide) rfl (by decide +kernel) rfl, by decide, by decide +kernel, rfl, rfl,
    admission_checks_pass 7 10 3 .source up rfl (by omega) (by omega) (by omega), up_tileLaw up rfl, by decide +kernel,
    by decide +kernel, by decide +kernel⟩

theorem witness_place_sink : Accepted 2 13 placeSnk up ∧ bindingOf 1 31 0 = some (.client 31) ∧
    sinkRequest placeSnk.params = { tag := 9, cls := 1, kind := 1, port := 31, first := 0, rnom := 300000, k := 2, w := 1 } ∧
    (∀ c ∈ admissionChecks .sink 9 1 1 31 0 True up.store, ¬ c.1) ∧ Accepted 2 13 placeSnkCarrier up ∧
    bindingOf 2 0 30 = some (.carrier 0 30) ∧ refusal .sink 9 10 (.carrier 0 30) up.store = none :=
  ⟨accepted (by decide) rfl (by decide +kernel) rfl, by decide, by decide +kernel,
    admission_checks_pass 9 1 31 .sink up rfl (by omega) (by omega) (by omega), accepted (by decide) rfl (by decide +kernel) rfl,
    by decide, by decide +kernel⟩

/-- The first check fails alone, and the last after eight that pass; the outcome is the status of that check. -/
theorem witness_admission_checks : Accepted 1 16 (rq 1 (List.replicate 16 0)) up ∧
    (admissionChecks .source 0 0 0 0 0 True up.store)[0]? = some (0 = 0 ∨ 1048575 < 0, .range) ∧
    Accepted 1 16 placeSrc full ∧ (after (.placeSource placeSrc) full).mport.slot = plainResponse 1 .noStore ∧
    Accepted 1 16 placeSrcCarrier up ∧ (after (.placeSource placeSrcCarrier) up).mport.slot = plainResponse 1 .done ∧
    Accepted 2 13 placeSnk full ∧ (after (.placeSink placeSnk) full).mport.slot = plainResponse 2 .noStore ∧
    (after (.placeSink placeSnkCarrier) full).mport.slot = plainResponse 2 .done :=
  ⟨accepted (by decide) rfl (by decide +kernel) rfl, rfl, accepted (by decide) rfl (by decide +kernel) rfl,
    by decide +kernel, accepted (by decide) rfl (by decide +kernel) rfl, by decide +kernel,
    accepted (by decide) rfl (by decide +kernel) rfl, by decide +kernel, by decide +kernel⟩

/-- The last check of R9 fails while the eight before it pass. -/
theorem witness_last_admission_check : ∃ p : Prop,
    (admissionChecks .sink 9 1 1 31 0 True full.store)[8]? = some (p, .noStore) ∧ p ∧
    ∀ (j : Nat) (q : Prop) (u : Status), j < 8 →
      (admissionChecks .sink 9 1 1 31 0 True full.store)[j]? = some (q, u) → ¬ q := by
  have free : ∀ o, full.store.clientEgr[31]? ≠ some (some o) := by
    intro o h
    have : full.store.clientEgr[31]? = some none := by decide +kernel
    rw [this] at h; cases h
  refine ⟨_, rfl, ⟨.inr rfl, by decide +kernel⟩, ?_⟩
  intro j q u hj h
  interval_cases j <;> simp only [admissionChecks, List.getElem?_cons_succ, List.getElem?_cons_zero, Option.some.injEq,
    Prod.mk.injEq] at h <;> obtain ⟨rfl, -⟩ := h
  · omega
  · simp
  · simp
  · simp [full, OrderStore.empty]
  · simp [full, OrderStore.empty]
  · rintro ⟨_, o, ho⟩; exact free o ho
  · simp
  · rintro ⟨_, hn⟩; exact hn 0 rfl

theorem witness_remove : Accepted 3 4 (rq 3 [1, 0, 0, 7]) work ∧ param (rq 3 [1, 0, 0, 7]).params 0 = 1 ∧
    paramBe (rq 3 [1, 0, 0, 7]).params 1 3 = 7 ∧ TileLaw work ∧ visibleSource work.store 7 = some src ∧ src.adapter = some 0 ∧
    work.store.pool[(0 : Fin 96)] = some ad ∧ visibleSource work.store 9 = none ∧ param (rq 3 [0, 0, 0, 7]).params 0 = 0 ∧
    Accepted 3 4 (rq 3 [2, 0, 0, 9]) work ∧ param (rq 3 [2, 0, 0, 9]).params 0 = 2 ∧ SinkTable work ∧
    findSink work.store 9 = some snk ∧ (∀ n, snk.adapter = some n → ∃ a, work.store.pool[n] = some a ∧ a.ended = none) ∧
    findSink work.store 7 = none := by
  refine ⟨accepted (by decide) rfl (by decide +kernel) rfl, by decide +kernel, by decide +kernel, work_tileLaw, by decide +kernel,
    rfl, work_pool 0, by decide +kernel, by decide +kernel, accepted (by decide) rfl (by decide +kernel) rfl, by decide +kernel,
    work_sinkTable, by decide +kernel, ?_, by decide +kernel⟩
  intro n h; cases h
  exact ⟨snkAd, work_pool 1, rfl⟩

theorem witness_restate : Accepted 4 3 (rq 4 [0, 0, 7]) work ∧ paramBe (rq 4 [0, 0, 7]).params 0 3 = 7 ∧ TileLaw work ∧
    work.store.queueCounter < 4294967295 ∧ visibleSource work.store 7 = some src ∧ wantStands work.view 7 1 = true ∧
    visibleSource work.store 8 = none :=
  ⟨accepted (by decide) rfl (by decide +kernel) rfl, by decide +kernel, work_tileLaw, by decide +kernel, by decide +kernel,
    by decide +kernel, by decide +kernel⟩

theorem witness_light : Accepted 5 1 (rq 5 [3]) up ∧ param (rq 5 [3]).params 0 = (3 : Fin 4).val ∧
    up.carriers.ports[(3 : Fin 4)].state = .dark ∧ Accepted 6 1 (rq 6 [0]) up ∧ param (rq 6 [0]).params 0 = (0 : Fin 4).val ∧
    Accepted 5 1 (rq 5 [4]) up ∧ Accepted 6 1 (rq 6 [4]) up ∧ 3 < param (rq 6 [4]).params 0 :=
  ⟨accepted (by decide) rfl (by decide +kernel) rfl, by decide +kernel, by decide +kernel,
    accepted (by decide) rfl (by decide +kernel) rfl, by decide +kernel, accepted (by decide) rfl (by decide +kernel) rfl,
    accepted (by decide) rfl (by decide +kernel) rfl, by decide +kernel⟩

theorem witness_restarts : (∃ t, exec .powerUp up = .next t) ∧ up.station.state ≠ .cold ∧
    (∃ t, exec .resetAsserted up = .next t) ∧ up.mport.slot = [] ∧ State.reset.station.state = .cold ∧
    coldStart .pin up = coldStart .pin up ∧ Accepted 13 0 (rq 13 []) work :=
  ⟨⟨_, rfl⟩, by decide, ⟨_, rfl⟩, rfl, rfl, rfl, accepted (by decide) rfl (by decide +kernel) rfl⟩

theorem witness_hold : work.station.state ≠ .cold ∧ SinkTable work ∧ State.reset.station.state = .cold :=
  ⟨by decide, work_sinkTable, rfl⟩

/-! Selection and delivery. -/

def pick (l : Fin 9) (q : Quality) (st : Standing) : Selection := { lane := l, first := 0, standing := st, quality := q }

theorem witness_best_candidate :
    ([pick 1 .degraded .primary, pick 2 .good .standby].map (·.lane)).Nodup ∧ [pick 1 .degraded .primary, pick 2 .good .standby] ≠ [] ∧
    pick 1 .degraded .primary ≠ pick 2 .good .standby := by decide

/-- The views of `work` hold no two OFFERs of one tag. -/
theorem witness_one_offer_a_tag (l : Fin 9) (c1 f1 : Nat) (q1 : Quality) (s1 : Standing) (c2 f2 : Nat) (q2 : Quality) (s2 : Standing) :
    Entry.offer 9 c1 f1 q1 s1 ∈ work.view[l].entries → Entry.offer 9 c2 f2 q2 s2 ∈ work.view[l].entries →
      c1 = c2 ∧ f1 = f2 ∧ q1 = q2 ∧ s1 = s2 := by
  have h : ∀ l : Fin 9, work.view[l].entries = [.offer 9 1 0 .good .primary, .want 7 1] ∨
      work.view[l].entries = [.offer 9 1 0 .good .standby, .want 7 1] ∨ work.view[l].entries = [] := by decide +kernel
  intro a b
  rcases h l with e | e | e <;> rw [e] at a b <;> simp at a b <;> simp [a, b]

/-- One sink for each clause on an evaluation: WANTING, selected with no candidate, lane lost, better candidate, stay. -/
theorem witness_evaluation : candidates work 9 1 = [pick 1 .good .primary, pick 2 .good .standby] ∧
    { snk with sel := none }.sel = none ∧ bestOf [pick 1 .good .primary] = some (pick 1 .good .primary) ∧
    snk.sel = some (pick 2 .good .standby) ∧ (∀ c ∈ [pick 1 .good .primary], c.lane ≠ (pick 2 .good .standby).lane) ∧
    [pick 1 .good .primary, pick 2 .degraded .standby].find? (fun c => decide (c.lane = (pick 2 .good .standby).lane)) =
      some (pick 2 .degraded .standby) ∧
    bestOf [pick 1 .good .primary, pick 2 .degraded .standby] = some (pick 1 .good .primary) ∧
    Quality.good.rank < Quality.degraded.rank ∧
    (candidates work 9 1).find? (fun c => decide (c.lane = (pick 2 .good .standby).lane)) = some (pick 2 .good .standby) ∧
    bestOf (candidates work 9 1) = some (pick 1 .good .primary) := by
  have h : candidates work 9 1 = [pick 1 .good .primary, pick 2 .good .standby] := by decide +kernel
  refine ⟨h, rfl, by decide +kernel, rfl, by decide, by decide, by decide +kernel, by decide, ?_, ?_⟩ <;> rw [h] <;> decide +kernel

/-- Tiles whose first tile carries a group of the sink's tag. -/
def snkTiles : List Tile := (List.range 160).map (tileOf [{ first := 0, cls := 1, tag := 9, mark := .good, fill := 1, blocks := [.replacement] }])

/-- Lane 2 delivers these tiles in the own frame in progress (R41). -/
def delivering (tiles : List Tile) : Vector LaneRx 9 :=
  work.lanes.set 2 { lane 2 with windows := [none, none, some tiles], openWindow := 0, slot := 2 }

theorem witness_sink_read : { snk with sel := none }.sel = none ∧ snk.sel = some (pick 2 .good .standby) ∧
    delivered (State.reset.lanes[(2 : Fin 9)]) = none ∧ delivered (delivering snkTiles)[(2 : Fin 9)] = some snkTiles ∧
    tileTag (tileAt snkTiles 0) = 9 ∧ tileMark (tileAt snkTiles 0) ≠ .vacant ∧ tileFill (tileAt snkTiles 0) ≤ 2500 ∧
    delivered (delivering [])[(2 : Fin 9)] = some [] ∧ tileTag (tileAt [] 0) ≠ 9 := by decide +kernel

/-- A lane whose window two own frames back is the open one, and the lanes of a working station. -/
theorem witness_delivery : (lane 2).state = .aligned ∧ { lane 2 with openWindow := -2 }.openWindow - ((0 : Nat) : Int) = -2 ∧
    { lane 2 with openWindow := -3 }.openWindow < -2 ∧ work.station.state ≠ .cold ∧ (2 : Fin 9) ≠ work.station.number ∧
    work.lanes[(2 : Fin 9)].state = .aligned ∧ work.lanes[(2 : Fin 9)].openWindow ≤ 0 ∧
    (after (.markerWindowCheck 2) work).lanes[(2 : Fin 9)].state = .aligned ∧
    work.lanes[(4 : Fin 9)].state = .aligned ∧ work.lanes[(4 : Fin 9)].openWindow = 0 ∧ (4 : Fin 9) = work.station.number := by
  decide +kernel

theorem witness_notice_to_the_selector : SinkTable work ∧ 9 ∈ manifestTags work.view[(2 : Fin 9)].manifest ∧ snk.tag = 9 :=
  ⟨work_sinkTable, by decide +kernel, rfl⟩

/-! Rate adapters. -/

theorem witness_client_burst : work.station.state ≠ .cold ∧ work.store.clientIn[(3 : Fin 32)] = some 7 ∧
    visibleSource work.store 7 = some src ∧ src.adapter = some 0 ∧ work.store.pool[(0 : Fin 96)] = some ad ∧
    work.store.clientIn[(0 : Fin 32)] = none := by decide +kernel

/-- Records at the residue limits: PRIMING below 768, at 768, and RUNNING; and one whose departure ends its span. -/
theorem witness_departure : (ad.phase + ad.rate) / 256 = 1171 ∧ ad.running = false ∧ (ad.store.length : Int) - 1171 < 768 * (ad.cls : Int) ∧
    768 * (ad.cls : Int) ≤ (({ ad with store := List.replicate 1939 .replacement }).store.length : Int) - 1171 ∧
    { ad with running := true }.running = true ∧ { ad with spanCount := 3 }.spanCount + 1 = 2 ^ ad.k ∧
    ad.spanCount + 1 ≠ 2 ^ ad.k := by decide +kernel

/-- Both adapters of `work` with a span end left over. -/
def dueAd : Adapter := { ad with ended := some { arrived := 0, dets := Detections.none } }
def dueSnkAd : Adapter := { snkAd with ended := some { arrived := 4000, dets := Detections.none } }
def dueSpans : State := { work with store := twoOrders src dueAd snk dueSnkAd }

theorem dueSpans_tileLaw : TileLaw dueSpans := by
  refine tileLaw_one src rfl rfl rfl rfl rfl (by decide) rfl ?_
  intro f h; cases h; decide

theorem dueSpans_pool : ∀ n : Fin 96, dueSpans.store.pool[n] = if n = 0 then some dueAd else if n = 1 then some dueSnkAd else none := by
  decide +kernel

theorem dueSpans_ownerLaw : OwnerLaw dueSpans := by
  have h := work_ownerLaw
  refine ⟨h.sourceTags, h.sinkTags, ?_, h.hidden, ?_, h.carrierSinks, ?_, h.clientIn, h.clientEgr, h.carrierIn, h.carrierEgr⟩
  · intro r hr _; rw [List.mem_singleton.mp hr]
    exact ⟨0, rfl, dueAd, dueSpans_pool 0, rfl, rfl, rfl, rfl, rfl⟩
  · intro k hk p _; rw [List.mem_singleton.mp hk]
    exact ⟨1, 300000, 2, rfl, rfl, rfl, dueSnkAd, dueSpans_pool 1, rfl, rfl, rfl, rfl, rfl⟩
  · intro n hn
    refine h.records n fun e => hn ?_
    rw [work_pool] at e; rw [dueSpans_pool]
    split at e
    · cases e
    · rw [if_neg ‹_›]; split at e
      · cases e
      · rw [if_neg ‹_›]

theorem witness_span_end : dueSpans.station.state ≠ .cold ∧ dueSpans.store.pool[(0 : Fin 96)] = some dueAd ∧
    dueAd.ended = some { arrived := 0, dets := Detections.none } ∧ ad.kind ≠ .clientSink ∧ TileLaw dueSpans ∧
    visibleSource dueSpans.store 7 = some src ∧ dueSpans.store.pool[(1 : Fin 96)] = some dueSnkAd ∧
    dueSnkAd.ended = some { arrived := 4000, dets := Detections.none } ∧ snkAd.kind = .clientSink ∧
    work.store.pool[(0 : Fin 96)] = some ad ∧ ad.ended = none ∧ { ad with spanCount := 3 }.spanCount + 1 = 2 ^ ad.k :=
  ⟨by decide, by decide +kernel, rfl, by decide, dueSpans_tileLaw, by decide +kernel, by decide +kernel, rfl, rfl, work_pool 0,
    rfl, rfl⟩

/-- A span end left over of an order that is removed, of each direction. -/
theorem witness_remove_left_span : Accepted 3 4 (rq 3 [1, 0, 0, 7]) dueSpans ∧
    (visibleSource dueSpans.store 7).bind (·.adapter) = some 0 ∧ Accepted 3 4 (rq 3 [2, 0, 0, 9]) dueSpans ∧
    (findSink dueSpans.store 9).bind (·.adapter) = some 1 :=
  ⟨accepted (by decide) rfl (by decide +kernel) rfl, by decide +kernel, accepted (by decide) rfl (by decide +kernel) rfl,
    by decide +kernel⟩

theorem witness_client_sink : work.station.state ≠ .cold ∧ OwnerLaw work ∧ work.store.clientEgr[(31 : Fin 32)] = none ∧
    work.store.pool[(0 : Fin 96)] = some ad ∧ ad.kind ≠ .clientSink ∧ snk ∈ work.store.sinks ∧ snk.binding = .client 5 ∧
    snk.adapter = some 1 ∧ work.store.pool[(1 : Fin 96)] = some snkAd ∧ snkAd.depart.adapter.ended = none ∧
    OwnerLaw dueSpans ∧ dueSpans.store.pool[(1 : Fin 96)] = some dueSnkAd ∧ dueSnkAd.ended ≠ none ∧
    { snkAd with spanCount := 3 }.depart.adapter.ended ≠ none :=
  ⟨by decide, work_ownerLaw, by decide +kernel, work_pool 0, by decide, List.mem_singleton.mpr rfl, rfl, rfl, work_pool 1,
    by decide +kernel, dueSpans_ownerLaw, dueSpans_pool 1, by decide, by decide +kernel⟩

/-- The same station with the source DORMANT. -/
def dormant : Source := { src with state := .dormant, firstTile := none, releaseCount := 0 }
def idleSource : State := { work with store := oneSource dormant ad }

theorem witness_source_departure : visibleSource work.store 7 = some src ∧ src.adapter = some 0 ∧
    work.store.pool[(0 : Fin 96)] = some ad ∧ ad.ended = none ∧ dueAd.ended ≠ none ∧ src.state = .offered ∧
    src.firstTile = some 0 ∧ visibleSource idleSource.store 7 = some dormant ∧ idleSource.store.pool[(0 : Fin 96)] = some ad ∧ dormant.state ≠ .offered := by
  decide +kernel

/-- Two groups side by side, the second the largest at the end of the frame. -/
def groupA : Group := { first := 149, cls := 1, tag := 1, mark := .failed, fill := 0, blocks := [] }
def groupB : Group := { first := 150, cls := 10, tag := 1048575, mark := .good, fill := 1, blocks := [.replacement] }

theorem witness_tile_group : groupB ∈ [groupA, groupB] ∧
    (∀ h ∈ [groupA, groupB], h ≠ groupB → h.first + h.cls ≤ groupB.first ∨ groupB.first + groupB.cls ≤ h.first) ∧
    classOk groupB.cls = true ∧ tagOk groupB.tag = true ∧ groupB.mark = Quality.good.mark ∧ groupB.fill = groupB.blocks.length ∧
    groupB.blocks.length ≤ 2500 * groupB.cls ∧ groupB.first + groupB.cls ≤ 160 := by decide +kernel

theorem witness_source_quality : src.binding = .client 3 ∧ { src with binding := .carrier 3 39 }.binding = .carrier 3 39 := ⟨rfl, rfl⟩

/-! Frames and rounds. -/

/-- Frame 15 of `work`, before its boundary. -/
def lastFrame : State := { work with tx := { work.tx with frame := 15 } }

/-- The same after a round start whose works but the WTR step have been taken. -/
def roundDone : State := { lastFrame with tx := { lastFrame.tx with boundary := true, due := [.wtr] } }

theorem witness_own_frame : PlainBoundary 1 work ∧ PlainBoundary 0 roundDone ∧ 4 = work.station.number ∧
    (up.station.state = .listen ∧ up.station.state ≠ .joined) :=
  ⟨⟨by decide, .inl (by decide +kernel)⟩, ⟨by decide, .inr (by decide +kernel)⟩, rfl, by decide⟩

/-- A class-1 sink at the last carrier tile of port 3, which is LIT, beside nothing else. -/
def carried : Sink :=
  { snk with binding := .carrier 3 39, rnom := none, k := none, adapter := none }
def carrying : State :=
  { work with
    store := { OrderStore.empty with
      sinks := [carried]
      carrierEgr := OrderStore.empty.carrierEgr.set 3 (setRange OrderStore.empty.carrierEgr[3] 39 1 (some 9)) }
    carriers := { work.carriers with ports := work.carriers.ports.set 3 { CarrierPort.cold with state := .lit } } }

theorem carrying_ownerLaw : OwnerLaw carrying := by
  have hp : ∀ n : Fin 96, carrying.store.pool[n] = none := by decide +kernel
  have ci : ∀ p : Fin 32, carrying.store.clientIn[p] = none ∧ carrying.store.clientEgr[p] = none := by decide +kernel
  have ri : ∀ (p : Fin 4) (i : Fin 40), carrying.store.carrierIn[p][i] = none := by decide +kernel
  have re : ∀ (p : Fin 4) (i : Fin 40), carrying.store.carrierEgr[p][i] = if p = 3 ∧ i = 39 then some 9 else none := by decide +kernel
  have s1 : carrying.store.sources = [] := rfl
  have s2 : carrying.store.sinks = [carried] := rfl
  constructor
  · rw [s1]; simp
  · rw [s2]; simp
  · rw [s1]; intro r hr; cases hr
  · rw [s1]; intro r hr; cases hr
  · rw [s2]; intro k hk p h; rw [List.mem_singleton.mp hk] at h; cases h
  · rw [s2]; intro k hk p f _; rw [List.mem_singleton.mp hk]; exact ⟨rfl, rfl, rfl⟩
  · intro n h; exact absurd (hp n) h
  · intro p tag
    rw [(ci p).1, s1]
    exact ⟨fun h => (nomatch h), fun ⟨_, hr, _⟩ => (nomatch hr)⟩
  · intro p tag
    rw [(ci p).2, s2]
    refine ⟨fun h => (nomatch h), ?_⟩
    rintro ⟨k, hk, _, hb⟩
    rw [List.mem_singleton.mp hk] at hb
    cases hb
  · intro p i tag
    rw [ri p i, s1]
    exact ⟨fun h => (nomatch h), fun ⟨_, hr, _⟩ => (nomatch hr)⟩
  · intro p i tag
    rw [re p i, s2]
    constructor
    · intro h
      split at h
      · rename_i hpi
        exact ⟨carried, by simp, by cases h; rfl, 39, by rw [hpi.1]; rfl, by rw [hpi.2]; decide, by rw [hpi.2]; decide⟩
      · cases h
    · rintro ⟨k, hk, rfl, f, hb, h1, h2⟩
      rw [List.mem_singleton.mp hk] at hb h2 ⊢
      cases hb
      have hc : carried.cls = 1 := rfl
      rw [hc] at h2
      have : i = 39 := Fin.ext (by show i.val = 39; omega)
      subst this
      rfl

/-- Hypotheses on a carrier sink of a LIT port, in a frame of full length. -/
theorem witness_carrier_sink : PlainBoundary 1 carrying ∧ OwnerLaw carrying ∧ SinkTable carrying ∧ carried ∈ carrying.store.sinks ∧
    carried.binding = .carrier 3 39 ∧ 39 + carried.cls ≤ 40 ∧ carrying.carriers.ports[(3 : Fin 4)].state = .lit ∧
    168 ≤ frameLengthFor 1 .joined false (some 0) := by
  refine ⟨⟨by decide, .inl (by decide +kernel)⟩, carrying_ownerLaw, ⟨List.nodup_singleton 9, ?_⟩, List.mem_singleton.mpr rfl, rfl,
    by decide, by decide +kernel, by decide⟩
  intro k hk
  rw [List.mem_singleton.mp (show k ∈ [carried] from hk)]
  exact ⟨rfl, rfl⟩

/-- Hypotheses on the orders at an own frame boundary: the sink's record and the OFFERED source's, whose group is sent. -/
theorem witness_orders_at_a_boundary : PlainBoundary 1 work ∧ OwnerLaw work ∧ TileLaw work ∧ snk ∈ work.store.sinks ∧
    snk.adapter = some 1 ∧ work.store.pool[(1 : Fin 96)] = some snkAd ∧
    visibleSource work.store src.tag = some src ∧ tagOk src.tag = true ∧ src.state = .offered ∧ src.firstTile = some 0 ∧
    src.adapter = some 0 ∧ work.store.pool[(0 : Fin 96)] = some ad ∧ ad.ended = none ∧
    ∃ t lf, exec (.ownFrameStart [] []) work = .next t ∧ t.pins.laneOut = some lf ∧ 0 + src.cls ≤ lf.tiles.length := by
  have h : ((after (.ownFrameStart [] []) work).pins.laneOut.map fun lf => lf.tiles.length) = some 160 := by decide +kernel
  obtain ⟨lf, h1, h2⟩ := Option.map_eq_some_iff.mp h
  exact ⟨witness_own_frame.1, work_ownerLaw, work_tileLaw, List.mem_singleton.mpr rfl, rfl, work_pool 1, by decide +kernel,
    rfl, rfl, rfl, rfl, work_pool 0, rfl, after (.ownFrameStart [] []) work, lf, rfl, h1, by rw [h2]; decide⟩

theorem witness_frame_length : { work with station := station }.station.state = .listen ∧ work.station.state = .joined ∧
    work.lanes[(2 : Fin 9)].capture = some 0 ∧ up.timing.selected = .free ∧ up.station.state = .listen := by decide +kernel

/-- A round start of which the pass and the snapshot are still due. -/
def passDue : State := { roundDone with tx := { roundDone.tx with due := [.pass, .snapshot] } }

theorem witness_boundary_works : passDue.station.state ≠ .cold ∧ passDue.tx.boundary = true ∧ passDue.tx.due = [.pass, .snapshot] ∧
    RoundWork.pass ∉ [RoundWork.wtr] ∧ roundDone.tx.due = [.wtr] := by decide +kernel

theorem witness_round_start : lastFrame.station.state ≠ .cold ∧ lastFrame.tx.frame = 15 ∧ lastFrame.tx.boundary = false ∧
    lastFrame.tx.due = [] ∧ State.reset.station.state = .cold ∧ work.tx.frame ≠ 15 ∧ roundDone.tx.boundary = true := by decide +kernel

/-- Ports LIT, LIGHTING at its last round, WAITING and DARK, and with port 1 CLAIMING instead. -/
def lights (y : CarrierPort) (due : List RoundWork) : State :=
  { lastFrame with
    tx := { lastFrame.tx with due := due }
    carriers := { lastFrame.carriers with
      ports := ((lastFrame.carriers.ports.set 0 { CarrierPort.cold with state := .lit }).set 1 y).set 2 { CarrierPort.cold with state := .waiting } } }

def lit1 : CarrierPort := { CarrierPort.cold with state := .lighting, stagger := some 1 }
def claim1 : CarrierPort := { CarrierPort.cold with state := .claiming }

theorem witness_lighting : (lights lit1 []).tx.frame = 15 ∧ (lights lit1 []).tx.boundary = false ∧ (lights lit1 []).tx.due = [] ∧
    (lights lit1 []).station.state = .joined ∧ (lights lit1 []).carriers.ports[(0 : Fin 4)].state = .lit ∧
    (lights lit1 []).carriers.ports[(1 : Fin 4)].state = .lighting ∧ (lights lit1 []).carriers.ports[(1 : Fin 4)].stagger = some 1 ∧
    (lights lit1 []).carriers.ports[(2 : Fin 4)].state = .waiting ∧ (lights lit1 []).carriers.ports[(3 : Fin 4)].state = .dark ∧
    (lights claim1 []).carriers.ports[(1 : Fin 4)].state = .claiming ∧
    (lights { lit1 with stagger := some 125 } []).carriers.ports[(1 : Fin 4)].stagger = some 125 ∧
    RoundWork.lighting ∈ (lights lit1 [.lighting]).tx.due ∧ RoundWork.lighting ∉ (lights lit1 []).tx.due ∧
    up.station.state ≠ .joined ∧ { lights lit1 [] with station := station }.station.state = .listen := by decide +kernel

theorem witness_stagger : LightingLaw (lights lit1 [.lighting]) ∧ (lights lit1 [.lighting]).station.state = .joined ∧
    (lights lit1 [.lighting]).carriers.ports[(1 : Fin 4)].stagger = some 1 := ⟨by unfold LightingLaw; decide +kernel, by decide, by decide +kernel⟩

theorem witness_claim : (lights claim1 [.lighting]).station.state = .joined ∧ RoundWork.lighting ∈ (lights claim1 [.lighting]).tx.due ∧
    LightingLaw (lights claim1 [.lighting]) ∧ (lights claim1 [.lighting]).carriers.ports[(1 : Fin 4)].state = .claiming :=
  ⟨by decide +kernel, by decide +kernel, by unfold LightingLaw; decide +kernel, by decide +kernel⟩

/-! Placement. -/

theorem idle_tileLaw : TileLaw idleSource :=
  tileLaw_one dormant rfl rfl rfl rfl rfl (by decide) rfl (fun _ h => (nomatch h))

theorem idle_queueLaw : QueueLaw idleSource := by
  refine ⟨List.Pairwise.nil, ?_⟩
  intro r hr h
  rw [show idleSource.store.sources = [dormant] from rfl] at hr
  rw [List.mem_singleton.mp hr] at h
  cases h

/-- A QUEUED source beside a DORMANT one of tag 8, at the last number of the queue entry counter. -/
def waitingOne : Source := { dormant with state := .queued, entryNo := some 4294967294 }
def dormantTwo : Source := { dormant with tag := 8, adapter := none }
def lastNumber : State :=
  { work with store := { OrderStore.empty with sources := [waitingOne, dormantTwo], queue := [7], queueCounter := 4294967295 } }

theorem lastNumber_sources {r : Source} (h : r ∈ lastNumber.store.sources) : r = waitingOne ∨ r = dormantTwo := by
  simpa [lastNumber] using h

theorem lastNumber_tileLaw : TileLaw lastNumber := by
  constructor
  · intro r h; rcases lastNumber_sources h with rfl | rfl <;> rfl
  · decide +kernel
  · intro r h e; rcases lastNumber_sources h with rfl | rfl <;> cases e
  · intro r h; rcases lastNumber_sources h with rfl | rfl <;> exact ⟨rfl, fun _ h => (nomatch h), fun _ h => (nomatch h)⟩
  · intro t tag h
    obtain ⟨_, h⟩ := Vector.getElem?_eq_some_iff.mp h
    simp [lastNumber, OrderStore.empty] at h
  · decide +kernel
  · intro tag
    rw [show lastNumber.store.queue = [7] from rfl, List.mem_singleton]
    constructor
    · rintro rfl; exact ⟨waitingOne, List.mem_cons_self, rfl, rfl⟩
    · rintro ⟨r, h, rfl, e⟩; rcases lastNumber_sources h with rfl | rfl
      · rfl
      · cases e

theorem lastNumber_queueLaw : QueueLaw lastNumber := by
  refine ⟨List.pairwise_singleton _ _, ?_⟩
  intro r h e; rcases lastNumber_sources h with rfl | rfl
  · exact ⟨4294967294, rfl, by decide +kernel⟩
  · cases e

theorem witness_queue : TileLaw idleSource ∧ QueueLaw idleSource ∧ visibleSource idleSource.store 7 = some dormant ∧
    dormant.state = .dormant ∧ idleSource.store.queueCounter ≠ 4294967295 ∧ TileLaw lastNumber ∧ QueueLaw lastNumber ∧
    visibleSource lastNumber.store 8 = some dormantTwo ∧ dormantTwo.state = .dormant ∧ lastNumber.store.queueCounter = 4294967295 ∧
    lastNumber.store.queue[0]? = some 7 :=
  ⟨idle_tileLaw, idle_queueLaw, by decide +kernel, rfl, by decide +kernel, lastNumber_tileLaw, lastNumber_queueLaw, by decide +kernel,
    rfl, rfl, rfl⟩

/-- The source QUEUED with two rounds passed over, and RETIRING. -/
def queued : Source := { src with state := .queued, firstTile := none, entryNo := some 3, passedOver := 2 }
def retiring : Source := { src with state := .retiring, omitted := true, releaseCount := 4 }
def withSource (r : Source) : State := { work with store := oneSource r ad }

theorem queued_tileLaw : TileLaw (withSource queued) :=
  tileLaw_one queued rfl rfl rfl rfl rfl (by decide) rfl (fun _ h => (nomatch h))

theorem retiring_tileLaw (removed : Bool) : TileLaw (withSource { retiring with removed := removed }) :=
  tileLaw_one { retiring with removed := removed } rfl rfl rfl rfl rfl (fun _ => rfl) rfl (fun f h => by cases h; decide)

/-- A state for each clause: DORMANT, QUEUED, OFFERED and RETIRING, wanted and, under a latch with WITHDRAW, not wanted. -/
theorem witness_evaluation_of_wanted : TileLaw idleSource ∧ visibleSource idleSource.store 7 = some dormant ∧
    TileLaw (withSource queued) ∧ visibleSource (withSource queued).store 7 = some queued ∧ queued.state = .queued ∧ TileLaw work ∧
    visibleSource work.store 7 = some src ∧ src.state = .offered ∧ TileLaw (withSource retiring) ∧
    visibleSource (withSource retiring).store 7 = some retiring ∧ retiring.state = .retiring ∧
    wantStands work.view 7 1 = true ∧ src.latch = false ∧ wantStands State.reset.view 7 1 = false :=
  ⟨idle_tileLaw, by decide +kernel, queued_tileLaw, by decide +kernel, rfl, work_tileLaw, by decide +kernel, rfl,
    retiring_tileLaw false, by decide +kernel, rfl, by decide +kernel, rfl, by decide +kernel⟩

/-- A notice of a manifest that wants the source's tag, with the tests on sources that the statement names. -/
theorem witness_notice_to_placement : TileLaw (withSource queued) ∧ 7 ∈ manifestTags work.view[(2 : Fin 9)].manifest ∧
    queued.removed = false ∧
    (∀ e : Source, (decide (e.removed = false ∧ (e.tag ∈ [9, 7] ∨ e.tag ∈ []))) = true ↔ e.removed = false ∧ (e.tag ∈ [9, 7] ∨ e.tag ∈ [])) ∧
    ∀ e : Source, (decide (wantStands work.view e.tag e.cls = true ∧ ¬ (e.latch = true ∧ e.action = .withdraw))) = true ↔
      wantStands work.view e.tag e.cls = true ∧ ¬ (e.latch = true ∧ e.action = .withdraw) :=
  ⟨queued_tileLaw, by decide +kernel, rfl, fun _ => decide_eq_true_iff, fun _ => decide_eq_true_iff⟩

/-- A station in LISTEN whose own lane still has a manifest, with a source that no span end latches: the LISTEN header of its
next own frame clears that manifest and sends its notices (R62). -/
def keeping : Source := { src with action := .mark }
def leaving : State :=
  { withSource keeping with
    station := station
    store := { oneSource keeping ad with sinks := [snk] }
    view := work.view.set 4 (viewOf .primary) }

theorem witness_own_notice : PlainBoundary 1 leaving ∧ TileLaw leaving ∧ SinkTable leaving ∧
    visibleSource leaving.store 7 = some keeping ∧ keeping.action ≠ .withdraw ∧ snk ∈ leaving.store.sinks ∧
    (4 : Fin 9) = leaving.station.number ∧ ownNotice leaving (after (.ownFrameStart [] []) leaving) = true ∧
    7 ∈ manifestTags leaving.view[(4 : Fin 9)].manifest ∧ 9 ∈ manifestTags leaving.view[(4 : Fin 9)].manifest :=
  ⟨⟨by decide, .inl (by decide)⟩, tileLaw_one keeping rfl rfl rfl rfl rfl (by decide) rfl (by intro f h; cases h; decide),
    ⟨work_sinkTable.tags, work_sinkTable.range⟩, by decide +kernel, by decide, List.mem_singleton.mpr rfl, by decide,
    by decide +kernel, by decide +kernel, by decide +kernel⟩

/-- A QUEUED class-10 source, and sixteen class-1 sources of which one stands in each of its places. -/
def tenth : Source := { queued with tag := 8, cls := 10 }
def blocker (i : Nat) : Source := { src with tag := 100 + i, firstTile := some (10 * i) }
def crowded : State :=
  { work with store := { OrderStore.empty with
      sources := tenth :: (List.range 16).map blocker
      tileMap := Vector.ofFn fun t : Fin 160 => if t.val % 10 = 0 then some (100 + t.val / 10) else none
      queue := [8] } }

theorem crowded_map : ∀ t : Fin 160, crowded.store.tileMap[t] = if t.val % 10 = 0 then some (100 + t.val / 10) else none := by
  intro t
  simp [crowded]

theorem crowded_sources {r : Source} (h : r ∈ crowded.store.sources) : r = tenth ∨ ∃ i, i < 16 ∧ r = blocker i := by
  rcases List.mem_cons.mp h with h | h
  · exact .inl h
  · obtain ⟨i, hi, rfl⟩ := List.mem_map.mp h
    exact .inr ⟨i, List.mem_range.mp hi, rfl⟩

theorem crowded_tileLaw : TileLaw crowded := by
  have at? : ∀ t : Nat, t < 160 → crowded.store.tileMap[t]? = some (if t % 10 = 0 then some (100 + t / 10) else none) := by
    intro t ht
    rw [Vector.getElem?_eq_getElem ht]
    exact congrArg some (crowded_map ⟨t, ht⟩)
  constructor
  · intro r h; rcases crowded_sources h with rfl | ⟨i, _, rfl⟩ <;> rfl
  · decide +kernel
  · intro r h e; rcases crowded_sources h with rfl | ⟨i, _, rfl⟩ <;> cases e
  · intro r h
    rcases crowded_sources h with rfl | ⟨i, hi, rfl⟩
    · exact ⟨rfl, fun f h => (nomatch h), fun f h => (nomatch h)⟩
    · refine ⟨rfl, ?_, ?_⟩ <;> intro f h <;> cases h <;> have hc : (blocker i).cls = 1 := rfl <;> rw [hc]
      · omega
      · intro t h1 h2
        rw [at? t (by omega), if_pos (by omega), show (blocker i).tag = 100 + i from rfl, show t / 10 = i by omega]
  · intro t tag h
    have ht : t < 160 := (Vector.getElem?_eq_some_iff.mp h).1
    rw [at? t ht] at h
    split at h
    · cases h
      exact ⟨blocker (t / 10), List.mem_cons_of_mem _ (List.mem_map.mpr ⟨t / 10, List.mem_range.mpr (by omega), rfl⟩),
        10 * (t / 10), rfl, rfl, by omega, by have : (blocker (t / 10)).cls = 1 := rfl; omega⟩
    · cases h
  · exact List.nodup_singleton 8
  · intro tag
    rw [show crowded.store.queue = [8] from rfl, List.mem_singleton]
    constructor
    · rintro rfl; exact ⟨tenth, List.mem_cons_self, rfl, rfl⟩
    · rintro ⟨r, h, rfl, e⟩; rcases crowded_sources h with rfl | ⟨i, _, rfl⟩
      · rfl
      · cases e

/-- No start is free for the class-10 source. -/
theorem witness_no_free_start : TileLaw crowded ∧ visibleSource crowded.store 8 = some tenth ∧
    ∀ first, first % tenth.cls = 0 → first + tenth.cls ≤ 160 →
      ∃ t, first ≤ t ∧ t < first + tenth.cls ∧ crowded.store.tileMap[t]? ≠ some none := by
  refine ⟨crowded_tileLaw, by decide +kernel, ?_⟩
  have hc : tenth.cls = 10 := rfl
  rw [hc]
  intro f h1 h2
  refine ⟨f, le_refl f, by omega, ?_⟩
  rw [Vector.getElem?_eq_getElem (by omega)]
  have := crowded_map ⟨f, by omega⟩
  rw [if_pos h1] at this
  rw [show crowded.store.tileMap[f]'(by omega) = _ from this]
  exact fun h => (nomatch h)

theorem witness_placement : TileLaw (withSource queued) ∧ visibleSource (withSource queued).store 7 = some queued ∧ 0 % queued.cls = 0 ∧
    0 + queued.cls ≤ 160 ∧ (∀ t, 0 ≤ t → t < 0 + queued.cls → (withSource queued).store.tileMap[t]? = some none) ∧
    (∀ lower : Nat, lower < 0 → lower % queued.cls = 0 →
      ∃ t, lower ≤ t ∧ t < lower + queued.cls ∧ (withSource queued).store.tileMap[t]? ≠ some none) := by
  refine ⟨queued_tileLaw, by decide +kernel, rfl, by decide, ?_, fun _ h => absurd h (Nat.not_lt_zero _)⟩
  intro t _ h
  obtain rfl : t = 0 := by
    have : queued.cls = 1 := rfl
    omega
  decide +kernel

theorem witness_freeing : TileLaw (withSource retiring) ∧ retiring ∈ (withSource retiring).store.sources ∧
    retiring.firstTile = some 0 ∧ retiring.removed = false ∧ TileLaw (withSource { retiring with removed := true }) ∧
    { retiring with removed := true } ∈ (withSource { retiring with removed := true }).store.sources :=
  ⟨retiring_tileLaw false, List.mem_singleton.mpr rfl, rfl, rfl, retiring_tileLaw true, List.mem_singleton.mpr rfl⟩

/-- The freed records of a pass in order of first tile: one, and none. -/
theorem witness_pass : TileLaw (withSource retiring) ∧
    [retiring].Perm ((withSource retiring).store.sources.filter fun r => r.state = .retiring ∧ r.omitted = true) ∧
    [retiring].Pairwise (fun a b => ∀ m n, a.firstTile = some m → b.firstTile = some n → m ≤ n) ∧
    (withSource retiring).station.state = .joined ∧ lastFrame.tx.due = [] :=
  ⟨retiring_tileLaw false, List.Perm.of_eq (by decide +kernel), List.pairwise_singleton _ _, by decide, by decide +kernel⟩

/-- Nothing wants the source, and the pass of the round start is due. -/
def unwanted : State := { work with view := State.reset.view, tx := { work.tx with due := [.pass] } }

theorem witness_release : unwanted.station.state ≠ .cold ∧ TileLaw unwanted ∧ visibleSource unwanted.store 7 = some src ∧
    RoundWork.pass ∈ unwanted.tx.due ∧ src.state = .offered ∧ src.releaseCount = 3 ∧ wantStands unwanted.view 7 1 = false ∧
    wantStands work.view 7 1 = true ∧ { src with releaseCount := 0 }.releaseCount ≠ 3 ∧ dormant.state ≠ .offered ∧
    RoundWork.pass ∉ work.tx.due :=
  ⟨by decide, tileLaw_one src rfl rfl rfl rfl rfl (by decide) rfl (fun f h => by cases h; decide), by decide +kernel, by decide, rfl,
    rfl, by decide +kernel, by decide +kernel, by decide, by decide, by decide +kernel⟩

/-- The WTR step of frame 0 is due; the sink of W 1 reverts at it. -/
def restoring : State := { work with tx := { work.tx with due := [.wtr] } }

theorem witness_wait_to_restore : restoring.station.state ≠ .cold ∧ SinkTable restoring ∧ findSink restoring.store 9 = some snk ∧
    restoring.tx.boundary = false ∧ RoundWork.wtr ∈ restoring.tx.due ∧ restoring.pins.hold = false ∧
    snk.sel = some (pick 2 .good .standby) ∧ candidates restoring 9 1 = [pick 1 .good .primary, pick 2 .good .standby] ∧
    [pick 1 .good .primary, pick 2 .good .standby].find? (fun c => decide (c.lane = (pick 2 .good .standby).lane)) =
      some (pick 2 .good .standby) ∧
    bestOf [pick 1 .good .primary, pick 2 .good .standby] = some (pick 1 .good .primary) ∧ 1 ≤ snk.w ∧ snk.wtr + 1 = snk.w ∧
    { snk with w := 255 }.wtr + 1 ≠ { snk with w := 255 }.w ∧ ¬ 1 ≤ { snk with w := 0 }.w ∧ RoundWork.wtr ∉ work.tx.due :=
  ⟨by decide, ⟨work_sinkTable.tags, work_sinkTable.range⟩, by decide +kernel, by decide +kernel, by decide, by decide +kernel, rfl,
    by decide +kernel, by decide, by decide +kernel, by decide, by decide, by decide, by decide, by decide +kernel⟩

/-- LISTEN with three whole rounds counted, a fourth ending, a selection age of 2, and the work due. -/
def joining : State := { up with timing := { up.timing with age := 2 }, tx := { up.tx with due := [.join] } }

theorem witness_join : joining.station.state = .listen ∧ joining.station.wholeRound = true ∧ RoundWork.join ∈ joining.tx.due ∧
    4 ≤ min 255 (joining.station.listenRounds + 1) ∧ 2 ≤ joining.timing.age ∧ up.timing.age < 2 ∧ RoundWork.join ∉ up.tx.due ∧
    work.station.state ≠ .listen := by decide +kernel

/-! Lanes. -/

def withLane (x : LaneRx) : State := { work with lanes := work.lanes.set 2 x }

theorem withLane_lane (x : LaneRx) : (withLane x).lanes[(2 : Fin 9)] = x := by simp [withLane]

/-- A lane ALIGNING at candidate 24 with two matches, and its completing state. -/
def aligning : LaneRx := { LaneRx.cold with state := .aligning, capture := some 24, candidate := some 24, matchCount := 2, windowMarker := true }

theorem witness_markers : work.station.state ≠ .cold ∧ (2 : Fin 9) ≠ work.station.number ∧
    (withLane LaneRx.cold).lanes[(2 : Fin 9)].state = .absent ∧ (withLane aligning).lanes[(2 : Fin 9)].state = .aligning ∧
    aligning.candidate = some 24 ∧ (24 : Int) - 1 ≤ ((25 : Nat) : Int) ∧ ((25 : Nat) : Int) ≤ 24 + 1 ∧ (24 : Int) + 1 < ((26 : Nat) : Int) :=
  ⟨by decide, by decide, by rw [withLane_lane]; rfl, by rw [withLane_lane]; rfl, rfl, by decide, by decide, by decide⟩

/-- A lane at held skew 24 with fifteen good markers above it counted, and one with a drift counted. -/
def tracking : LaneRx := { lane 2 with held := some 24, trackCount := 15, trackMinus := false }
def drifting : LaneRx := { lane 2 with held := some (-24), drift := 1 }

theorem witness_aligned_markers : (withLane tracking).lanes[(2 : Fin 9)].state = .aligned ∧ tracking.held = some 24 ∧
    (24 : Int) ≠ ((26 : Nat) : Int) ∧ ((26 : Nat) : Int) ≤ 24 + 2 ∧ tracking.trackCount = 15 ∧
    tracking.trackMinus = decide (((26 : Nat) : Int) < 24) ∧ (24 : Int) + 2 < ((27 : Nat) : Int) ∧ tracking.drift = 0 ∧
    drifting.held = some (-24) ∧ drifting.drift ≠ 0 ∧ ((141 : Nat) : Int) - 168 < -24 - 2 ∧ (lane 2).trackCount = 0 ∧
    { tracking with trackCount := 1 }.trackCount ≠ 15 := by
  refine ⟨by rw [withLane_lane]; rfl, ?_⟩
  decide

/-- A header from station `n` in frame `f`, JOINED, as it is sent. -/
def header (n f : Nat) : Heard :=
  { station := n, epoch := 0, joined := true, round := 1, frag := f, level := 1, source := 9, light := 1, count := 1 }

def words (n f : Nat) : List Word := headerWords (header n f) (List.replicate 8 Slot.empty)

theorem witness_headers : checkGood ((words 2 15).take 29) = true ∧ heardOf (words 2 15) = header 2 15 ∧ (header 2 15).station = (2 : Fin 9).val ∧
    (heardOf (words 3 0)).station ≠ (2 : Fin 9).val ∧ checkGood ((words 3 0).take 29) = true ∧
    checkGood (((words 2 0).set 28 0).take 29) = false ∧ { aligning with matchCount := 3 }.matchCount = 3 ∧ aligning.matchCount ≠ 3 ∧
    (-24 : Int) ≤ 24 ∧ (24 : Int) ≤ 24 := by decide +kernel

/-- A window without a marker: the first, and the eighth in a row. -/
def silent (x : LaneRx) (n : Nat) : LaneRx := { x with windowMarker := false, windowHeader := false, missed := n }

theorem witness_windows : (withLane (silent aligning 6)).lanes[(2 : Fin 9)].missed < 7 ∧ 7 ≤ (silent aligning 7).missed ∧
    aligning.windowMarker = true ∧ (lane 2).state = .aligned ∧ (lane 2).windowMarker = true ∧ (lane 2).windowHeader = true ∧
    (silent (lane 2) 6).windowHeader = false ∧ (silent (lane 2) 6).missed < 7 ∧ (silent (lane 2) 7).windowMarker = false ∧
    7 ≤ (silent (lane 2) 7).missed ∧ { silent (lane 2) 6 with windowMarker := true }.windowMarker = true ∧
    { silent (lane 2) 6 with windowHeader := true }.windowHeader = true := by
  refine ⟨by rw [withLane_lane]; decide, ?_⟩
  decide

/-- A view record two incomplete rounds old, whose round ends now. -/
def stale : LaneView := { viewOf .standby with stale := 2, nextIndex := some 15 }
def staleLane : State := { withLane (silent (lane 2) 6) with view := work.view.set 2 stale }

/-- The exits: no tag of a sink is shared, the sink follows the lane that leaves, and the lane's flag goes with it; a header
of the qualified lane leaves the flag. -/
theorem witness_exits : SinkTable (withLane drifting) ∧ SinkTable (withLane (silent (lane 2) 7)) ∧ SinkTable work ∧
    (withLane drifting).store.sinks.any (fun k => k.sel.any (·.lane = 2)) = true ∧
    (withLane drifting).timing.lanes[(2 : Fin 9)].qualified = true ∧
    (after (.laneMarkerArrival 2 141) (withLane drifting)).timing.lanes[(2 : Fin 9)].qualified = false ∧
    (after (.laneHeaderReceived 2 (words 2 0) []) work).timing.lanes[(2 : Fin 9)].qualified = true :=
  ⟨⟨work_sinkTable.tags, work_sinkTable.range⟩, ⟨work_sinkTable.tags, work_sinkTable.range⟩, work_sinkTable,
    by decide +kernel, by decide +kernel, by decide +kernel, by decide +kernel⟩

/-- R37, R40, R83, R86, R161: the second drift of lane 2 moves the sink to lane 1, counts one switch, and leaves no source but
FREE at level 8. -/
theorem test_exit_switches_and_reselects :
    let t := after (.laneMarkerArrival 2 141) (withLane drifting)
    t.store.sinks.map (fun k => (k.sel.map (·.lane), k.switches)) = [(some 1, 2)] ∧ t.timing.selected = .free ∧
      t.timing.level = 8 ∧ t.timing.holdover = true := by decide +kernel

/-- The sixteen fragments of a manifest of one WANT. -/
def oneWant : Fin 16 → List Slot := fun i =>
  if i.val = 0 then (Entry.want 7 1).slot :: List.replicate 7 Slot.empty else List.replicate 8 Slot.empty

theorem witness_lane_rounds : wellFormedEntries 1 ((List.finRange 16).flatMap oneWant) = some [.want 7 1] ∧
    LaneView.cold.nextIndex = none ∧ stale.nextIndex = some 15 ∧ staleLane.station.state ≠ .cold ∧
    (2 : Fin 9) ≠ staleLane.station.number ∧ staleLane.lanes[(2 : Fin 9)].state = .aligned ∧ staleLane.view[(2 : Fin 9)].stale = 2 ∧
    staleLane.view[(2 : Fin 9)].manifest ≠ none ∧ staleLane.lanes[(2 : Fin 9)].windowHeader = false ∧
    staleLane.view[(2 : Fin 9)].nextIndex = some 15 ∧ staleLane.lanes[(2 : Fin 9)].missed < 7 ∧
    checkGood ((words 2 15).take 29) = true ∧ heardOf (words 2 15) = header 2 15 ∧ staleLane.view[(2 : Fin 9)].assembly = none ∧
    (∀ old, staleLane.lanes[(2 : Fin 9)].heard = some old → old.epoch = (header 2 15).epoch) ∧
    State.reset.lanes[(2 : Fin 9)].state ≠ .aligned := by decide +kernel

/-- A record gathering fragment 14, and one that expects fragment 0. -/
def gathering : LaneView :=
  { viewOf .standby with nextIndex := some 14, assembly := some { round := 1, count := 1, frags := [(0, [])], broken := false } }

theorem witness_fragments : gathering.nextIndex = some 14 ∧ gathering.assembly.isSome = true ∧ (header 2 14).frag = 14 ∧
    (header 2 0).frag < 15 ∧ 14 ≠ (header 2 0).frag ∧ { header 2 14 with joined := false }.joined = false ∧
    work.lanes[(2 : Fin 9)].state = .aligned ∧ (2 : Fin 9) ≠ work.station.number ∧ checkGood ((words 2 14).take 29) = true ∧
    heardOf (words 2 14) = header 2 14 ∧ (viewOf .standby).manifest ≠ none ∧ LaneView.cold.manifest = none := by decide +kernel

/-- Fragment 15 at its place and at another, of a round that lacks fragments, and unheard frames below index 15. -/
theorem witness_last_fragment : { gathering with nextIndex := some 15 }.nextIndex = some 15 ∧ (header 2 15).frag = 15 ∧
    gathering.assembly.map (fun a => a.frags.map Prod.fst) ≠ some (List.range 15) ∧ 14 ≠ (header 2 15).frag ∧
    LaneView.cold.assembly = none ∧ LaneView.cold.nextIndex = none ∧ gathering.nextIndex = some 14 ∧ 14 < 15 := by decide +kernel

/-- A view record one incomplete round old, whose round is broken off by a header of fragment 15. -/
def aging : LaneView := { gathering with stale := 1 }
def agingLane : State := { withLane (silent (lane 2) 6) with view := work.view.set 2 aging }

theorem witness_two_rounds : agingLane.station.state ≠ .cold ∧ agingLane.lanes[(2 : Fin 9)].state = .aligned ∧
    agingLane.view[(2 : Fin 9)].manifest ≠ none ∧ agingLane.view[(2 : Fin 9)].nextIndex = some 14 ∧ 14 ≠ (header 2 15).frag ∧
    agingLane.view[(2 : Fin 9)].assembly ≠ none ∧ agingLane.view[(2 : Fin 9)].stale + 2 = 3 ∧ { aging with stale := 2 }.stale = 2 ∧
    (∀ old, agingLane.lanes[(2 : Fin 9)].heard = some old → old.epoch = (header 2 15).epoch) := by decide +kernel

/-- A record two incomplete rounds old whose last fragment comes in its place to an assembly that lacks fragments. -/
def lacking : LaneView := { gathering with nextIndex := some 15, stale := 2 }

theorem witness_lacking : (∃ a, lacking.assembly = some a ∧ a.frags.map Prod.fst ≠ List.range 15) ∧ lacking.nextIndex = some 15 ∧
    lacking.stale = 2 ∧ lacking.manifest ≠ none ∧ (header 2 15).frag = 15 ∧ (header 2 15).joined = true ∧
    (withLane (silent (lane 2) 6)).lanes[(2 : Fin 9)].missed < 7 :=
  ⟨⟨_, rfl, by decide⟩, rfl, rfl, by decide, rfl, rfl, by decide⟩

/-- R51, R55: a header of fragment 15 out of its place ends two rounds, and clears a manifest one round old. -/
theorem test_two_rounds_end_at_once :
    (after (.staleManifestClear 2 (.header (words 2 15) [])) agingLane).view[(2 : Fin 9)].manifest = none ∧
    (after (.staleManifestClear 2 (.header (words 2 15) [])) agingLane).view[(2 : Fin 9)].incompletes = 2 ∧
    staleReaches 2 .unheard agingLane = false := by decide +kernel

def almostAll : Assembly :=
  { round := 1, count := 1, frags := ((List.finRange 16).take 15).map fun i => (i.val, oneWant i), broken := false }

/-- A DORMANT source, its item unflagged, and lane 2 one fragment before a manifest that wants it. -/
def awaited : State :=
  { idleSource with
    view := State.reset.view.set 2 { LaneView.cold with nextIndex := some 15, assembly := some almostAll }
    report := { work.report with sources := [(7, { snap := sourceReport work.carriers.ports dormant, flag := false })] } }

/-- R39, R183: another station's header brings the manifest that queues the source, and the exit that dequeues it; the flag
stays set. -/
theorem test_away_and_back_stays_flagged :
    ((after (.laneHeaderReceived 2 (words 3 15) []) awaited).store.sources.map (·.state) = [.dormant]) ∧
    ((after (.laneHeaderReceived 2 (words 3 15) []) awaited).report.sources.map (·.2.flag) = [true]) := by decide +kernel

/-- R50, R53, R55: fragment 15 of another station's header still ends the round of the ALIGNED lane incomplete. -/
theorem test_header_of_other_station_counts :
    ((after (.laneHeaderReceived 2 (words 3 15) []) staleLane).view[(2 : Fin 9)]).incompletes = 1 ∧
    ((after (.laneHeaderReceived 2 (words 3 15) []) staleLane).lanes[(2 : Fin 9)]).state = .aligning := by decide +kernel

/-! Carriers and timing. -/

def withPort (x : CarrierPort) : State := { work with carriers := { work.carriers with ports := work.carriers.ports.set 3 x } }

def confirming : CarrierPort := { CarrierPort.cold with framer := .confirm, confirm := some 2, expected := some 170 }
def synced : CarrierPort := { CarrierPort.cold with framer := .sync, missing := 3, expected := some 10, receiving := true }

theorem witness_framer : (withPort confirming).carriers.ports[(3 : Fin 4)] = confirming ∧ confirming.expected = some 170 ∧
    (170 : Int) - 2 ≤ ((168 : Nat) : Int) ∧ ((172 : Nat) : Int) ≤ 170 + 2 ∧ (170 : Int) + 2 < ((173 : Nat) : Int) ∧
    confirming.confirm = some 2 ∧ { confirming with confirm := some 1 }.confirm = some 1 ∧ synced.framer = .sync ∧ 3 ≤ synced.missing ∧
    { synced with missing := 2 }.missing < 3 ∧ CarrierPort.cold.framer = .hunt := by
  refine ⟨by simp [withPort], ?_⟩
  decide

/-- A carrier-ingress source on port 3 in SYNC. -/
def bound : Source := { dormant with binding := .carrier 3 39 }
def boundAd : Adapter := newAdapter .carrierSource 7 1 300000 2
def extracting : State :=
  { withPort synced with store := { OrderStore.empty with
      sources := [bound]
      carrierIn := OrderStore.empty.carrierIn.set 3 (setRange OrderStore.empty.carrierIn[3] 39 1 (some 7))
      pool := OrderStore.empty.pool.set 0 (some boundAd)
      freeStore := 323584 } }

theorem extracting_ownerLaw : OwnerLaw extracting := by
  have hp : ∀ n : Fin 96, extracting.store.pool[n] = if n = 0 then some boundAd else none := by decide +kernel
  have ci : ∀ p : Fin 32, extracting.store.clientIn[p] = none ∧ extracting.store.clientEgr[p] = none := by decide +kernel
  have ri : ∀ (p : Fin 4) (i : Fin 40), extracting.store.carrierIn[p][i] = if p = 3 ∧ i = 39 then some 7 else none := by decide +kernel
  have re : ∀ (p : Fin 4) (i : Fin 40), extracting.store.carrierEgr[p][i] = none := by decide +kernel
  have s1 : extracting.store.sources = [bound] := rfl
  have s2 : extracting.store.sinks = [] := rfl
  constructor
  · rw [s1]; simp
  · rw [s2]; simp
  · rw [s1]; intro r hr _; rw [List.mem_singleton.mp hr]
    exact ⟨0, rfl, boundAd, hp 0, rfl, rfl, rfl, rfl, rfl⟩
  · rw [s1]; intro r hr h; rw [List.mem_singleton.mp hr] at h; cases h
  · rw [s2]; intro k hk; cases hk
  · rw [s2]; intro k hk; cases hk
  · intro n h
    rw [hp n] at h
    split at h
    · exact .inl ⟨bound, by rw [s1]; simp, rfl, by subst n; rfl⟩
    · exact absurd rfl h
  · intro p tag
    rw [(ci p).1, s1]
    refine ⟨fun h => (nomatch h), ?_⟩
    rintro ⟨r, hr, _, _, hb⟩
    rw [List.mem_singleton.mp hr] at hb
    cases hb
  · intro p tag
    rw [(ci p).2, s2]
    exact ⟨fun h => (nomatch h), fun ⟨_, hk, _⟩ => (nomatch hk)⟩
  · intro p i tag
    rw [ri p i, s1]
    constructor
    · intro h
      split at h
      · rename_i hpi
        exact ⟨bound, by simp, rfl, by cases h; rfl, 39, by rw [hpi.1]; rfl, by rw [hpi.2]; decide, by rw [hpi.2]; decide⟩
      · cases h
    · rintro ⟨r, hr, _, rfl, f, hb, h1, h2⟩
      rw [List.mem_singleton.mp hr] at hb h2 ⊢
      cases hb
      have hc : bound.cls = 1 := rfl
      rw [hc] at h2
      have : i = 39 := Fin.ext (by show i.val = 39; omega)
      subst this
      rfl
  · intro p i tag
    rw [re p i, s2]
    exact ⟨fun h => (nomatch h), fun ⟨_, hk, _⟩ => (nomatch hk)⟩

/-- A far-end frame whose last tile carries the source's tag, one that is vacant there, and one with a bad check. -/
def farFrame : CarrierFrame :=
  carrierFrame (carrierHeader 8 3) ((List.range 40).map (tileOf [{ first := 39, cls := 1, tag := 7, mark := .good, fill := 1, blocks := [.replacement] }]))

theorem witness_far_end : extracting.station.state ≠ .cold ∧ extracting.carriers.ports[(3 : Fin 4)].framer = .sync ∧
    extracting.carriers.ports[(3 : Fin 4)].receiving = true ∧ OwnerLaw extracting ∧ carrierCheckGood farFrame = true ∧
    carrierCheckGood { farFrame with tiles := [] } = false ∧ bound ∈ extracting.store.sources ∧ bound.removed = false ∧
    bound.adapter = some 0 ∧ extracting.store.pool[(0 : Fin 96)] = some boundAd ∧
    readGroup farFrame.tiles 39 1 7 = some (.good, [.replacement]) ∧ readGroup [] 39 1 7 = none ∧
    work.carriers.ports[(3 : Fin 4)].framer ≠ .sync :=
  ⟨by decide, by decide +kernel, by decide +kernel, extracting_ownerLaw, by decide +kernel, by decide +kernel,
    List.mem_singleton.mpr rfl, rfl, rfl, by decide +kernel, by decide +kernel, by decide +kernel, by decide +kernel⟩

/-- The same when the next frame's marker has been taken already. -/
def overtaken : State :=
  { extracting with carriers := { extracting.carriers with
      ports := extracting.carriers.ports.set 3 { synced with receivingOld := true } } }

theorem witness_far_end_overtaken : OwnerLaw overtaken ∧ overtaken.carriers.ports[(3 : Fin 4)].framer = .sync ∧
    overtaken.carriers.ports[(3 : Fin 4)].receivingOld = true ∧ extracting.carriers.ports[(3 : Fin 4)].receivingOld = false := by
  have h := extracting_ownerLaw
  exact ⟨⟨h.sourceTags, h.sinkTags, h.sources, h.hidden, h.clientSinks, h.carrierSinks, h.records, h.clientIn, h.clientEgr,
    h.carrierIn, h.carrierEgr⟩, by decide +kernel, by decide +kernel, by decide +kernel⟩

theorem witness_other_record : ∀ r ∈ extracting.store.sources, r.removed = false → r.carrierPort = some 3 → r.adapter ≠ some 1 := by
  intro r hr _ _
  rw [List.mem_singleton.mp hr]
  decide

theorem witness_other_port : src ∈ work.store.sources ∧ src.removed = false ∧ src.carrierPort ≠ some 3 :=
  ⟨List.mem_singleton.mpr rfl, rfl, by decide⟩

def counting : TimingUnit := { work.timing with refState := .counting, refRun := 63, refExpected := some 168 }
def qualified : TimingUnit := { work.timing with refState := .qualified, refRun := 64, refMissing := 2, refExpected := some 168 }

theorem witness_reference : work.station.refUse = true ∧ up.timing.refState = .idle ∧ counting.refExpected = some 168 ∧
    (168 : Int) - 1 ≤ ((167 : Nat) : Int) ∧ ((169 : Nat) : Int) ≤ 168 + 1 ∧ (168 : Int) + 1 < ((170 : Nat) : Int) ∧
    counting.refRun = 63 ∧ { counting with refRun := 0 }.refRun ≠ 63 ∧ qualified.refState = .qualified ∧ 2 ≤ qualified.refMissing ∧
    { qualified with refMissing := 1 }.refMissing < 2 ∧ State.reset.station.refUse = false := by decide +kernel

theorem witness_selection : work.lanes[(2 : Fin 9)].heard = (lane 2).heard ∧ qualified.refState = .qualified ∧
    work.timing.refState ≠ .qualified ∧ work.timing.lanes[(2 : Fin 9)].qualified = true ∧
    (∀ m : Fin 9, work.timing.lanes[m].qualified = true → heardLevel work.lanes[(2 : Fin 9)] < heardLevel work.lanes[m] ∨
      (heardLevel work.lanes[(2 : Fin 9)] = heardLevel work.lanes[m] ∧ (2 : Fin 9) ≤ m)) ∧
    (∀ l : Fin 9, up.timing.lanes[l].qualified = false) ∧ (chooseSource work).1 = work.timing.selected ∧
    (chooseSource { up with timing := qualified }).1 = .ref ∧ ({ up with timing := qualified }).timing.selected ≠ .ref ∧
    lastFrame.tx.frame = 15 ∧ lastFrame.tx.due = [] := by decide +kernel

theorem witness_selection_age : TimingLaw lastFrame ∧ lastFrame.timing.changed = false ∧
    (after (.ownRoundStart [.timing]) lastFrame).timing.selected = lastFrame.timing.selected ∧
    { lastFrame.timing with changed := true }.changed = true ∧
    (after (.ownRoundStart [.timing]) { lastFrame with timing := { lastFrame.timing with selected := .free } }).timing.selected ≠
      .free :=
  ⟨⟨work_timingLaw.cold, work_timingLaw.judged, work_timingLaw.follows⟩, by decide +kernel, by decide +kernel, rfl, by decide +kernel⟩

/-- A state with the items of both orders. -/
def reported : State :=
  { work with report := { work.report with
      sources := [(7, { snap := sourceReport work.carriers.ports src, flag := false })]
      sinks := [(9, { snap := sinkReport snk, flag := true })] } }

theorem witness_items : reported.report.sources[0]?.map (·.1) = some 7 ∧ reported.report.sinks[0]?.map (·.1) = some 9 ∧
    reported.report.sinks[0]?.map (·.2.flag) = some true ∧ visibleSource reported.store 7 = some src ∧
    findSink reported.store 9 = some snk ∧ AttentionLaw reported ∧ (∃ t, step reported = .next t) ∧
    ∃ t, exec .holdAsserted reported = .next t :=
  ⟨rfl, rfl, rfl, by decide +kernel, by decide +kernel, by unfold AttentionLaw; decide +kernel, ⟨_, rfl⟩, _, rfl⟩

/-- A source whose item still shows it DORMANT, at the boundary of an own frame. -/
def shown : State :=
  { work with report := { work.report with
      sources := [(7, { snap := sourceReport work.carriers.ports dormant, flag := false })] } }

theorem witness_departing_item : PlainBoundary 1 shown ∧ TileLaw shown ∧ OwnerLaw shown ∧
    visibleSource shown.store 7 = some src ∧ src.adapter = some 0 ∧ shown.store.pool[(0 : Fin 96)] = some ad ∧
    ad.ended = none ∧ sourceReport shown.carriers.ports src ≠ sourceReport work.carriers.ports dormant := by
  have h := work_ownerLaw
  have g := work_tileLaw
  exact ⟨⟨by decide, .inl (by decide)⟩, ⟨g.classes, g.tags, g.hidden, g.tiles, g.owned, g.queue, g.queued⟩,
    ⟨h.sourceTags, h.sinkTags, h.sources, h.hidden, h.clientSinks, h.carrierSinks, h.records, h.clientIn, h.clientEgr,
      h.carrierIn, h.carrierEgr⟩, by decide +kernel, rfl, by decide +kernel, by decide, by decide +kernel⟩

theorem witness_reports : work.station.state ≠ .cold ∧ finish work work = finish work work ∧ findSink work.store 9 = some snk ∧
    visibleSource work.store 7 = some src ∧ State.reset.station.state = .cold := ⟨by decide, rfl, by decide +kernel, by decide +kernel, rfl⟩

end Sys2Proof.Tests
end

section
/-! PROOFS. The first law of the device (R73) and the second part of the eighth (R66), brought to a form that speaks of one
source order at a time, and what a change of the order store has to show to keep it. -/

namespace Sys2Proof.Placement

open Sys2Proof.Machine Sys2Proof.Safety

/-! ### The laws, record by record -/

/-- Tile `t` is one of the order's own by its record: its first tile, and class-many from it on. -/
def Covers (r : Source) (t : Nat) : Prop := ∃ f, r.firstTile = some f ∧ f ≤ t ∧ t < f + r.cls

/-- What the laws say of one source order against a tile map and a queue. The part on WITHDRAW is asked for the tags of
`w` alone, so that a latch may be set before the evaluation that answers it. -/
structure RecordLaw (w : Nat → Prop) (m : Vector (Option Nat) 160) (q : List Nat) (r : Source) : Prop where
  classes : classOk r.cls = true
  hidden : r.removed = true → r.state = .retiring
  present : r.firstTile.isSome = holdsTiles r
  aligned : ∀ f, r.firstTile = some f → f % r.cls = 0 ∧ f + r.cls ≤ 160
  covers : ∀ t : Nat, m[t]? = some (some r.tag) ↔ Covers r t
  queued : r.tag ∈ q ↔ r.state = .queued
  withdraw : w r.tag → r.latch = true → r.action = .withdraw → r.state ≠ .queued

/-- The invariant: the first law, and for the tags of `w` the second part of the eighth (`placementLaw_iff`). -/
structure PlacementLaw (w : Nat → Prop) (s : State) : Prop where
  tags : (s.store.sources.map (·.tag)).Nodup
  queue : s.store.queue.Nodup
  records : ∀ r ∈ s.store.sources, RecordLaw w s.store.tileMap s.store.queue r
  heldKnown : ∀ t tag : Nat, s.store.tileMap[t]? = some (some tag) → tag ∈ s.store.sources.map (·.tag)
  queuedKnown : ∀ tag ∈ s.store.queue, tag ∈ s.store.sources.map (·.tag)

variable {w : Nat → Prop} {s t : State} {r : Source}

theorem PlacementLaw.eq_of_tag (h : PlacementLaw w s) {e : Source} (he : e ∈ s.store.sources) (hr : r ∈ s.store.sources)
    (ht : e.tag = r.tag) : e = r :=
  List.inj_on_of_nodup_map h.tags he hr ht

theorem PlacementLaw.tileLaw (h : PlacementLaw w s) : TileLaw s where
  classes r hr := (h.records r hr).classes
  tags := h.tags
  hidden r hr := (h.records r hr).hidden
  tiles r hr :=
    { present := (h.records r hr).present
      aligned := (h.records r hr).aligned
      held := fun f hf t h1 h2 => ((h.records r hr).covers t).mpr ⟨f, hf, h1, h2⟩ }
  owned t tag ht := by
    obtain ⟨r, hr, rfl⟩ := List.mem_map.mp (h.heldKnown t tag ht)
    obtain ⟨f, hf, h1, h2⟩ := ((h.records r hr).covers t).mp ht
    exact ⟨r, hr, f, rfl, hf, h1, h2⟩
  queue := h.queue
  queued tag := by
    constructor
    · intro hq
      obtain ⟨r, hr, rfl⟩ := List.mem_map.mp (h.queuedKnown tag hq)
      exact ⟨r, hr, rfl, (h.records r hr).queued.mp hq⟩
    · rintro ⟨r, hr, rfl, hst⟩
      exact (h.records r hr).queued.mpr hst

theorem placementLaw_of_tileLaw (h : TileLaw s)
    (hw : ∀ r ∈ s.store.sources, w r.tag → r.latch = true → r.action = .withdraw → r.state ≠ .queued) :
    PlacementLaw w s where
  tags := h.tags
  queue := h.queue
  records r hr :=
    { classes := h.classes r hr
      hidden := h.hidden r hr
      present := (h.tiles r hr).present
      aligned := (h.tiles r hr).aligned
      covers := by
        intro t
        constructor
        · intro ht
          obtain ⟨e, he, f, htag, hf, h1, h2⟩ := h.owned t r.tag ht
          obtain rfl := List.inj_on_of_nodup_map h.tags he hr htag
          exact ⟨f, hf, h1, h2⟩
        · rintro ⟨f, hf, h1, h2⟩
          exact (h.tiles r hr).held f hf t h1 h2
      queued := by
        rw [h.queued]
        constructor
        · rintro ⟨e, he, htag, hst⟩
          rwa [← List.inj_on_of_nodup_map h.tags he hr htag]
        · exact fun hst => ⟨r, hr, rfl, hst⟩
      withdraw := hw r hr }
  heldKnown t tag ht := by
    obtain ⟨r, hr, _, htag, _⟩ := h.owned t tag ht
    exact List.mem_map.mpr ⟨r, hr, htag⟩
  queuedKnown tag hq := by
    obtain ⟨r, hr, htag, _⟩ := (h.queued tag).mp hq
    exact List.mem_map.mpr ⟨r, hr, htag⟩

/-- The invariant with no tag in `w` is the first law alone. -/
theorem placementLaw_none_iff : PlacementLaw (fun _ => False) s ↔ TileLaw s :=
  ⟨fun h => h.tileLaw, fun h => placementLaw_of_tileLaw h fun _ _ hw => hw.elim⟩

/-- The invariant with every tag in `w` is both laws. -/
theorem placementLaw_all_iff : PlacementLaw (fun _ => True) s ↔ TileLaw s ∧ WithdrawLaw s :=
  ⟨fun h => ⟨h.tileLaw, fun r hr => (h.records r hr).withdraw trivial⟩,
    fun ⟨h, hw⟩ => placementLaw_of_tileLaw h fun r hr _ => hw r hr⟩

/-! ### Which tags the part on WITHDRAW is asked for -/

/-- The tags of `w` but for one. -/
def except (w : Nat → Prop) (tag : Nat) : Nat → Prop := fun x => x ≠ tag ∧ w x

theorem RecordLaw.weaken {w' : Nat → Prop} {m : Vector (Option Nat) 160} {q : List Nat} (h : RecordLaw w m q r)
    (hw : w' r.tag → w r.tag) : RecordLaw w' m q r :=
  { h with withdraw := fun h' => h.withdraw (hw h') }

theorem PlacementLaw.except (h : PlacementLaw w s) (tag : Nat) : PlacementLaw (except w tag) s :=
  { h with records := fun r hr => (h.records r hr).weaken fun hw => hw.2 }

/-- A tag left out comes back when its order is no QUEUED order latched with WITHDRAW. -/
theorem PlacementLaw.restore {tag : Nat} (h : PlacementLaw (Placement.except w tag) s)
    (hr : ∀ r ∈ s.store.sources, r.tag = tag → r.latch = true → r.action = .withdraw → r.state ≠ .queued) :
    PlacementLaw w s :=
  { h with
    records := fun r hm =>
      { h.records r hm with
        withdraw := fun hw => by
          by_cases ht : r.tag = tag
          · exact hr r hm ht
          · exact (h.records r hm).withdraw ⟨ht, hw⟩ } }

/-! ### Changes that move no order -/

/-- The laws read the source table, the tile map and the queue alone. -/
theorem PlacementLaw.congr (h : PlacementLaw w s) (hs : t.store.sources = s.store.sources)
    (hm : t.store.tileMap = s.store.tileMap) (hq : t.store.queue = s.store.queue) : PlacementLaw w t := by
  obtain ⟨h1, h2, h3, h4, h5⟩ := h
  rw [← hs, ← hm, ← hq] at h3
  rw [← hs] at h1 h4 h5
  rw [← hq] at h2 h5
  rw [← hm] at h4
  exact ⟨h1, h2, h3, h4, h5⟩

theorem PlacementLaw.of_store (h : PlacementLaw w s) (e : t.store = s.store) : PlacementLaw w t :=
  h.congr (by rw [e]) (by rw [e]) (by rw [e])

/-- A record `r'` that can stand in the place of `r` for the laws. -/
structure SamePlace (w : Nat → Prop) (r r' : Source) : Prop where
  tag : r'.tag = r.tag
  cls : r'.cls = r.cls
  first : r'.firstTile = r.firstTile
  holds : holdsTiles r' = holdsTiles r
  queued : r'.state = .queued ↔ r.state = .queued
  hidden : (r.removed = true → r.state = .retiring) → r'.removed = true → r'.state = .retiring
  latched : w r.tag → r'.latch = true → r'.action = .withdraw → r.latch = true ∧ r.action = .withdraw

/-- The fields of a source order that the laws read. -/
def placeOf (r : Source) : Nat × Nat × Option Nat × SourceState × Bool × Bool × FailedAction :=
  (r.tag, r.cls, r.firstTile, r.state, r.removed, r.latch, r.action)

theorem SamePlace.of_placeOf {r' : Source} (e : placeOf r' = placeOf r) : SamePlace w r r' := by
  simp only [placeOf, Prod.mk.injEq] at e
  obtain ⟨tag, cls, first, state, removed, latch, action⟩ := e
  exact
  { tag := tag
    cls := cls
    first := first
    holds := by simp only [holdsTiles, state]
    queued := by rw [state]
    hidden := by rw [removed, state]; exact id
    latched := fun _ hl ha => ⟨latch ▸ hl, action ▸ ha⟩ }

theorem SamePlace.recordLaw {r' : Source} {m : Vector (Option Nat) 160} {q : List Nat} (e : SamePlace w r r')
    (h : RecordLaw w m q r) : RecordLaw w m q r' where
  classes := by rw [e.cls]; exact h.classes
  hidden := e.hidden h.hidden
  present := by rw [e.first, e.holds]; exact h.present
  aligned := by rw [e.first, e.cls]; exact h.aligned
  covers t := by rw [e.tag, h.covers t]; simp only [Covers, e.first, e.cls]
  queued := by rw [e.tag, h.queued, e.queued]
  withdraw hr hl ha hq := by
    rw [e.tag] at hr
    obtain ⟨hl, ha⟩ := e.latched hr hl ha
    exact h.withdraw hr hl ha (e.queued.mp hq)

/-- A rewrite of the source table that leaves every order in its place. -/
theorem PlacementLaw.map (h : PlacementLaw w s) (f : Source → Source) (hs : t.store.sources = s.store.sources.map f)
    (hm : t.store.tileMap = s.store.tileMap) (hq : t.store.queue = s.store.queue)
    (hf : ∀ r ∈ s.store.sources, SamePlace w r (f r)) : PlacementLaw w t := by
  have tags : t.store.sources.map (·.tag) = s.store.sources.map (·.tag) := by
    rw [hs, List.map_map]
    exact List.map_congr_left fun r hr => (hf r hr).tag
  constructor
  · rw [tags]; exact h.tags
  · rw [hq]; exact h.queue
  · rw [hs, hm, hq]
    intro e he
    obtain ⟨r, hr, rfl⟩ := List.mem_map.mp he
    exact (hf r hr).recordLaw (h.records r hr)
  · rw [tags, hm]; exact h.heldKnown
  · rw [tags, hq]; exact h.queuedKnown

/-- An update of one order that leaves it in its place. -/
theorem PlacementLaw.updateSource (h : PlacementLaw w s) (tag : Nat) (f : Source → Source)
    (hf : ∀ r ∈ s.store.sources, r.tag = tag → SamePlace w r (f r)) : PlacementLaw w (updateSource tag f s) := by
  refine h.map (fun r => if r.tag = tag then f r else r) rfl rfl rfl fun r hr => ?_
  split
  · exact hf r hr ‹_›
  · exact .of_placeOf rfl

/-! ### Changes of one order -/

/-- Tile map and queue say the same in `t` as in `s` of every tag but one. -/
structure AgreeOff (tag : Nat) (s t : State) : Prop where
  held : ∀ (n x : Nat), x ≠ tag → (t.store.tileMap[n]? = some (some x) ↔ s.store.tileMap[n]? = some (some x))
  queued : ∀ x, x ≠ tag → (x ∈ t.store.queue ↔ x ∈ s.store.queue)

theorem RecordLaw.frame {tag : Nat} (a : AgreeOff tag s t) (hr : r.tag ≠ tag)
    (h : RecordLaw w s.store.tileMap s.store.queue r) : RecordLaw w t.store.tileMap t.store.queue r :=
  { h with
    covers := fun n => (a.held n r.tag hr).trans (h.covers n)
    queued := (a.queued r.tag hr).trans h.queued }

/-- One order changes with its tiles and its place in the queue: the laws are to be shown of it alone. -/
theorem PlacementLaw.replace (h : PlacementLaw (Placement.except w r.tag) s) (hr : r ∈ s.store.sources)
    (f : Source → Source)
    (hs : t.store.sources = s.store.sources.map fun e => if e.tag = r.tag then f e else e) (ht : (f r).tag = r.tag)
    (a : AgreeOff r.tag s t) (hq : t.store.queue.Nodup) (hrec : RecordLaw w t.store.tileMap t.store.queue (f r)) :
    PlacementLaw w t := by
  rw [map_tag_eq h.tags hr f] at hs
  have tags : t.store.sources.map (·.tag) = s.store.sources.map (·.tag) := by
    rw [hs, List.map_map]
    refine List.map_congr_left fun e _ => ?_
    simp only [Function.comp]
    split
    · rw [ht]; exact Eq.symm ‹_›
    · rfl
  have known : r.tag ∈ s.store.sources.map (·.tag) := List.mem_map.mpr ⟨r, hr, rfl⟩
  refine ⟨by rw [tags]; exact h.tags, hq, ?_, ?_, ?_⟩
  · rw [hs]
    intro e' he'
    obtain ⟨e, he, rfl⟩ := List.mem_map.mp he'
    split
    · exact hrec
    · rename_i hne
      exact ((h.records e he).frame a hne).weaken fun hw => ⟨hne, hw⟩
  · intro n x hx
    rw [tags]
    by_cases hxr : x = r.tag
    · exact hxr ▸ known
    · exact h.heldKnown n x ((a.held n x hxr).mp hx)
  · intro x hx
    rw [tags]
    by_cases hxr : x = r.tag
    · exact hxr ▸ known
    · exact h.queuedKnown x ((a.queued x hxr).mp hx)

/-- One order is deleted; no tile and no entry of the queue is left to it. -/
theorem PlacementLaw.delete {tag : Nat} (h : PlacementLaw w s)
    (hs : t.store.sources = s.store.sources.filter (·.tag ≠ tag)) (a : AgreeOff tag s t)
    (hm : ∀ n : Nat, t.store.tileMap[n]? ≠ some (some tag)) (hq : t.store.queue.Nodup) (hn : tag ∉ t.store.queue) :
    PlacementLaw w t := by
  have stays : ∀ x, x ≠ tag → x ∈ s.store.sources.map (·.tag) → x ∈ t.store.sources.map (·.tag) := by
    intro x hx hk
    obtain ⟨e, he, rfl⟩ := List.mem_map.mp hk
    rw [hs]
    exact List.mem_map.mpr ⟨e, List.mem_filter.mpr ⟨he, by simpa using hx⟩, rfl⟩
  refine ⟨?_, hq, ?_, ?_, ?_⟩
  · rw [hs]
    exact h.tags.sublist (List.filter_sublist.map _)
  · rw [hs]
    intro e he
    obtain ⟨he, hne⟩ := List.mem_filter.mp he
    exact (h.records e he).frame a (by simpa using hne)
  · intro n x hx
    have hxt : x ≠ tag := by rintro rfl; exact hm n hx
    exact stays x hxt (h.heldKnown n x ((a.held n x hxt).mp hx))
  · intro x hx
    have hxt : x ≠ tag := by rintro rfl; exact hn hx
    exact stays x hxt (h.queuedKnown x ((a.queued x hxt).mp hx))

/-- A DORMANT order of a new tag joins the table. -/
theorem PlacementLaw.insert (h : PlacementLaw w s) (hs : t.store.sources = s.store.sources ++ [r])
    (hm : t.store.tileMap = s.store.tileMap) (hq : t.store.queue = s.store.queue)
    (hn : r.tag ∉ s.store.sources.map (·.tag)) (hc : classOk r.cls = true) (hst : r.state = .dormant)
    (hf : r.firstTile = none) (hr : r.removed = false) : PlacementLaw w t := by
  have unheld : ∀ n : Nat, s.store.tileMap[n]? ≠ some (some r.tag) := fun n e => hn (h.heldKnown n _ e)
  have unqueued : r.tag ∉ s.store.queue := fun e => hn (h.queuedKnown _ e)
  have hrec : RecordLaw w s.store.tileMap s.store.queue r :=
    { classes := hc
      hidden := by simp [hr]
      present := by simp [hf, holdsTiles, hst]
      aligned := by simp [hf]
      covers := by simp [Covers, hf, unheld]
      queued := by simp [unqueued, hst]
      withdraw := by simp [hst] }
  have tags : t.store.sources.map (·.tag) = s.store.sources.map (·.tag) ++ [r.tag] := by simp [hs]
  refine ⟨?_, by rw [hq]; exact h.queue, ?_, ?_, ?_⟩
  · rw [tags, ← List.concat_eq_append, List.nodup_concat]
    exact ⟨hn, h.tags⟩
  · rw [hs, hm, hq]
    intro e he
    obtain he | he := List.mem_append.mp he
    · exact h.records e he
    · rw [List.mem_singleton.mp he]; exact hrec
  · rw [tags, hm]
    exact fun n x hx => List.mem_append_left _ (h.heldKnown n x hx)
  · rw [tags, hq]
    exact fun x hx => List.mem_append_left _ (h.queuedKnown x hx)

theorem PlacementLaw.empty (e : s.store = OrderStore.empty) : PlacementLaw w s := by
  have free : ∀ n x : Nat, OrderStore.empty.tileMap[n]? ≠ some (some x) := by
    intro n x hx
    obtain ⟨_, hx⟩ := Vector.getElem?_eq_some_iff.mp hx
    simp [OrderStore.empty] at hx
  constructor <;> rw [e]
  · exact List.nodup_nil
  · exact List.nodup_nil
  · exact fun r hr => absurd hr List.not_mem_nil
  · exact fun n x hx => absurd hx (free n x)
  · exact fun x hx => absurd hx List.not_mem_nil

end Sys2Proof.Placement
end

section
/-! PROOFS. The Placement Unit keeps the laws of tiles, queue and WITHDRAW: the queue (R67), the evaluation (R65), which also
establishes the part on WITHDRAW for the order it evaluates, and the three steps of the round-start pass (R68 to R72). -/

namespace Sys2Proof.Placement

open Sys2Proof.Machine Sys2Proof.Safety

variable {w : Nat → Prop} {s : State} {r : Source} {tag : Nat}

/-! ### Visible orders and tile ranges -/

theorem visibleSource_none {st : OrderStore} (h : visibleSource st tag = none) {e : Source} (he : e ∈ st.sources)
    (ht : e.tag = tag) : e.removed = true := by
  unfold visibleSource at h
  simpa [ht] using List.find?_eq_none.mp h e he

theorem setRange_getElem? (m : Vector (Option Nat) 160) (first c : Nat) (v : Option Nat) (n : Nat) :
    (setRange m first c v)[n]? = if first ≤ n ∧ n < first + c then m[n]?.map fun _ => v else m[n]? := by
  by_cases h : n < 160
  · rw [Vector.getElem?_eq_getElem h, Vector.getElem?_eq_getElem h, setRange_getElem]
    split <;> rfl
  · rw [Vector.getElem?_eq_none (Nat.le_of_not_lt h), Vector.getElem?_eq_none (Nat.le_of_not_lt h)]
    split <;> rfl

theorem classOk_pos {c : Nat} (h : classOk c = true) : 0 < c := by
  rcases Nat.eq_zero_or_pos c with rfl | hc
  · exact absurd h (by decide)
  · exact hc

/-! ### The queue -/

/-- An append to the queue adds the new tag and keeps the rest, in whatever order the priorities give. -/
theorem queueInsert_perm (st : OrderStore) (tag : Nat) : (queueInsert st tag).Perm (tag :: st.queue) := by
  have split : (st.queue.filter (fun t => priorityOf st tag ≤ priorityOf st t) ++
      st.queue.filter fun t => priorityOf st t < priorityOf st tag).Perm st.queue := by
    have := List.filter_append_perm (fun t => decide (priorityOf st tag ≤ priorityOf st t)) st.queue
    simpa only [← decide_not, Nat.not_le] using this
  exact List.perm_middle.trans (split.cons tag)

/-- The renumbering changes entry numbers alone. -/
theorem renumber_placementLaw (h : PlacementLaw w s) : PlacementLaw w (renumber tag s) := by
  refine h.map _ rfl rfl rfl fun e _ => ?_
  split <;> exact .of_placeOf rfl

/-- A DORMANT order that WITHDRAW does not hold back enters the queue. -/
theorem enqueue_placementLaw (h : PlacementLaw (except w r.tag) s) (hr : r ∈ s.store.sources) (hst : r.state = .dormant)
    (hw : ¬ (r.latch = true ∧ r.action = .withdraw)) : PlacementLaw w (enqueue r.tag s) := by
  have law := h.records r hr
  have hn : r.tag ∉ s.store.queue := fun hq => by simp [law.queued.mp hq] at hst
  have perm := fun s' : State => queueInsert_perm s'.store r.tag
  have appended : ∀ n c : Nat, PlacementLaw w
      (let s := updateSource r.tag (fun r => { r with state := .queued, entryNo := some n }) s
       { s with store := { s.store with queue := queueInsert s.store r.tag, queueCounter := c } }) := by
    intro n c
    refine h.replace hr (fun r => { r with state := .queued, entryNo := some n }) rfl rfl ?_ ?_ ?_
    · refine ⟨fun _ _ _ => Iff.rfl, fun x hx => ?_⟩
      refine (perm _).mem_iff.trans ?_
      simp [hx]
    · exact (perm _).nodup_iff.mpr (List.nodup_cons.mpr ⟨hn, h.queue⟩)
    · exact
      { law with
        hidden := fun hd => by simp [law.hidden hd] at hst
        present := by rw [law.present]; simp [holdsTiles, hst]
        queued := by simpa using (perm _).mem_iff.mpr (List.mem_cons_self)
        withdraw := fun _ hl ha => absurd ⟨hl, ha⟩ hw }
  unfold enqueue
  dsimp only
  split
  · exact renumber_placementLaw (appended _ _)
  · exact appended _ _

/-- A QUEUED order leaves the queue for DORMANT. -/
theorem dequeue_placementLaw (h : PlacementLaw (except w r.tag) s) (hr : r ∈ s.store.sources) (hst : r.state = .queued) :
    PlacementLaw w (dequeue r.tag s) := by
  have law := h.records r hr
  refine h.replace hr (fun r => { r with state := .dormant, entryNo := none }) rfl rfl ?_ (h.queue.filter _) ?_
  · exact ⟨fun _ _ _ => Iff.rfl, fun x hx => by simp [dequeue, hx]⟩
  · exact
    { law with
      hidden := fun hd => by simp [law.hidden hd] at hst
      present := by rw [law.present]; simp [holdsTiles, hst]
      queued := by simp [dequeue]
      withdraw := by simp }

/-! ### Evaluation -/

/-- An evaluation keeps the laws, and brings the part on WITHDRAW about for the order it evaluates (R65, R66): a wanted order
is not latched with WITHDRAW, and a QUEUED order that is not wanted leaves the queue. -/
theorem evalSource_placementLaw (h : PlacementLaw (except w tag) s) : PlacementLaw w (evalSource tag s) := by
  unfold evalSource
  split
  · rename_i hv
    refine h.restore fun e he ht _ _ => ?_
    rw [(h.records e he).hidden (visibleSource_none hv he ht)]
    decide
  · rename_i r hv
    obtain ⟨hr, rfl, -⟩ := visibleSource_some hv
    dsimp only
    generalize hs' : updateSource r.tag (fun r => { r with mismatch := otherWantStands s.view r.tag r.cls }) s = s'
    have h' : PlacementLaw (except w r.tag) s' := by
      rw [← hs']
      exact h.updateSource _ _ fun _ _ _ => .of_placeOf rfl
    obtain ⟨r', hr', htag, hstate, hlatch, haction⟩ : ∃ r' ∈ s'.store.sources,
        r'.tag = r.tag ∧ r'.state = r.state ∧ r'.latch = r.latch ∧ r'.action = r.action := by
      rw [← hs']
      exact ⟨_, List.mem_map.mpr ⟨r, hr, if_pos rfl⟩, rfl, rfl, rfl, rfl⟩
    have back : (r.latch = true → r.action = .withdraw → r.state ≠ .queued) → PlacementLaw w s' := fun hw =>
      h'.restore fun e he ht => by
        rw [h'.eq_of_tag he hr' (ht.trans htag.symm), hlatch, haction, hstate]
        exact hw
    have unwanted : r.latch = true → r.action = .withdraw → isWanted s'.view r = false := by
      intro hl ha
      simp [isWanted, hl, ha]
    split
    · rename_i hst hw
      rw [← htag] at h' ⊢
      refine enqueue_placementLaw h' hr' (hstate.trans hst) fun ⟨hl, ha⟩ => ?_
      rw [unwanted (hlatch ▸ hl) (haction ▸ ha)] at hw
      exact Bool.noConfusion hw
    · rename_i hst _
      rw [← htag] at h' ⊢
      exact dequeue_placementLaw h' hr' (hstate.trans hst)
    · rename_i hst _
      exact (back fun _ _ hq => by simp [hst] at hq).updateSource _ _ fun _ _ _ => .of_placeOf rfl
    · rename_i _ hq _
      exact back fun hl ha hst => hq hst (unwanted hl ha)

/-- An evaluation, from laws that hold of every order. -/
theorem evalSource_keeps (h : PlacementLaw w s) (tag : Nat) : PlacementLaw w (evalSource tag s) :=
  evalSource_placementLaw (h.except tag)

theorem noticePlacement_placementLaw (old new : Option Manifest) (h : PlacementLaw w s) :
    PlacementLaw w (noticePlacement old new s) :=
  List.foldlRecOn _ _ h fun _ h tag _ => evalSource_keeps h tag

/-! ### Freeing -/

/-- The tiles of a RETIRING order are freed with the order's record, or with its return to DORMANT and the evaluation that
follows (R69). -/
theorem freeRecord_placementLaw (h : PlacementLaw w s) (hr : r ∈ s.store.sources) (hst : r.state = .retiring) :
    PlacementLaw w (freeRecord s r) := by
  have law := h.records r hr
  obtain ⟨first, hfirst⟩ := Option.isSome_iff_exists.mp (law.present.trans (by simp [holdsTiles, hst]))
  have own : ∀ n : Nat, first ≤ n ∧ n < first + r.cls ↔ s.store.tileMap[n]? = some (some r.tag) := by
    intro n
    rw [law.covers]
    simp [Covers, hfirst]
  have held : ∀ n x : Nat, (setRange s.store.tileMap first r.cls none)[n]? = some (some x) ↔
      x ≠ r.tag ∧ s.store.tileMap[n]? = some (some x) := by
    intro n x
    rw [setRange_getElem?]
    split
    · rw [(own n).mp ‹_›]
      simpa using fun hx e => hx e.symm
    · rename_i hn
      rw [own] at hn
      refine ⟨fun hx => ⟨?_, hx⟩, And.right⟩
      rintro rfl
      exact hn hx
  have unqueued : r.tag ∉ s.store.queue := fun hq => by simp [law.queued.mp hq] at hst
  unfold freeRecord
  dsimp only
  rw [hfirst, Option.getD_some]
  split
  · exact h.delete rfl ⟨fun n x hx => (held n x).trans (and_iff_right hx), fun _ _ => Iff.rfl⟩
      (fun n e => ((held n r.tag).mp e).1 rfl) h.queue unqueued
  · refine evalSource_keeps ?_ r.tag
    refine (h.except r.tag).replace hr (fun r => { r with state := .dormant, firstTile := none, omitted := false })
      rfl rfl ⟨fun n x hx => (held n x).trans (and_iff_right hx), fun _ _ => Iff.rfl⟩ h.queue ?_
    exact
    { law with
      hidden := fun hd => absurd hd ‹_›
      present := rfl
      aligned := nofun
      covers := fun n => ⟨fun e => absurd rfl ((held n r.tag).mp e).1, nofun⟩
      queued := ⟨fun hq => absurd hq unqueued, nofun⟩
      withdraw := fun _ _ _ => nofun }

/-! ### What the operations leave of the other orders -/

/-- The table holds the order, whatever its entry number. -/
def Holds (s : State) (r : Source) : Prop := ∃ n, { r with entryNo := n } ∈ s.store.sources

theorem holds_of_mem (h : r ∈ s.store.sources) : Holds s r := ⟨r.entryNo, h⟩

theorem updateSource_holds (f : Source → Source) (h : Holds s r) (hr : r.tag ≠ tag) : Holds (updateSource tag f s) r := by
  obtain ⟨n, hn⟩ := h
  exact ⟨n, List.mem_map.mpr ⟨_, hn, if_neg hr⟩⟩

theorem renumber_holds (h : Holds s r) : Holds (renumber tag s) r := by
  obtain ⟨n, hn⟩ := h
  have := List.mem_map_of_mem (f := fun r => if r.tag ∈ s.store.queue.filter (· ≠ tag) ++ [tag] then
    { r with entryNo := some ((s.store.queue.filter (· ≠ tag) ++ [tag]).idxOf r.tag) } else r) hn
  dsimp only at this
  split at this
  · exact ⟨_, this⟩
  · exact ⟨_, this⟩

theorem enqueue_holds (h : Holds s r) (hr : r.tag ≠ tag) : Holds (enqueue tag s) r := by
  have hu : ∀ n, Holds (updateSource tag (fun r => { r with state := .queued, entryNo := some n }) s) r :=
    fun _ => updateSource_holds _ h hr
  unfold enqueue
  dsimp only
  split
  · exact renumber_holds (hu _)
  · exact hu _

theorem evalSource_holds (h : Holds s r) (hr : r.tag ≠ tag) : Holds (evalSource tag s) r := by
  unfold evalSource
  split
  · exact h
  · dsimp only
    split
    · exact enqueue_holds (updateSource_holds _ h hr) hr
    · exact updateSource_holds _ (updateSource_holds _ h hr) hr
    · exact updateSource_holds _ (updateSource_holds _ h hr) hr
    · exact updateSource_holds _ h hr

theorem freeRecord_holds {e : Source} (h : Holds s r) (hr : r.tag ≠ e.tag) : Holds (freeRecord s e) r := by
  unfold freeRecord
  dsimp only
  split
  · obtain ⟨n, hn⟩ := h
    exact ⟨n, List.mem_filter.mpr ⟨hn, by simpa using hr⟩⟩
  · exact evalSource_holds (updateSource_holds _ h hr) hr

/-! ### The round-start pass -/

/-- The records of distinct RETIRING orders are freed one after another. -/
theorem freeRecords_placementLaw (rs : List Source) (hn : (rs.map (·.tag)).Nodup) (h : PlacementLaw w s)
    (hr : ∀ r ∈ rs, Holds s r ∧ r.state = .retiring) : PlacementLaw w (rs.foldl freeRecord s) := by
  induction rs generalizing s with
  | nil => exact h
  | cons r rs ih =>
    obtain ⟨hfresh, hn⟩ := List.nodup_cons.mp hn
    obtain ⟨⟨n, hmem⟩, hst⟩ := hr r List.mem_cons_self
    refine ih hn (freeRecord_placementLaw (r := { r with entryNo := n }) h hmem hst) fun e he => ?_
    obtain ⟨hold, hst⟩ := hr e (List.mem_cons_of_mem _ he)
    exact ⟨freeRecord_holds hold fun ht => hfresh (List.mem_map.mpr ⟨e, he, ht⟩), hst⟩

theorem freeingStep_placementLaw (h : PlacementLaw w s) : PlacementLaw w (freeingStep s) := by
  unfold freeingStep
  dsimp only
  generalize hl : List.filter (fun r : Source => decide (r.state = .retiring) && r.omitted) s.store.sources = freed
  have perm := List.perm_insertionSort (fun a b : Source => a.firstTile.getD 160 ≤ b.firstTile.getD 160) freed
  refine freeRecords_placementLaw _ ?_ h fun r hr => ?_
  · rw [(perm.map _).nodup_iff, ← hl]
    exact h.tags.sublist (List.filter_sublist.map _)
  · have hr := perm.mem_iff.mp hr
    rw [← hl, List.mem_filter] at hr
    exact ⟨holds_of_mem hr.1, by simpa using (Bool.and_eq_true_iff.mp hr.2).1⟩

/-- An order whose release count runs out keeps its tiles (R70). -/
theorem countRelease_samePlace (view : Vector LaneView 9) (r : Source) : SamePlace w r (countRelease view r) := by
  unfold countRelease
  split
  · rename_i hst
    split
    · exact .of_placeOf rfl
    · split
      · exact
        { tag := rfl
          cls := rfl
          first := rfl
          holds := by simp [holdsTiles, hst]
          queued := by simp [hst]
          hidden := fun _ _ => rfl
          latched := fun _ => And.intro }
      · exact .of_placeOf rfl
  · exact .of_placeOf rfl

theorem releaseStep_placementLaw (h : PlacementLaw w s) : PlacementLaw w (releaseStep s) :=
  h.map _ rfl rfl rfl fun r _ => countRelease_samePlace s.view r

/-- A QUEUED order is placed on free tiles of the map, or passed over (R71, R72). -/
theorem placeOne_placementLaw (h : PlacementLaw w s) (hq : tag ∈ s.store.queue) : PlacementLaw w (placeOne s tag) := by
  unfold placeOne
  split
  · exact h
  · rename_i r hv
    obtain ⟨hr, rfl, hvis⟩ := visibleSource_some hv
    have law := h.records r hr
    have hst := law.queued.mp hq
    split
    · rename_i first hl
      obtain ⟨hmul, free⟩ := lowestStart_free hl
      have pos := classOk_pos law.classes
      have fits : first + r.cls ≤ 160 := by
        obtain ⟨hlt, -⟩ := Vector.getElem?_eq_some_iff.mp (free (first + r.cls - 1) (by omega) (by omega))
        omega
      have unheld : ∀ n : Nat, s.store.tileMap[n]? ≠ some (some r.tag) := by
        intro n hn
        obtain ⟨f, hf, -⟩ := (law.covers n).mp hn
        simpa [hf, holdsTiles, hst] using law.present
      have held : ∀ n x : Nat, (setRange s.store.tileMap first r.cls (some r.tag))[n]? = some (some x) ↔
          if x = r.tag then first ≤ n ∧ n < first + r.cls else s.store.tileMap[n]? = some (some x) := by
        intro n x
        rw [setRange_getElem?]
        split
        · rename_i hn
          rw [free n hn.1 hn.2]
          by_cases hx : x = r.tag
          · simp [hx, hn]
          · simp [hx, Ne.symm hx]
        · rename_i hn
          split
          · rename_i hx
            exact iff_of_false (hx ▸ unheld n) hn
          · exact Iff.rfl
      refine (h.except r.tag).replace hr (fun r => { r with
        state := .offered, firstTile := some first, entryNo := none, releaseCount := 0, passedOver := 0, blocked := false })
        rfl rfl ⟨fun n x hx => (held n x).trans (by rw [if_neg hx]), fun x hx => by simp [hx]⟩ (h.queue.filter _) ?_
      exact
      { law with
        hidden := fun hd => absurd hd (by simp [hvis])
        present := rfl
        aligned := fun f hf => by cases hf; exact ⟨hmul, fits⟩
        covers := fun n => by simpa [Covers] using held n r.tag
        queued := by simp
        withdraw := fun _ _ _ => nofun }
    · exact h.updateSource _ _ fun _ _ _ => .of_placeOf rfl

/-- A placement takes no other order out of the queue. -/
theorem placeOne_queue {x : Nat} (hx : x ∈ s.store.queue) (hne : x ≠ tag) : x ∈ (placeOne s tag).store.queue := by
  unfold placeOne
  split
  · exact hx
  · split
    · exact List.mem_filter.mpr ⟨hx, by simpa using hne⟩
    · exact hx

theorem placeEach_placementLaw (tags : List Nat) (hn : tags.Nodup) (h : PlacementLaw w s)
    (hq : ∀ x ∈ tags, x ∈ s.store.queue) : PlacementLaw w (tags.foldl placeOne s) := by
  induction tags generalizing s with
  | nil => exact h
  | cons tag tags ih =>
    obtain ⟨hfresh, hn⟩ := List.nodup_cons.mp hn
    refine ih hn (placeOne_placementLaw h (hq tag List.mem_cons_self)) fun x hx => ?_
    exact placeOne_queue (hq x (List.mem_cons_of_mem _ hx)) fun e => hfresh (e ▸ hx)

theorem placementStep_placementLaw (h : PlacementLaw w s) : PlacementLaw w (placementStep s) := by
  unfold placementStep
  split
  · exact placeEach_placementLaw _ h.queue h fun _ => id
  · exact h

theorem placementPass_placementLaw (h : PlacementLaw w s) : PlacementLaw w (placementPass s) :=
  placementStep_placementLaw (releaseStep_placementLaw (freeingStep_placementLaw h))

theorem takeSnapshot_placementLaw (h : PlacementLaw w s) : PlacementLaw w (takeSnapshot s) := by
  refine h.map _ rfl rfl rfl fun r _ => ?_
  split <;> exact .of_placeOf rfl

end Sys2Proof.Placement
end

section
/-! PROOFS. The other blocks keep the laws of tiles, queue and WITHDRAW: admission, REMOVE and RESTATE, the Health
Monitor, the Peer View's notices, carrier ingress, restarts, and the works and boundaries of own frames; and the step itself. -/

namespace Sys2Proof.Placement

open Sys2Proof.Machine Sys2Proof.Safety

variable {w : Nat → Prop} {s t : State} {tag : Nat}

/-! ### Changes outside the source table, tile map and queue -/

theorem PlacementLaw.onlyTiming (h : PlacementLaw w s) (e : OnlyTiming s t) : PlacementLaw w t :=
  h.of_store (by rw [e])

theorem PlacementLaw.noted (h : PlacementLaw w t) (s : State) : PlacementLaw w (noted s t) :=
  h.of_store (noted_store s t)

theorem PlacementLaw.finish (h : PlacementLaw w t) (s : State) : PlacementLaw w (finish s t) :=
  h.of_store (finish_store s t)

theorem PlacementLaw.event {f : State → State} (h : PlacementLaw w (f s)) : PlacementLaw w (event f s) :=
  h.noted s

theorem PlacementLaw.updateSink (h : PlacementLaw w s) (tag : Nat) (f : Sink → Sink) :
    PlacementLaw w (updateSink tag f s) :=
  h.congr rfl rfl rfl

theorem PlacementLaw.setAdapter (h : PlacementLaw w s) (n : Fin 96) (a : Option Adapter) :
    PlacementLaw w (setAdapter n a s) :=
  h.congr rfl rfl rfl

theorem PlacementLaw.setLane (h : PlacementLaw w s) (l : Fin 9) (x : LaneRx) : PlacementLaw w (setLane l x s) :=
  h.of_store rfl

theorem arriveAt_placementLaw (n : Fin 96) (blocks : List Block) (h : PlacementLaw w s) :
    PlacementLaw w (arriveAt n blocks s) := by
  unfold arriveAt
  split
  · exact h
  · exact h.setAdapter n _

theorem noteQuality_placementLaw (h : PlacementLaw w s) (tag : Nat) : PlacementLaw w (noteQuality s tag) := by
  unfold noteQuality
  split
  · exact h
  · exact h.of_store rfl

theorem PlacementLaw.ite {c : Prop} [Decidable c] (hs : PlacementLaw w s) (ht : PlacementLaw w t) :
    PlacementLaw w (if c then s else t) := by
  split
  · exact hs
  · exact ht

/-! ### The Health Monitor and the adapters -/

/-- A span end may set the latch of a QUEUED order; under WITHDRAW the evaluation follows at once (R66, R122). -/
theorem healthSource_placementLaw (dets : Detections) (h : PlacementLaw w s) :
    PlacementLaw w (healthSource tag dets s) := by
  unfold healthSource
  split
  · exact h
  · rename_i r hv
    obtain ⟨hr, rfl, -⟩ := visibleSource_some hv
    dsimp only
    split
    · refine evalSource_placementLaw ?_
      refine (h.except r.tag).updateSource _ _ fun e _ ht => ?_
      exact ⟨rfl, rfl, rfl, rfl, Iff.rfl, id, fun hw => absurd ht hw.1⟩
    · rename_i hn
      refine h.updateSource _ _ fun e he ht => ⟨rfl, rfl, rfl, rfl, Iff.rfl, id, fun _ hl ha => ?_⟩
      obtain rfl := h.eq_of_tag he hr ht
      have ha : e.action = .withdraw := ha
      have unlatched : latches dets e = false := by simpa [ha] using hn
      exact ⟨by simpa [unlatched] using hl, ha⟩

theorem healthOf_placementLaw (a : Adapter) (dets : Detections) (h : PlacementLaw w s) :
    PlacementLaw w (healthOf a dets s) := by
  unfold healthOf
  split
  · exact h.updateSink _ _
  · exact healthSource_placementLaw dets h

theorem spanEndOf_placementLaw (n : Fin 96) (h : PlacementLaw w s) : PlacementLaw w (spanEndOf n s) := by
  unfold spanEndOf
  split
  · exact h
  · split
    · exact h
    · exact (healthOf_placementLaw _ _ (h.setAdapter n _)).noted s

theorem spanEndAt_placementLaw (n : Option (Fin 96)) (h : PlacementLaw w s) : PlacementLaw w (spanEndAt n s) := by
  unfold spanEndAt
  split
  · exact h
  · exact spanEndOf_placementLaw _ h

theorem departSource_placementLaw (leaveSpans : List (Fin 96)) (acc : State × List HandOver) (tag : Nat)
    (h : PlacementLaw w acc.1) : PlacementLaw w (departSource leaveSpans acc tag).1 := by
  unfold departSource
  split
  · exact h
  · rename_i n _
    have ended := spanEndOf_placementLaw n h
    dsimp only
    split
    · have departed := fun a => noteQuality_placementLaw (ended.setAdapter n a) tag
      dsimp only
      split
      · exact departed _
      · exact spanEndOf_placementLaw n (departed _)
    · exact ended

theorem sourceDepartures_placementLaw (leaveSpans : List (Fin 96)) (h : PlacementLaw w s) :
    PlacementLaw w (sourceDepartures leaveSpans s).1 :=
  List.foldlRecOn (motive := fun acc : State × List HandOver => PlacementLaw w acc.1) _ _ h
    fun acc h tag _ => departSource_placementLaw leaveSpans acc tag h

theorem departSink_placementLaw (leaveSpans : List (Fin 96)) (h : PlacementLaw w s) (tag : Nat) :
    PlacementLaw w (departSink leaveSpans s tag) := by
  unfold departSink
  split
  · exact h
  · split
    · rename_i n port _ _
      have ended := spanEndOf_placementLaw n h
      dsimp only
      split
      · exact ended
      · have departed := fun a pins => (ended.setAdapter n a).of_store (t := { setAdapter n a _ with pins := pins }) rfl
        split
        · exact departed _ _
        · exact spanEndOf_placementLaw n (departed _ _)
    · exact h

theorem sinkDepartures_placementLaw (leaveSpans : List (Fin 96)) (h : PlacementLaw w s) :
    PlacementLaw w (sinkDepartures leaveSpans s) :=
  List.foldlRecOn _ _ h fun _ h tag _ => departSink_placementLaw leaveSpans h tag

/-! ### The Selector and the Peer View -/

theorem evalSinks_placementLaw (judge : Bool) (tags : List Nat) (h : PlacementLaw w s) :
    PlacementLaw w (tags.foldl (evalSink judge) s) :=
  List.foldlRecOn _ _ h fun _ h tag _ => h.updateSink tag _

theorem setView_placementLaw (l : Fin 9) (v : LaneView) (arrived : Bool) (h : PlacementLaw w s) :
    PlacementLaw w (setView l v arrived s) := by
  have set : PlacementLaw w { s with view := s.view.set l v } := h.of_store rfl
  unfold setView
  dsimp only
  split
  · exact evalSinks_placementLaw true _ (noticePlacement_placementLaw _ _ set)
  · exact set

theorem exitAligned_placementLaw (l : Fin 9) (h : PlacementLaw w s) : PlacementLaw w (exitAligned l s) := by
  have selector : PlacementLaw w (event (exitSelector l) s) := (evalSinks_placementLaw true _ h).event
  have view : PlacementLaw w (event (viewExit l) (event (exitSelector l) s)) :=
    (setView_placementLaw l _ false selector).event
  exact (view.onlyTiming (timingExit_onlyTiming l _)).event

/-! ### Lane receivers -/

theorem laneMarker_placementLaw (l : Fin 9) (n : Nat) (h : PlacementLaw w s) : PlacementLaw w (laneMarker l n s) := by
  have timed : PlacementLaw w (atTime n s) := h.of_store rfl
  unfold laneMarker
  dsimp only
  split
  · exact timed.setLane l _
  · exact timed.setLane l _
  · exact timed.setLane l _
  · split
    · exact exitAligned_placementLaw l (timed.setLane l _)
    · split
      · exact exitAligned_placementLaw l (timed.setLane l _)
      · exact timed.setLane l _

theorem passHeader_placementLaw (l : Fin 9) (x : Heard) (slots : List Slot) (epochChange : Bool) (h : PlacementLaw w s) :
    PlacementLaw w (passHeader l x slots epochChange s) := by
  have view : PlacementLaw w (event (viewHeader l x slots epochChange) s) := (setView_placementLaw l _ _ h).event
  have timed : PlacementLaw w (event (timingHeader l) (event (viewHeader l x slots epochChange) s)) :=
    (view.onlyTiming (timingHeader_onlyTiming l _)).event
  unfold passHeader lightingHeader
  split
  · exact timed
  · exact timed.of_store rfl

theorem laneHeader_placementLaw (l : Fin 9) (words : List Word) (tiles : List Tile) (h : PlacementLaw w s) :
    PlacementLaw w (laneHeader l words tiles s) := by
  unfold laneHeader
  dsimp only
  split
  · split
    · unfold aligningHeader
      split
      · exact h.setLane l _
      · split
        · exact passHeader_placementLaw l _ _ _ (h.of_store rfl)
        · exact h.setLane l _
    · have passed := fun epochChange x =>
        passHeader_placementLaw l (heardOf words) (slotsOf words) epochChange (h.setLane l x)
      unfold alignedHeader
      dsimp only
      split
      · exact exitAligned_placementLaw l ((passed _ _).setLane l _)
      · exact passed _ _
    · exact h
    · exact h
  · exact h.setLane l _

theorem windowCheck_placementLaw (l : Fin 9) (h : PlacementLaw w s) : PlacementLaw w (windowCheck l s) := by
  unfold windowCheck
  dsimp only
  split
  · exact h
  · exact h
  · exact h.setLane l _
  · have checked : ∀ (b : Bool) x, PlacementLaw w (if b then setLane l x s else event (viewUnheard l) (setLane l x s)) := by
      intro b x
      split
      · exact h.setLane l x
      · exact (setView_placementLaw l _ false (h.setLane l x)).event
    split
    · exact exitAligned_placementLaw l ((checked _ _).setLane l _)
    · exact checked _ _

theorem roundEnd_placementLaw (l : Fin 9) (cause : RoundEnd) (h : PlacementLaw w s) :
    PlacementLaw w (roundEnd l cause s) := by
  cases cause with
  | header words tiles => exact laneHeader_placementLaw l words tiles h
  | unheard => exact windowCheck_placementLaw l h

/-! ### Timing and carriers -/

theorem refStep_placementLaw (u : TimingUnit) (h : PlacementLaw w s) : PlacementLaw w (refStep u s) := by
  have set : PlacementLaw w { s with timing := u } := h.of_store rfl
  unfold refStep
  dsimp only
  split
  · exact set.onlyTiming (reselect_onlyTiming _)
  · exact set

/-- A change of ingress status moves no order. -/
theorem setIngress_placementLaw (tag : Nat) (i : IngressStatus) (h : PlacementLaw w s) :
    PlacementLaw w (updateSource tag (fun r => { r with ingress := i }) s) :=
  h.updateSource tag _ fun _ _ _ => .of_placeOf rfl

theorem dropIngress_placementLaw (p : Fin 4) (h : PlacementLaw w s) : PlacementLaw w (dropIngress p s) := by
  refine h.map (dropOne p) rfl rfl rfl fun r _ => ?_
  unfold dropOne
  split <;> exact .of_placeOf rfl

theorem windowMissed_placementLaw (p : Fin 4) (h : PlacementLaw w s) : PlacementLaw w (windowMissed p s) := by
  have set : PlacementLaw w (setPort p (framerMiss s.carriers.ports[p]) s) := h.of_store rfl
  unfold windowMissed
  dsimp only
  split
  · exact dropIngress_placementLaw p set
  · exact set

theorem extractFor_placementLaw (p : Fin 4) (tiles : List Tile) (h : PlacementLaw w s) (tag : Nat) :
    PlacementLaw w (extractFor p tiles s tag) := by
  unfold extractFor
  split
  · exact h
  · split
    · exact h
    · split
      · split
        · dsimp only
          split
          · exact arriveAt_placementLaw _ _ (setIngress_placementLaw tag _ h)
          · exact setIngress_placementLaw tag _ h
        · exact setIngress_placementLaw tag _ h
      · exact h

theorem farEndFrame_placementLaw (p : Fin 4) (f : EndedFrame) (h : PlacementLaw w s) :
    PlacementLaw w (farEndFrame p f s) := by
  refine List.foldlRecOn _ _ ?_ fun _ h tag _ => extractFor_placementLaw p f.tiles h tag
  exact h.of_store rfl

/-! ### Own frames and own rounds -/

theorem joinWork_store (s : State) : (joinWork s).store = s.store := by
  unfold joinWork
  split <;> rfl

theorem claimWork_store (s : State) : (claimWork s).store = s.store := by
  unfold claimWork
  split <;> rfl

theorem roundWork_placementLaw (k : RoundWork) (h : PlacementLaw w s) : PlacementLaw w (roundWork k s) := by
  cases k with
  | pass => exact placementPass_placementLaw h
  | snapshot => exact takeSnapshot_placementLaw h
  | wtr => exact h.congr rfl rfl rfl
  | timing => exact h.onlyTiming (timingWork_onlyTiming s)
  | join => exact h.of_store (joinWork_store s)
  | lighting => exact h.of_store (claimWork_store (lightingFirst s))
  | claim => exact h.of_store (claimWork_store s)
  | degraded => exact h.of_store (degradedWork_store s)

theorem takeDue_placementLaw (k : RoundWork) (h : PlacementLaw w s) : PlacementLaw w (takeDue k s) := by
  unfold takeDue
  split
  · exact PlacementLaw.event (roundWork_placementLaw k (h.of_store rfl))
  · exact h

theorem takeWork_placementLaw (h : PlacementLaw w s) (k : RoundWork) : PlacementLaw w (takeWork s k) := by
  unfold takeWork
  split
  · exact takeDue_placementLaw .snapshot (takeDue_placementLaw .pass h)
  · exact takeDue_placementLaw k h

theorem takeWorks_placementLaw (ks : List RoundWork) (h : PlacementLaw w s) : PlacementLaw w (ks.foldl takeWork s) :=
  List.foldlRecOn _ _ h fun _ h k _ => takeWork_placementLaw h k

theorem roundStart_placementLaw (order : List RoundWork) (h : PlacementLaw w s) : PlacementLaw w (roundStart order s) := by
  unfold roundStart
  split
  · exact takeWorks_placementLaw _ ((takeWorks_placementLaw _ h).of_store rfl)
  · exact h

theorem readAndDeliver_placementLaw (h : PlacementLaw w s) : PlacementLaw w (readAndDeliver s) := by
  have delivered : ∀ reads : List (Sink × Option (Quality × List Block)), PlacementLaw w (reads.foldl deliver s) := by
    refine fun reads => List.foldlRecOn _ _ h fun s h e _ => ?_
    unfold deliver
    dsimp only
    split
    · exact arriveAt_placementLaw _ _ (h.updateSink _ _)
    · exact h.updateSink _ _
  exact (delivered _).of_store rfl

theorem frameBody_placementLaw (groups : List Group) (h : PlacementLaw w s) : PlacementLaw w (frameBody groups s) := by
  have sent : PlacementLaw w (sendLane groups s) := by
    unfold sendLane
    dsimp only
    split <;> exact h.of_store rfl
  have heard : PlacementLaw w (loopbackFrame (sendLane groups s)) := by
    unfold loopbackFrame
    split
    · exact sent
    · exact sent.setLane _ _
  exact (setView_placementLaw _ _ _ (readAndDeliver_placementLaw heard).event).event

theorem frameStart_placementLaw (leave : List RoundWork) (leaveSpans : List (Fin 96)) (h : PlacementLaw w s) :
    PlacementLaw w (frameStart leave leaveSpans s) := by
  have left : PlacementLaw w (if s.tx.boundary then s else s.tx.due.foldl takeWork s) := .ite h (takeWorks_placementLaw _ h)
  have started : ∀ s, PlacementLaw w s → PlacementLaw w
      (if s.tx.frame = 15 ∧ s.tx.boundary = false then roundStart (boundaryOrder leave) s else s) :=
    fun _ h => .ite (roundStart_placementLaw _ h) h
  have passed : ∀ s, PlacementLaw w s → PlacementLaw w (if .pass ∈ leave then s else takeWork s .pass) :=
    fun _ h => .ite h (takeWork_placementLaw h .pass)
  unfold frameStart
  refine takeWorks_placementLaw _ (frameBody_placementLaw _ (takeWork_placementLaw ?_ _))
  refine (sourceDepartures_placementLaw leaveSpans ?_).noted _
  exact (passed _ (started _ left)).of_store (beginFrame_store _)

/-! ### Orders -/

/-- The pool and the binding maps are no part of the laws. -/
theorem bindPositions_placement (d : Direction) (b : Binding) (cls : Nat) (v : Option Nat) (st : OrderStore) :
    (bindPositions d b cls v st).sources = st.sources ∧ (bindPositions d b cls v st).tileMap = st.tileMap ∧
      (bindPositions d b cls v st).queue = st.queue := by
  cases d <;> cases b <;> exact ⟨rfl, rfl, rfl⟩

theorem allocate_placement (kind : Option AdapterKind) (tag cls rnom k : Nat) (st : OrderStore) :
    (allocate kind tag cls rnom k st).1.sources = st.sources ∧ (allocate kind tag cls rnom k st).1.tileMap = st.tileMap ∧
      (allocate kind tag cls rnom k st).1.queue = st.queue := by
  unfold allocate
  split <;> exact ⟨rfl, rfl, rfl⟩

theorem freeAdapter_placement (n : Option (Fin 96)) (st : OrderStore) :
    (freeAdapter n st).sources = st.sources ∧ (freeAdapter n st).tileMap = st.tileMap ∧
      (freeAdapter n st).queue = st.queue := by
  unfold freeAdapter freeRecordOf
  split
  · exact ⟨rfl, rfl, rfl⟩
  · split <;> exact ⟨rfl, rfl, rfl⟩

/-- An admitted source order has a defined class and a tag that no record of the table holds (checks 1 and 4 of R9). -/
theorem refusal_source_none {cls : Nat} {b : Binding} {st : OrderStore} (h : refusal .source tag cls b st = none) :
    classOk cls = true ∧ tag ∉ st.sources.map (·.tag) := by
  unfold refusal at h
  split_ifs at h with hrange _ htag
  refine ⟨by simp_all, fun hm => htag ?_⟩
  obtain ⟨r, hr, rfl⟩ := List.mem_map.mp hm
  exact List.any_eq_true.mpr ⟨r, hr, by simp⟩

theorem createSourceItem_store (tag : Nat) (s : State) : (createSourceItem tag s).store = s.store := by
  unfold createSourceItem
  split <;> rfl

theorem createSinkItem_store (tag : Nat) (s : State) : (createSinkItem tag s).store = s.store := by
  unfold createSinkItem
  split <;> rfl

theorem admitSource_placementLaw (q : SourceRequest) (b : Binding) (action : FailedAction) (standing : Standing)
    (h : PlacementLaw w s) (hcls : classOk q.cls = true) (hnew : q.tag ∉ s.store.sources.map (·.tag)) :
    PlacementLaw w (admitSource q b action standing s) := by
  obtain ⟨as, am, aq⟩ := allocate_placement (adapterKind .source b) q.tag q.cls (clampRnom q.cls q.rnom) (clampK q.k)
    s.store
  obtain ⟨bs, bm, bq⟩ := bindPositions_placement .source b q.cls (some q.tag)
    (allocate (adapterKind .source b) q.tag q.cls (clampRnom q.cls q.rnom) (clampK q.k) s.store).1
  refine PlacementLaw.of_store (evalSource_keeps ?_ q.tag) (createSourceItem_store _ _)
  exact h.insert (r := newSource q b action standing _) (congrArg (· ++ _) (bs.trans as)) (bm.trans am) (bq.trans aq)
    hnew hcls rfl rfl rfl

theorem admitSink_placementLaw (q : SinkRequest) (b : Binding) (h : PlacementLaw w s) :
    PlacementLaw w (admitSink q b s) := by
  obtain ⟨as, am, aq⟩ := allocate_placement (adapterKind .sink b) q.tag q.cls (clampRnom q.cls q.rnom) (clampK q.k)
    s.store
  obtain ⟨bs, bm, bq⟩ := bindPositions_placement .sink b q.cls (some q.tag)
    (allocate (adapterKind .sink b) q.tag q.cls (clampRnom q.cls q.rnom) (clampK q.k) s.store).1
  refine PlacementLaw.of_store (PlacementLaw.updateSink ?_ _ _) (createSinkItem_store _ _)
  exact h.congr (bs.trans as) (bm.trans am) (bq.trans aq)

theorem placeSource_placementLaw (q : SourceRequest) (h : PlacementLaw w s) : PlacementLaw w (placeSource q s).2 := by
  unfold placeSource
  split
  · split
    · exact h
    · rename_i href
      obtain ⟨hcls, hnew⟩ := refusal_source_none href
      exact admitSource_placementLaw q _ _ _ h hcls hnew
  · exact h

theorem placeSink_placementLaw (q : SinkRequest) (h : PlacementLaw w s) : PlacementLaw w (placeSink q s).2 := by
  unfold placeSink
  split
  · split
    · exact h
    · exact admitSink_placementLaw q _ h
  · exact h

/-- A removed order without lane tiles leaves table and queue; one with lane tiles keeps them, hidden and RETIRING (R16 to
R18). -/
theorem retireOrDelete_placementLaw {r : Source} (h : PlacementLaw w s) (hr : r ∈ s.store.sources) :
    PlacementLaw w (retireOrDelete r s) := by
  have law := h.records r hr
  have deleted (hst : holdsTiles r = false) : PlacementLaw w
      { s with store := { s.store with sources := s.store.sources.filter (·.tag ≠ r.tag)
                                       queue := s.store.queue.filter (· ≠ r.tag) } } := by
    refine h.delete rfl ⟨fun _ _ _ => Iff.rfl, fun x hx => by simp [hx]⟩ (fun n hn => ?_) (h.queue.filter _) (by simp)
    obtain ⟨f, hf, -⟩ := (law.covers n).mp hn
    simpa [hf, hst] using law.present
  have retired (hst : holdsTiles r = true) : PlacementLaw w (updateSource r.tag Source.retired s) := by
    refine h.updateSource _ _ fun e he ht => ?_
    obtain rfl := h.eq_of_tag he hr ht
    have unqueued : e.state ≠ .queued := fun hq => by simp [holdsTiles, hq] at hst
    exact
    { tag := rfl
      cls := rfl
      first := rfl
      holds := hst.symm
      queued := iff_of_false nofun unqueued
      hidden := fun _ _ => rfl
      latched := fun _ => nofun }
  unfold retireOrDelete
  split <;> rename_i hst
  · exact deleted (by simp [holdsTiles, hst])
  · exact deleted (by simp [holdsTiles, hst])
  · exact retired (by simp [holdsTiles, hst])
  · exact retired (by simp [holdsTiles, hst])

theorem removeOrder_placementLaw (direction tag : Nat) (h : PlacementLaw w s) :
    PlacementLaw w (removeOrder direction tag s).2 := by
  unfold removeOrder
  split
  · exact h
  · have completed : PlacementLaw w (completeSource tag s) := spanEndAt_placementLaw _ h
    dsimp only
    split
    · exact completed
    · rename_i r hv
      obtain ⟨hr, -, -⟩ := visibleSource_some hv
      obtain ⟨fs, fm, fq⟩ := freeAdapter_placement r.adapter
        (bindPositions .source r.binding r.cls none (completeSource tag s).store)
      obtain ⟨bs, bm, bq⟩ := bindPositions_placement .source r.binding r.cls none (completeSource tag s).store
      refine retireOrDelete_placementLaw (completed.congr (fs.trans bs) (fm.trans bm) (fq.trans bq)) ?_
      exact (fs.trans bs) ▸ hr
  · have completed : PlacementLaw w (completeSink tag s) := spanEndAt_placementLaw _ h
    dsimp only
    split
    · exact completed
    · rename_i k _
      obtain ⟨fs, fm, fq⟩ := freeAdapter_placement k.adapter
        (bindPositions .sink k.binding k.cls none (completeSink tag s).store)
      obtain ⟨bs, bm, bq⟩ := bindPositions_placement .sink k.binding k.cls none (completeSink tag s).store
      exact completed.congr (fs.trans bs) (fm.trans bm) (fq.trans bq)

/-- RESTATE clears the latch before the evaluation (R66, R123). -/
theorem restate_placementLaw (tag : Nat) (h : PlacementLaw w s) : PlacementLaw w (restate tag s).2 := by
  unfold restate
  split
  · exact h
  · have cleared := h.updateSource tag (fun r => { r with latch := false, faultCount := 0 })
      fun _ _ _ => ⟨rfl, rfl, rfl, rfl, Iff.rfl, id, fun _ => nofun⟩
    dsimp only
    split
    · exact evalSource_keeps cleared tag
    · exact cleared

/-! ### Ports, attention and reads -/

theorem light_store (port : Nat) (s : State) : (light port s).2.store = s.store := by
  unfold light
  split <;> rfl

theorem darken_store (port : Nat) (s : State) : (darken port s).2.store = s.store := by
  unfold darken
  split <;> rfl

theorem setAttention_store (mask enable : Nat) (s : State) : (setAttention mask enable s).2.store = s.store := by
  unfold setAttention
  split <;> rfl

theorem readOrder_store (direction tag : Nat) (s : State) : (readOrder direction tag s).store = s.store := by
  unfold readOrder
  split
  · rfl
  · split <;> rfl
  · split <;> rfl

theorem readLane_store (lane : Nat) (s : State) : (readLane lane s).store = s.store := by
  unfold readLane
  split <;> rfl

theorem readCarrier_store (port : Nat) (s : State) : (readCarrier port s).store = s.store := by
  unfold readCarrier
  split <;> rfl

/-! ### Restarts and HOLD -/

theorem coldEnd_placementLaw (straps : Straps) (h : PlacementLaw w s) : PlacementLaw w (coldEnd straps s) := by
  unfold coldEnd
  refine PlacementLaw.of_store (frameBody_placementLaw [] (PlacementLaw.setLane ?_ _ LaneRx.own)) (retakeSnapshots_store _)
  exact h.of_store rfl

theorem releaseHold_placementLaw (h : PlacementLaw w s) : PlacementLaw w (releaseHold s) := by
  have released : PlacementLaw w (setHold false s) := h.of_store rfl
  unfold releaseHold
  split
  · exact evalSinks_placementLaw false _ released
  · exact released

/-! ### The commands -/

/-- A command that acts under a condition, and else changes nothing. -/
theorem PlacementLaw.guarded {c : Prop} [Decidable c] (h : PlacementLaw w s) (ht : PlacementLaw w t) :
    PlacementLaw w (if c then Machine.finish s t else s) :=
  .ite (ht.finish s) h

/-- The envelope of a request keeps the laws if its body does (R178 to R181). -/
theorem request_placementLaw {code : Byte} {len : Option Nat} {x : Transfer} {body : List Byte → State → State}
    (h : PlacementLaw w s) (hb : ∀ ps s, PlacementLaw w s → PlacementLaw w (body ps s)) :
    PlacementLaw w (request code len x body s) := by
  have out : PlacementLaw w (shifted x.spoiled (transferSize x) s) := h.of_store rfl
  unfold request
  refine PlacementLaw.finish ?_ s
  split
  · exact out
  · split
    · exact out.of_store rfl
    · split
      · exact out.of_store rfl
      · split
        · exact hb _ _ out
        · exact out.of_store rfl

/-- Every next state that an outcome answers obeys the laws. -/
def NextObeys (w : Nat → Prop) (o : Host.Outcome State Fault Refusal) : Prop := ∀ t, o = .next t → PlacementLaw w t

theorem nextObeys_next (h : PlacementLaw w t) : NextObeys w (.next t) := by
  rintro _ ⟨⟩
  exact h

theorem exec_placementLaw (i : Instr) (h : PlacementLaw w s) : NextObeys w (exec i s) := by
  cases i with
  | nop x => exact nextObeys_next (request_placementLaw h fun _ _ h => h.of_store rfl)
  | placeSource x => exact nextObeys_next (request_placementLaw h fun _ _ h => (placeSource_placementLaw _ h).of_store rfl)
  | placeSink x => exact nextObeys_next (request_placementLaw h fun _ _ h => (placeSink_placementLaw _ h).of_store rfl)
  | remove x => exact nextObeys_next (request_placementLaw h fun _ _ h => (removeOrder_placementLaw _ _ h).of_store rfl)
  | restate x => exact nextObeys_next (request_placementLaw h fun _ _ h => (restate_placementLaw _ h).of_store rfl)
  | light x => exact nextObeys_next (request_placementLaw h fun _ s h => h.of_store (light_store _ s))
  | darken x => exact nextObeys_next (request_placementLaw h fun _ s h => h.of_store (darken_store _ s))
  | readOrder x => exact nextObeys_next (request_placementLaw h fun _ s h => h.of_store (readOrder_store _ _ s))
  | readChanges x => exact nextObeys_next (request_placementLaw h fun _ _ h => h.of_store rfl)
  | readLane x => exact nextObeys_next (request_placementLaw h fun _ s h => h.of_store (readLane_store _ s))
  | readCarrier x => exact nextObeys_next (request_placementLaw h fun _ s h => h.of_store (readCarrier_store _ s))
  | readStation x => exact nextObeys_next (request_placementLaw h fun _ _ h => h.of_store rfl)
  | setAttention x => exact nextObeys_next (request_placementLaw h fun _ s h => h.of_store (setAttention_store _ _ s))
  | restartEngine x => exact nextObeys_next (request_placementLaw h fun _ _ _ => PlacementLaw.empty rfl)
  | undefinedCommandCode code x =>
    refine nextObeys_next ?_
    split
    · exact request_placementLaw h fun _ _ h => h
    · exact h
  | transferIncomplete bytes spoiled => exact nextObeys_next (h.guarded (h.of_store rfl))
  | powerUp => exact nextObeys_next (PlacementLaw.finish (PlacementLaw.empty rfl) s)
  | resetAsserted => exact nextObeys_next (h.guarded (PlacementLaw.empty rfl))
  | coldStartEnd straps =>
    refine nextObeys_next ?_
    split
    · exact h
    · exact (coldEnd_placementLaw straps h).finish s
  | holdAsserted => exact nextObeys_next (PlacementLaw.finish (h.of_store (setHold_store true s)) s)
  | holdReleased => exact nextObeys_next ((releaseHold_placementLaw h).finish s)
  | clientIngressBurst port blocks =>
    refine nextObeys_next ?_
    split
    · split
      · exact h
      · exact (arriveAt_placementLaw _ _ h).finish s
    · exact h
  | ownFrameStart leave leaveSpans => exact nextObeys_next (h.guarded (frameStart_placementLaw leave leaveSpans h))
  | clientSinkDeparture leaveSpans =>
    exact nextObeys_next (h.guarded (sinkDepartures_placementLaw leaveSpans (h.of_store rfl)))
  | spanEnd n => exact nextObeys_next (h.guarded (spanEndOf_placementLaw n h))
  | ownRoundStart order => exact nextObeys_next ((roundStart_placementLaw order h).finish s)
  | releaseCountExpiry tag =>
    refine nextObeys_next ?_
    split
    · exact h
    · exact h.guarded (takeWork_placementLaw h .pass)
  | wtrExpiry tag =>
    refine nextObeys_next ?_
    split
    · exact h
    · exact h.guarded (takeWork_placementLaw h .wtr)
  | staggerExpiry port => exact nextObeys_next (h.guarded (h.of_store rfl))
  | claimRoundEnd port => exact nextObeys_next (h.guarded (h.of_store rfl))
  | join => exact nextObeys_next (h.guarded (takeWork_placementLaw h .join))
  | laneMarkerArrival lane t => exact nextObeys_next (h.guarded (laneMarker_placementLaw lane t h))
  | trackingMove lane t => exact nextObeys_next (h.guarded (laneMarker_placementLaw lane t h))
  | laneHeaderReceived lane words tiles => exact nextObeys_next (h.guarded (laneHeader_placementLaw lane words tiles h))
  | staleManifestClear lane cause => exact nextObeys_next (h.guarded (roundEnd_placementLaw lane cause h))
  | markerWindowCheck lane => exact nextObeys_next (h.guarded (windowCheck_placementLaw lane h))
  | missedMarkerLimit lane => exact nextObeys_next (h.guarded (windowCheck_placementLaw lane h))
  | carrierMarkerArrival port t => exact nextObeys_next (h.guarded (h.of_store rfl))
  | carrierSyncEntry port t => exact nextObeys_next (h.guarded (h.of_store rfl))
  | carrierWindowClose port => exact nextObeys_next (h.guarded (windowMissed_placementLaw port h))
  | carrierSyncLoss port => exact nextObeys_next (h.guarded (windowMissed_placementLaw port h))
  | farEndFrameEnd port frame => exact nextObeys_next (h.guarded (farEndFrame_placementLaw port frame h))
  | refPulse t => exact nextObeys_next (h.guarded (refStep_placementLaw _ (h.of_store rfl)))
  | refQualified t => exact nextObeys_next (h.guarded (refStep_placementLaw _ (h.of_store rfl)))
  | refWindowClose => exact nextObeys_next (h.guarded (refStep_placementLaw _ h))
  | refDisqualified => exact nextObeys_next (h.guarded (refStep_placementLaw _ h))

/-- Every step keeps the first law, and the part on WITHDRAW for the tags it is asked for. -/
theorem step_placementLaw (h : PlacementLaw w s) (hstep : step s = .next t) : PlacementLaw w t := by
  unfold step at hstep
  split at hstep
  · cases hstep
    exact h
  · refine exec_placementLaw _ ?_ t hstep
    exact h.of_store rfl

/-- Settles O9: the invariant `PlacementLaw` is the first law alone when the part on WITHDRAW is asked for no tag, and both
laws when it is asked for every tag; every step keeps it either way. -/
theorem everyStepKeepsTheTileLaw : Obligations.EveryStepKeepsTheTileLaw := by
  unfold Obligations.EveryStepKeepsTheTileLaw
  constructor
  · intro s t htile hstep
    exact placementLaw_none_iff.mp (step_placementLaw (placementLaw_none_iff.mpr htile) hstep)
  · intro s t htile hwithdraw hstep
    exact (placementLaw_all_iff.mp (step_placementLaw (placementLaw_all_iff.mpr ⟨htile, hwithdraw⟩) hstep)).2

end Sys2Proof.Placement
end

section
/-! PROOFS. The ranking of candidates (R80): the rank that the Selector compares is the lexicographic order by quality,
standing and lane, candidates of one rank share a lane, and `bestOf` answers a candidate of the least rank. -/

namespace Sys2Proof.Ranking

open Sys2Proof.Machine

variable {b c d : Selection} {cs : List Selection}

/-! ### The three keys -/

theorem quality_rank_inj {p q : Quality} : p.rank = q.rank ↔ p = q := by
  cases p <;> cases q <;> decide

theorem quality_rank_lt_iff {p q : Quality} :
    p.rank < q.rank ↔ p = .good ∧ q ≠ .good ∨ p = .degraded ∧ q = .failed := by
  cases p <;> cases q <;> decide

theorem standing_rank_inj {p q : Standing} : p.rank = q.rank ↔ p = q := by
  cases p <;> cases q <;> decide

theorem standing_rank_lt_iff {p q : Standing} : p.rank < q.rank ↔ p = .primary ∧ q = .standby := by
  cases p <;> cases q <;> decide

theorem standing_rank_le_one (p : Standing) : p.rank ≤ 1 := by
  cases p <;> decide

/-! ### The rank -/

/-- Neither lane nor standing reaches the weight of the key before it, so the sum compares the keys in turn. -/
theorem rank_lt_iff_keys : b.rank < d.rank ↔
    b.quality.rank < d.quality.rank ∨ b.quality.rank = d.quality.rank ∧
      (b.standing.rank < d.standing.rank ∨ b.standing.rank = d.standing.rank ∧ b.lane < d.lane) := by
  have hb := standing_rank_le_one b.standing
  have hd := standing_rank_le_one d.standing
  unfold Selection.rank
  omega

/-- The rank is the order of R80. -/
theorem rank_lt_iff : b.rank < d.rank ↔
    (b.quality = .good ∧ d.quality ≠ .good ∨ b.quality = .degraded ∧ d.quality = .failed) ∨
      b.quality = d.quality ∧ (b.standing = .primary ∧ d.standing = .standby ∨
        b.standing = d.standing ∧ b.lane < d.lane) := by
  rw [rank_lt_iff_keys, quality_rank_lt_iff, quality_rank_inj, standing_rank_lt_iff, standing_rank_inj]

/-- The lane is the last digit of the rank. -/
theorem lane_eq_of_rank_eq (h : b.rank = d.rank) : b.lane = d.lane := by
  unfold Selection.rank at h
  omega

/-- Candidates on different lanes never tie (R80). -/
theorem rank_ne_of_lanes_nodup (hlanes : (cs.map (·.lane)).Nodup) (hb : b ∈ cs) (hd : d ∈ cs) (hne : b ≠ d) :
    b.rank ≠ d.rank :=
  fun htie => hne (List.inj_on_of_nodup_map hlanes hb hd (lane_eq_of_rank_eq htie))

/-! ### The best candidate -/

theorem bestOf_eq_none_iff : bestOf cs = none ↔ cs = [] := by
  cases cs with
  | nil => simp [bestOf]
  | cons c cs =>
    simp only [bestOf, reduceCtorEq, iff_false]
    split
    · simp
    · split <;> simp

/-- What the best candidate of a longer list can be: the new one, with nothing before it in the rest, or the best of the
rest, with the new one not before it. -/
theorem bestOf_cons_cases (h : bestOf (c :: cs) = some b) :
    (b = c ∧ (cs = [] ∨ ∃ o, bestOf cs = some o ∧ c.rank < o.rank)) ∨ (bestOf cs = some b ∧ b.rank ≤ c.rank) := by
  cases hrest : bestOf cs with
  | none =>
    simp only [bestOf, hrest, Option.some.injEq] at h
    exact .inl ⟨h.symm, .inl (bestOf_eq_none_iff.mp hrest)⟩
  | some o =>
    simp only [bestOf, hrest] at h
    split at h
    next hlt =>
      cases h
      exact .inl ⟨rfl, .inr ⟨o, rfl, hlt⟩⟩
    next hge =>
      cases h
      exact .inr ⟨rfl, Nat.not_lt.mp hge⟩

theorem mem_of_bestOf (h : bestOf cs = some b) : b ∈ cs := by
  induction cs with
  | nil => cases h
  | cons c cs ih =>
    obtain ⟨rfl, -⟩ | ⟨hrest, -⟩ := bestOf_cons_cases h
    · exact List.mem_cons_self
    · exact List.mem_cons_of_mem c (ih hrest)

theorem bestOf_rank_le (h : bestOf cs = some b) : ∀ d ∈ cs, b.rank ≤ d.rank := by
  induction cs generalizing b with
  | nil => cases h
  | cons c cs ih =>
    rw [List.forall_mem_cons]
    obtain ⟨rfl, rfl | ⟨o, hrest, hlt⟩⟩ | ⟨hrest, hle⟩ := bestOf_cons_cases h
    · exact ⟨le_rfl, List.forall_mem_nil _⟩
    · exact ⟨le_rfl, fun d hd => hlt.le.trans (ih hrest d hd)⟩
    · exact ⟨hle, ih hrest⟩

theorem exists_bestOf (hne : cs ≠ []) : ∃ b, bestOf cs = some b :=
  Option.ne_none_iff_exists'.mp (mt bestOf_eq_none_iff.mp hne)

/-- With no two candidates on one lane, the best comes strictly before every other. -/
theorem bestOf_rank_lt (hlanes : (cs.map (·.lane)).Nodup) (h : bestOf cs = some b) (hd : d ∈ cs) (hne : d ≠ b) :
    b.rank < d.rank :=
  lt_of_le_of_ne (bestOf_rank_le h d hd) (rank_ne_of_lanes_nodup hlanes (mem_of_bestOf h) hd hne.symm)

/-- Settles O30: the best candidate has the least rank, no other candidate ties with it, and the rank is the order by
quality, standing and lane. -/
theorem bestCandidateRanksBeforeEveryOther : Obligations.BestCandidateRanksBeforeEveryOther := by
  unfold Obligations.BestCandidateRanksBeforeEveryOther
  intro cs hlanes hne
  obtain ⟨b, hbest⟩ := exists_bestOf hne
  exact ⟨b, hbest, mem_of_bestOf hbest, fun d hd hdb => rank_lt_iff.mp (bestOf_rank_lt hlanes hbest hd hdb)⟩

end Sys2Proof.Ranking
end

section
/-! PROOFS. Arrivals (R103, R104): what an arrival makes of an adapter record, and a burst at a client port as one arrival
at the adapter of the source bound there. -/

namespace Sys2Proof.Arrival

open Sys2Proof.Machine Sys2Proof.Safety

variable {s : State} {p : Fin 32} {blocks : List Block} {n : Fin 96} {a : Adapter}

/-! ### An arrival at a record -/

/-- An arrival by the room the store has left, 4 096 blocks per class less those held (R100): a block is discarded exactly
when the arrival is longer than the room. -/
theorem arrive_eq (a : Adapter) (blocks : List Block) : a.arrive blocks = { a with
    arrived := min 4294967295 (a.arrived + blocks.length)
    store := a.store ++ blocks.take (4096 * a.cls - a.store.length)
    dets := { a.dets with
      overflow := a.dets.overflow || decide (4096 * a.cls - a.store.length < blocks.length) } } := by
  have hstored : blocks.take (min blocks.length (a.ecap - a.depth)) = blocks.take (4096 * a.cls - a.store.length) := by
    rw [min_comm]; exact List.take_eq_take_min.symm
  have hdiscarded : (min blocks.length (a.ecap - a.depth) < blocks.length) =
      (4096 * a.cls - a.store.length < blocks.length) := by
    rw [min_lt_iff, lt_self_iff_false, false_or]; rfl
  simp only [Adapter.arrive, hstored, hdiscarded]

theorem arriveAt_allocated (ha : s.store.pool[n] = some a) (blocks : List Block) :
    arriveAt n blocks s = setAdapter n (some (a.arrive blocks)) s := by
  unfold arriveAt; rw [ha]

/-! ### The end of a command that has written one record -/

/-- No reportable field is in the pool: a write of one record flags no item. -/
theorem finish_setAdapter (n : Fin 96) (a : Option Adapter) (s : State) :
    finish s (setAdapter n a s) = { s with
      store := { s.store with pool := s.store.pool.set n a }
      report := attended s.station.state s.report } :=
  finish_quiet rfl rfl rfl rfl rfl

/-! ### A burst at a client port -/

theorem running_iff : running s = true ↔ s.station.state ≠ .cold := decide_eq_true_iff

theorem clientBurst_bound {tag : Nat} {r : Source} (hrun : s.station.state ≠ .cold)
    (hport : s.store.clientIn[p] = some tag) (hsource : visibleSource s.store tag = some r) (hrecord : r.adapter = some n) :
    exec (.clientIngressBurst p blocks) s = .next (finish s (arriveAt n blocks s)) := by
  have hadapter : (s.store.clientIn[p].bind (visibleSource s.store)).bind (·.adapter) = some n := by
    rw [hport, Option.bind_some, hsource, Option.bind_some, hrecord]
  change execClientIngressBurst p blocks s = _
  unfold execClientIngressBurst
  rw [if_pos (running_iff.mpr hrun), hadapter]

theorem clientBurst_free (hport : s.store.clientIn[p] = none) : exec (.clientIngressBurst p blocks) s = .next s := by
  change execClientIngressBurst p blocks s = _
  unfold execClientIngressBurst
  rw [hport]
  exact congrArg _ (ite_self s)

/-- Settles O34: an arrival fills the room of the store, a burst at a bound client port is that arrival at its adapter and
flags nothing, and a burst at a free port changes nothing. -/
theorem clientBurstArrives : Obligations.ClientBurstArrives := by
  unfold Obligations.ClientBurstArrives
  refine ⟨arrive_eq, fun p blocks s tag r n a hrun hport hsource hrecord ha => ?_, fun _ _ _ => clientBurst_free⟩
  rw [clientBurst_bound hrun hport hsource hrecord, arriveAt_allocated ha, finish_setAdapter]

end Sys2Proof.Arrival
end

section
/-! PROOFS. The quality of a source (R125): the causes that its carrier adds to those of its own record, for a source bound
to a client port and for one bound to a carrier port, and the table with those causes in its rows. -/

namespace Sys2Proof.SourceQuality

open Sys2Proof.Machine

variable {ports : Vector CarrierPort 4} {r : Source} {c : Fin 32} {p : Fin 4} {first : Nat}

/-! ### The causes that come from the carrier -/

theorem carrierPort_of_client (h : r.binding = .client c) : r.carrierPort = none := by
  rw [Source.carrierPort, h]

theorem carrierPort_of_carrier (h : r.binding = .carrier p first) : r.carrierPort = some p := by
  rw [Source.carrierPort, h]

theorem carrierFailed_of_client (h : r.binding = .client c) : carrierFailed ports r = false := by
  rw [carrierFailed, carrierPort_of_client h]

theorem carrierDegraded_of_client (h : r.binding = .client c) : carrierDegraded ports r = false := by
  rw [carrierDegraded, carrierPort_of_client h]

theorem carrierFailed_iff_of_carrier (h : r.binding = .carrier p first) : carrierFailed ports r = true ↔
    ports[p].framer ≠ .sync ∨ r.ingress = .absent ∨ r.ingress = .refused ∨ r.ingress = .passed .failed := by
  rw [carrierFailed, carrierPort_of_carrier h]
  simp only [Bool.or_eq_true, decide_eq_true_eq, or_assoc]

theorem carrierDegraded_iff_of_carrier (h : r.binding = .carrier p first) : carrierDegraded ports r = true ↔
    ports[p].degraded = true ∨ r.ingress = .passed .degraded := by
  rw [carrierDegraded, carrierPort_of_carrier h]
  simp only [Bool.or_eq_true, decide_eq_true_eq]

/-! ### The table -/

/-- The rows of the table: FAILED by the latch or the carrier, else DEGRADED by the fault count or the carrier, else
GOOD. -/
theorem sourceQuality_eq (ports : Vector CarrierPort 4) (r : Source) : sourceQuality ports r =
    (if r.latch = true ∨ carrierFailed ports r = true then .failed
      else if 1 ≤ r.faultCount ∨ carrierDegraded ports r = true then .degraded else .good) := by
  simp only [sourceQuality, Bool.or_eq_true, decide_eq_true_eq]

theorem sourceQuality_of_client (h : r.binding = .client c) : sourceQuality ports r =
    (if r.latch = true then .failed else if 1 ≤ r.faultCount then .degraded else .good) := by
  simp only [sourceQuality_eq, carrierFailed_of_client h, carrierDegraded_of_client h, Bool.false_eq_true, or_false]

theorem sourceQuality_of_carrier (h : r.binding = .carrier p first) : sourceQuality ports r =
    (if r.latch = true ∨ ports[p].framer ≠ .sync ∨ r.ingress = .absent ∨ r.ingress = .refused ∨
        r.ingress = .passed .failed then .failed
      else if 1 ≤ r.faultCount ∨ ports[p].degraded = true ∨ r.ingress = .passed .degraded then .degraded
      else .good) := by
  simp only [sourceQuality_eq, carrierFailed_iff_of_carrier h, carrierDegraded_iff_of_carrier h]

/-- Settles O40: by its binding, a client source has the causes of its own record alone, and a carrier source those of its
carrier beside them. -/
theorem sourceQualityFollowsTheTable : Obligations.SourceQualityFollowsTheTable := by
  unfold Obligations.SourceQualityFollowsTheTable
  exact fun _ _ => ⟨fun _ => sourceQuality_of_client, fun _ _ => sourceQuality_of_carrier⟩

end Sys2Proof.SourceQuality
end

section
/-! PROOFS. Accepted requests (R178 to R181): the bytes of a response without payload, and the end of an accepted request
that writes the response slot alone or the report unit beside it. -/

namespace Sys2Proof.Requests

open Sys2Proof.Machine Sys2Proof.Safety

variable {code : Byte} {n : Nat} {st : Status} {payload : List Byte} {x : Transfer} {s : State}

/-! ### The response without payload (R181, R191, R192) -/

theorem messageCheck_eq (bs : List Byte) : messageCheck bs = 0 - BitVec.ofNat 8 (byteSum bs) :=
  (BitVec.ofNat_sub_ofNat 0 (byteSum bs)).symm

theorem byteSum_response_head (code : Byte) (n : Nat) :
    BitVec.ofNat 8 (byteSum [code, BitVec.ofNat 8 n, 0, 0]) = code + BitVec.ofNat 8 n := by
  simp [byteSum, BitVec.ofNat_add, -BitVec.toNat_ofNat]

theorem responseBytes_plain (code : Byte) (st : Status) : responseBytes code.toNat st [] = plainResponse code st := by
  have head : be 1 code.toNat ++ be 1 st.code ++ be 2 0 ++ [] = [code, BitVec.ofNat 8 st.code, 0, 0] := by
    simp [be]
  change (be 1 code.toNat ++ be 1 st.code ++ be 2 0 ++ []) ++ [messageCheck _] = _
  rw [List.length_nil, head, messageCheck_eq, byteSum_response_head]
  rfl

/-! ### An accepted request -/

/-- An accepted request is executed after its bytes have left the slot (R178, R180). -/
theorem request_of_accepted (h : Accepted code n x s) (body : List Byte → State → State) :
    request code (some n) x body s = finish s (body x.params (shifted none (transferSize x) s)) := by
  obtain ⟨runs, whole, sum, rfl⟩ := h
  rw [request_runs runs whole sum, whole]

/-- The port after the transfer and the response of a running station. -/
theorem respond_shifted_mport (runs : s.station.state ≠ .cold) : (respond code.toNat st payload
    (shifted none (transferSize x) s)).mport = portAfter (responseBytes code.toNat st payload) x s := by
  simp [respond, shifted, portAfter, runs]

/-- A request that leaves its response and writes the report unit alone flags nothing; ATTN follows (R181, R187). -/
theorem request_answered_report (h : Accepted code n x s) {body : List Byte → State → State} (r : ReportUnit)
    (answered : body x.params (shifted none (transferSize x) s) =
      respond code.toNat st [] { shifted none (transferSize x) s with report := r }) :
    request code (some n) x body s = { s with
      mport := portAfter (plainResponse code st) x s, report := attended s.station.state r } := by
  have port := respond_shifted_mport (code := code) (st := st) (payload := []) (x := x) h.runs
  rw [responseBytes_plain] at port
  rw [request_of_accepted h, answered, ← port]
  exact finish_quiet rfl rfl rfl rfl rfl

/-- A request whose only effect is its response. -/
theorem request_onlyAnswered (h : Accepted code n x s) {body : List Byte → State → State}
    (answered : body x.params (shifted none (transferSize x) s) =
      respond code.toNat st [] (shifted none (transferSize x) s)) :
    request code (some n) x body s = onlyAnswered code st x s :=
  request_answered_report h s.report answered

end Sys2Proof.Requests
end

section
/-! PROOFS. SET ATTENTION (R188): what the command makes of mask and enable. -/

namespace Sys2Proof.Attention

open Sys2Proof.Machine Sys2Proof.Safety Sys2Proof.Requests

variable {mask enable : Nat} {s : State}

theorem maskOf_eq_testBits (m : Nat) : maskOf m =
    { order := m.testBit 0, lane := m.testBit 1, carrier := m.testBit 2, station := m.testBit 3 } := by
  simp [maskOf, Nat.testBit_eq_decide_div_mod_eq]

theorem setAttention_done (hmask : mask ≤ 15) (henable : enable ≤ 1) : setAttention mask enable s =
    (.done, { s with report := { s.report with mask := maskOf mask, enable := enable = 1 } }) :=
  if_pos ⟨hmask, henable⟩

theorem setAttention_range (h : 15 < mask ∨ 1 < enable) : setAttention mask enable s = (.range, s) :=
  if_neg (by omega)

/-- Settles O17: the two outcomes of SET ATTENTION, each taken through the envelope of an accepted request. -/
theorem setAttentionReplacesMaskAndEnable : Obligations.SetAttentionReplacesMaskAndEnable := by
  unfold Obligations.SetAttentionReplacesMaskAndEnable
  refine fun x s accepted => ⟨fun hmask henable => ?_, fun hrange => ?_⟩
  · rw [← maskOf_eq_testBits]
    refine congrArg _ (request_answered_report accepted _ ?_)
    rw [setAttention_done hmask henable]
    rfl
  · refine congrArg _ (request_onlyAnswered accepted ?_)
    rw [setAttention_range hrange]
    rfl

end Sys2Proof.Attention
end

section
/-! PROOFS. The three checks (R192): a sum modulo 65 536 that a check word brings to 65 535, over the words of a lane header
and of a carrier frame, and a sum of bytes modulo 256 that a check byte brings to 0. -/

namespace Sys2Proof.Checks

open Sys2Proof.Machine

variable {ws : List Word} {w : Word}

/-! ### Words -/

theorem wordSum_append (ws vs : List Word) : wordSum (ws ++ vs) = wordSum ws + wordSum vs := by
  simp [wordSum]

theorem checkGood_iff : checkGood ws = true ↔ wordSum ws % 65536 = 65535 := decide_eq_true_iff

/-- Of all words that may follow `ws`, the check word alone is judged good. -/
theorem checkGood_append_iff : checkGood (ws ++ [w]) = true ↔ w = checkWord ws := by
  have check_toNat : (checkWord ws).toNat = 65535 - wordSum ws % 65536 := by
    rw [checkWord, word, BitVec.toNat_ofNat, Nat.mod_eq_of_lt (by omega)]
  have last : wordSum [w] = w.toNat := by simp [wordSum]
  have bound := w.isLt
  rw [checkGood_iff, wordSum_append, last, ← BitVec.toNat_inj, check_toNat]
  omega

theorem positionWords_length (tiles : List Tile) : (positionWords tiles).length = 120 := by
  simp [positionWords]

theorem carrierCheckGood_iff {header : Word} {tiles : List Tile} :
    carrierCheckGood { header := header, tiles := tiles, check := w } = true ↔ w = (carrierFrame header tiles).check :=
  checkGood_append_iff

/-- A header is its 28 words and their check. -/
theorem headerWords_eq_append_check (h : Heard) {slots : List Slot} (eight : slots.length = 8) :
    ∃ ws : List Word, ws.length = 28 ∧ headerWords h slots = ws ++ [checkWord ws] := by
  refine ⟨_, ?_, rfl⟩
  simp [eight]

/-! ### Bytes -/

/-- The check byte completes the sum of its message to a multiple of 256. -/
theorem byteSum_messageCheck (bs : List Byte) : byteSum (bs ++ [messageCheck bs]) % 256 = 0 := by
  have sum : byteSum (bs ++ [messageCheck bs]) = byteSum bs + (256 - byteSum bs % 256) % 256 := by
    simp [byteSum, messageCheck]
  omega

theorem requestSumGood_iff {code : Byte} {x : Transfer} :
    requestSumGood code x = true ↔ byteSum (requestBytes code x) % 256 = 0 := decide_eq_true_iff

/-- Settles O14: each check as it is formed and as it is judged, and the two examples by evaluation. -/
theorem checksAreFormedAndJudged : Obligations.ChecksAreFormedAndJudged := by
  unfold Obligations.ChecksAreFormedAndJudged
  refine ⟨fun h slots => headerWords_eq_append_check h, fun header tiles => ⟨?_, rfl, fun w => carrierCheckGood_iff⟩,
    fun ws w => checkGood_iff, fun code st payload => byteSum_messageCheck _, fun code x => requestSumGood_iff,
    by decide, by decide⟩
  rw [frameCheckWords, List.length_cons, positionWords_length]

end Sys2Proof.Checks
end

section
/-! PROOFS. The Timing Unit (R159 to R163): the lane that ranks first among the qualified, the source chosen by it, what a
re-evaluation and a judgement of a lane's flag write, and the effect of a row of judgements on the selection. -/

namespace Sys2Proof.SourceChoice

open Sys2Proof.Machine Sys2Proof.Safety

variable {s t u : State} {l m b : Fin 9} {c : TimeSource}

/-! ### The conditions of a lane (R160) -/

theorem laneQualifies_iff {h : Heard} (heard : s.lanes[l].heard = some h) : laneQualifies s l = true ↔
    l ≠ s.station.number ∧ s.lanes[l].state = .aligned ∧ s.timing.lanes[l].alignedRounds = 2 ∧
      (1 ≤ h.level ∧ h.level ≤ 13) ∧ (h.source ≤ 9 ∨ h.source = 15) ∧ h.source ≠ s.station.number.val ∧
      (h.level = 8 → l < s.station.number) := by
  simp only [laneQualifies, heard, headerQualifies, Bool.and_eq_true, Bool.or_eq_true, decide_eq_true_eq, and_assoc,
    imp_iff_not_or]

/-- The conditions read station, receivers and aligned rounds, not the flags or the selection. -/
theorem laneQualifies_congr (station : t.station = s.station) (lanes : t.lanes = s.lanes)
    (rounds : t.timing.lanes[l].alignedRounds = s.timing.lanes[l].alignedRounds) : laneQualifies t l = laneQualifies s l := by
  unfold laneQualifies; rw [station, lanes, rounds]

/-- A lane without two aligned rounds does not qualify. -/
theorem laneQualifies_of_rounds (h : s.timing.lanes[l].alignedRounds ≠ 2) : laneQualifies s l = false := by
  simp [laneQualifies, h, -Fin.getElem_fin]

/-! ### The lane that ranks first (R161) -/

/-- Lane `l` is taken before lane `m`: its heard level is lower, or the level is the same and the lane not higher. -/
def Precedes (s : State) (l m : Fin 9) : Prop :=
  heardLevel s.lanes[l] < heardLevel s.lanes[m] ∨ (heardLevel s.lanes[l] = heardLevel s.lanes[m] ∧ l ≤ m)

theorem Precedes.antisymm (h : Precedes s l m) (k : Precedes s m l) : l = m := by
  unfold Precedes at h k; omega

theorem Precedes.trans (h : Precedes s l m) (k : Precedes s m b) : Precedes s l b := by
  unfold Precedes at h k ⊢; omega

/-- What `bestLane` keeps while it goes through the lanes: none while none is qualified, else the lane that precedes. -/
def keepFirst (s : State) (best : Option (Fin 9)) (l : Fin 9) : Option (Fin 9) :=
  if s.timing.lanes[l].qualified then
    match best with
    | none => some l
    | some b => if heardLevel s.lanes[l] < heardLevel s.lanes[b] then some l else some b
  else best

theorem bestLane_eq_foldl (s : State) : bestLane s = (List.finRange 9).foldl (keepFirst s) none := rfl

/-- The first of the lanes `ls`: none when none of them is qualified, else the qualified one that precedes. -/
def FirstOf (s : State) (ls : List (Fin 9)) : Option (Fin 9) → Prop
  | none => ∀ m ∈ ls, s.timing.lanes[m].qualified = false
  | some b => b ∈ ls ∧ s.timing.lanes[b].qualified = true ∧ ∀ m ∈ ls, s.timing.lanes[m].qualified = true → Precedes s b m

/-- In rising order one more lane replaces the first only by a lower heard level. -/
theorem FirstOf.keepFirst {ls : List (Fin 9)} {best : Option (Fin 9)} (h : FirstOf s ls best) (rising : ∀ m ∈ ls, m < l) :
    FirstOf s (ls ++ [l]) (keepFirst s best l) := by
  unfold SourceChoice.keepFirst
  by_cases q : s.timing.lanes[l].qualified = true
  · rw [if_pos q]
    cases best with
    | none =>
      refine ⟨by simp, q, fun m hm qm => ?_⟩
      rcases List.mem_append.mp hm with hm | hm
      · rw [h m hm] at qm; cases qm
      · rw [List.mem_singleton.mp hm]; exact .inr ⟨rfl, le_rfl⟩
    | some b =>
      obtain ⟨hb, qb, first⟩ := h
      dsimp only
      split
      · rename_i lower
        refine ⟨by simp, q, fun m hm qm => ?_⟩
        rcases List.mem_append.mp hm with hm | hm
        · exact Precedes.trans (.inl lower) (first m hm qm)
        · rw [List.mem_singleton.mp hm]; exact .inr ⟨rfl, le_rfl⟩
      · rename_i lower
        refine ⟨by simp [hb], qb, fun m hm qm => ?_⟩
        rcases List.mem_append.mp hm with hm | hm
        · exact first m hm qm
        · rw [List.mem_singleton.mp hm]
          have := rising b hb
          unfold Precedes; omega
  · rw [if_neg q]
    have q : s.timing.lanes[l].qualified = false := by simpa using q
    cases best with
    | none =>
      intro m hm
      rcases List.mem_append.mp hm with hm | hm
      · exact h m hm
      · rw [List.mem_singleton.mp hm, q]
    | some b =>
      obtain ⟨hb, qb, first⟩ := h
      refine ⟨by simp [hb], qb, fun m hm qm => ?_⟩
      rcases List.mem_append.mp hm with hm | hm
      · exact first m hm qm
      · rw [List.mem_singleton.mp hm, q] at qm; cases qm

theorem foldl_keepFirst (ls : List (Fin 9)) (rising : ls.Pairwise (· < ·)) : FirstOf s ls (ls.foldl (keepFirst s) none) := by
  induction ls using List.reverseRecOn with
  | nil => exact fun m hm => by cases hm
  | append_singleton ls l ih =>
    obtain ⟨sorted, -, below⟩ := List.pairwise_append.mp rising
    rw [List.foldl_append]
    exact (ih sorted).keepFirst fun m hm => below m hm l (by simp)

theorem bestLane_first (s : State) : FirstOf s (List.finRange 9) (bestLane s) := by
  rw [bestLane_eq_foldl]
  exact foldl_keepFirst _ (by decide)

theorem bestLane_eq_none_iff : bestLane s = none ↔ ∀ m : Fin 9, s.timing.lanes[m].qualified = false := by
  have h := bestLane_first s
  constructor
  · intro e m; rw [e] at h; exact h m (List.mem_finRange m)
  · intro unqualified
    cases e : bestLane s with
    | none => rfl
    | some b =>
      rw [e] at h
      have q := h.2.1
      rw [unqualified b] at q
      cases q

theorem bestLane_eq_some_iff : bestLane s = some b ↔ s.timing.lanes[b].qualified = true ∧
    ∀ m : Fin 9, s.timing.lanes[m].qualified = true → Precedes s b m := by
  have h := bestLane_first s
  constructor
  · intro e; rw [e] at h; exact ⟨h.2.1, fun m => h.2.2 m (List.mem_finRange m)⟩
  · rintro ⟨qb, first⟩
    cases e : bestLane s with
    | none => rw [e] at h; rw [h b (List.mem_finRange b)] at qb; cases qb
    | some a =>
      rw [e] at h
      obtain ⟨-, qa, firstA⟩ := h
      rw [(firstA b (List.mem_finRange b) qb).antisymm (first a qa)]

/-! ### The choice of source (R161) -/

/-- The own level under a selected source. -/
def levelUnder (s : State) : TimeSource → Nat
  | .ref => 1
  | .lane l => heardLevel s.lanes[l] + 1
  | .free => 8

theorem chooseSource_snd (s : State) : (chooseSource s).2 = levelUnder s (chooseSource s).1 := by
  unfold chooseSource
  split
  · rfl
  · split <;> rfl

theorem chooseSource_eq_ref (h : s.timing.refState = .qualified) : chooseSource s = (.ref, 1) := if_pos h

theorem chooseSource_eq_free (ref : s.timing.refState ≠ .qualified)
    (unqualified : ∀ m : Fin 9, s.timing.lanes[m].qualified = false) : chooseSource s = (.free, 8) := by
  rw [chooseSource, if_neg ref, bestLane_eq_none_iff.mpr unqualified]

theorem chooseSource_eq_lane (ref : s.timing.refState ≠ .qualified) (q : s.timing.lanes[l].qualified = true)
    (first : ∀ m : Fin 9, s.timing.lanes[m].qualified = true → Precedes s l m) :
    chooseSource s = (.lane l, heardLevel s.lanes[l] + 1) := by
  rw [chooseSource, if_neg ref, bestLane_eq_some_iff.mpr ⟨q, first⟩]

/-- What the choice says: of REF, that it is qualified; of a lane, that it precedes; of FREE, that nothing is qualified. -/
theorem chooseSource_cases (s : State) :
    (s.timing.refState = .qualified ∧ (chooseSource s).1 = .ref) ∨
    (s.timing.refState ≠ .qualified ∧ ∃ l : Fin 9, (chooseSource s).1 = .lane l ∧ s.timing.lanes[l].qualified = true ∧
      ∀ m : Fin 9, s.timing.lanes[m].qualified = true → Precedes s l m) ∨
    (s.timing.refState ≠ .qualified ∧ (chooseSource s).1 = .free ∧ ∀ m : Fin 9, s.timing.lanes[m].qualified = false) := by
  by_cases ref : s.timing.refState = .qualified
  · exact .inl ⟨ref, by rw [chooseSource_eq_ref ref]⟩
  · cases e : bestLane s with
    | none =>
      have unqualified := bestLane_eq_none_iff.mp e
      exact .inr (.inr ⟨ref, by rw [chooseSource_eq_free ref unqualified], unqualified⟩)
    | some l =>
      obtain ⟨q, first⟩ := bestLane_eq_some_iff.mp e
      exact .inr (.inl ⟨ref, l, by rw [chooseSource_eq_lane ref q first], q, first⟩)

/-- The choice reads the receivers, the REF state and the flags. -/
theorem chooseSource_congr (lanes : t.lanes = s.lanes) (ref : t.timing.refState = s.timing.refState)
    (flags : t.timing.lanes = s.timing.lanes) : chooseSource t = chooseSource s := by
  unfold chooseSource bestLane; rw [lanes, ref, flags]

/-! ### A re-evaluation (R161 to R163) -/

theorem reselect_eq_self (h : (chooseSource s).1 = s.timing.selected) : reselect s = s := if_pos h

theorem reselect_eq_change (h : (chooseSource s).1 ≠ s.timing.selected) : reselect s = { s with
    timing := { s.timing with
      selected := (chooseSource s).1, level := (chooseSource s).2, changed := true
      holdover := decide ((chooseSource s).1 = .free), phaseDue := decide ((chooseSource s).1 ≠ .free) } } := if_neg h

theorem reselect_lanes (s : State) : (reselect s).timing.lanes = s.timing.lanes := by
  unfold reselect; dsimp only; split <;> rfl

theorem reselect_refState (s : State) : (reselect s).timing.refState = s.timing.refState := by
  unfold reselect; dsimp only; split <;> rfl

theorem reselect_selected (s : State) : (reselect s).timing.selected = (chooseSource s).1 := by
  unfold reselect; dsimp only; split
  · exact (‹(chooseSource s).1 = _›).symm
  · rfl

theorem reselect_receivers (s : State) : (reselect s).lanes = s.lanes := by rw [reselect_onlyTiming s]

theorem reselect_station (s : State) : (reselect s).station = s.station := by rw [reselect_onlyTiming s]

theorem chooseSource_reselect (s : State) : chooseSource (reselect s) = chooseSource s :=
  chooseSource_congr (reselect_receivers s) (reselect_refState s) (reselect_lanes s)

/-! ### A judgement of one lane (R160, R161) -/

theorem getElem_set_ne {α : Type} {n : Nat} {i j : Fin n} (v : Vector α n) (x : α) (h : j ≠ i) : (v.set i x)[j] = v[j] :=
  Vector.getElem_set_ne i.isLt j.isLt fun e => h (Fin.ext e.symm)

/-- The record of a lane with the flag that its conditions call for. -/
def judged (s : State) (l : Fin 9) : LaneTiming := { s.timing.lanes[l] with qualified := laneQualifies s l }

theorem judgeLane_eq_self (h : laneQualifies s l = s.timing.lanes[l].qualified) : judgeLane l s = s := if_pos h

theorem judgeLane_eq_reselect (h : laneQualifies s l ≠ s.timing.lanes[l].qualified) :
    judgeLane l s = reselect (setLaneTiming l (judged s l) s) := if_neg h

theorem judgeLane_lanes (l : Fin 9) (s : State) : (judgeLane l s).timing.lanes = s.timing.lanes.set l (judged s l) := by
  by_cases h : laneQualifies s l = s.timing.lanes[l].qualified
  · rw [judgeLane_eq_self h, judged, h]; exact (set_same _ l).symm
  · rw [judgeLane_eq_reselect h, reselect_lanes]; rfl

theorem judgeLane_same (l : Fin 9) (s : State) : (judgeLane l s).timing.lanes[l] = judged s l := by
  rw [judgeLane_lanes]; simp

theorem judgeLane_other (h : m ≠ l) : (judgeLane l s).timing.lanes[m] = s.timing.lanes[m] := by
  rw [judgeLane_lanes]; exact getElem_set_ne _ _ h

theorem judgeLane_rounds (l m : Fin 9) (s : State) :
    (judgeLane l s).timing.lanes[m].alignedRounds = s.timing.lanes[m].alignedRounds := by
  by_cases h : m = l
  · subst h; rw [judgeLane_same]; rfl
  · rw [judgeLane_other h]

theorem judgeLane_receivers (l : Fin 9) (s : State) : (judgeLane l s).lanes = s.lanes := by rw [judgeLane_onlyTiming l s]

theorem judgeLane_station (l : Fin 9) (s : State) : (judgeLane l s).station = s.station := by rw [judgeLane_onlyTiming l s]

/-- A judgement changes no lane's conditions. -/
theorem laneQualifies_judgeLane (l m : Fin 9) (s : State) : laneQualifies (judgeLane l s) m = laneQualifies s m :=
  laneQualifies_congr (judgeLane_station l s) (judgeLane_receivers l s) (judgeLane_rounds l m s)

theorem judged_judgeLane (h : m ≠ l) : judged (judgeLane l s) m = judged s m := by
  unfold judged; rw [laneQualifies_judgeLane, judgeLane_other h]

/-- Lanes judged one after another have each the flag that their conditions call for. -/
theorem foldl_judgeLane (ls : List (Fin 9)) (distinct : ls.Nodup) (s : State) (m : Fin 9) :
    (ls.foldl (fun s l => judgeLane l s) s).timing.lanes[m] = if m ∈ ls then judged s m else s.timing.lanes[m] := by
  induction ls generalizing s with
  | nil => rfl
  | cons l ls ih =>
    obtain ⟨fresh, distinct⟩ := List.nodup_cons.mp distinct
    rw [List.foldl_cons, ih distinct]
    by_cases h : m = l
    · subst h; rw [if_neg fresh, if_pos (by simp), judgeLane_same]
    · simp only [List.mem_cons, h, false_or, judged_judgeLane h, judgeLane_other h]

/-! ### What a row of judgements makes of the selection (R161) -/

/-- From `s` to `u` the Timing Unit has moved nothing but its records of the lanes. -/
def Unmoved (s u : State) : Prop := u.timing = { s.timing with lanes := u.timing.lanes }

/-- From `s` to `u` the selection has changed, and what the last change took with it stands: the level, the holdover and
the step decision. -/
def Moved (s u : State) : Prop := u.timing = { s.timing with
  lanes := u.timing.lanes
  selected := u.timing.selected
  level := levelUnder u u.timing.selected
  changed := true
  holdover := decide (u.timing.selected = .free)
  phaseDue := decide (u.timing.selected ≠ .free) }

theorem levelUnder_congr (lanes : t.lanes = s.lanes) (c : TimeSource) : levelUnder t c = levelUnder s c := by
  cases c <;> simp only [levelUnder, lanes]

/-- The selection of `u` against that of `s`: as it was, or as its last change left it. -/
def Follows (s u : State) : Prop := Unmoved s u ∨ Moved s u

theorem Follows.reselect (h : Follows s u) : Follows s (reselect u) := by
  by_cases same : (chooseSource u).1 = u.timing.selected
  · rwa [reselect_eq_self same]
  · right
    rw [reselect_eq_change same]
    unfold Moved
    dsimp only
    rw [chooseSource_snd]
    rcases h with h | h <;> rw [h] <;> rfl

theorem Follows.setLaneTiming (h : Follows s u) (l : Fin 9) (x : LaneTiming) : Follows s (setLaneTiming l x u) := by
  rcases h with h | h
  · left; unfold Unmoved Machine.setLaneTiming; dsimp only; rw [h]
  · right
    have level : levelUnder (Machine.setLaneTiming l x u) = levelUnder u := funext (levelUnder_congr rfl)
    unfold Moved
    rw [level]
    unfold Machine.setLaneTiming
    dsimp only
    rw [h]

theorem Follows.judgeLane (h : Follows s u) (l : Fin 9) : Follows s (judgeLane l u) := by
  by_cases same : laneQualifies u l = u.timing.lanes[l].qualified
  · rwa [judgeLane_eq_self same]
  · rw [judgeLane_eq_reselect same]; exact (h.setLaneTiming l _).reselect

/-! ### A source that is left is not taken again while flags only rise -/

/-- The source `c` stands: REF is qualified, or the lane is. -/
def Stands (s : State) : TimeSource → Prop
  | .ref => s.timing.refState = .qualified
  | .lane l => s.timing.lanes[l].qualified = true
  | .free => True

/-- A source that stands and is not the choice is not the choice either with more lanes qualified: what is chosen before it
is still there. -/
theorem chooseSource_ne_of_more_flags (stands : Stands s c) (away : (chooseSource s).1 ≠ c) (receivers : t.lanes = s.lanes)
    (ref : t.timing.refState = s.timing.refState)
    (flags : ∀ m : Fin 9, s.timing.lanes[m].qualified = true → t.timing.lanes[m].qualified = true) :
    (chooseSource t).1 ≠ c := by
  rcases chooseSource_cases s with ⟨refS, chosen⟩ | ⟨refS, a, chosen, qa, first⟩ | ⟨refS, chosen, unqualified⟩
  · rw [chooseSource_eq_ref (ref.trans refS)]; rwa [chosen] at away
  · have refT : t.timing.refState ≠ .qualified := by rwa [ref]
    rcases chooseSource_cases t with ⟨refT', -⟩ | ⟨-, b, chosenT, -, firstT⟩ | ⟨-, -, noneT⟩
    · exact absurd refT' refT
    · rw [chosenT]
      rintro rfl
      have ba : Precedes s b a := by simpa [Precedes, receivers] using firstT a (flags a qa)
      exact away (by rw [chosen, (first b stands).antisymm ba])
    · exact absurd (flags a qa) (by rw [noneT a]; decide)
  · rw [chosen] at away
    cases c with
    | ref => exact absurd stands refS
    | lane l => exact absurd ((unqualified l).symm.trans stands) Bool.false_ne_true
    | free => exact absurd rfl away

/-- In a row of judgements from `s` on in which flags only rise: every flag agrees with its conditions or is still to rise,
the source selected in `s` stands, and where the selection has moved it has left that source for good. -/
structure Rises (s u : State) : Prop where
  flags : ∀ m : Fin 9, u.timing.lanes[m].qualified = true → laneQualifies u m = true
  stands : Stands u s.timing.selected
  left : Unmoved s u ∨ ((chooseSource u).1 ≠ s.timing.selected ∧ u.timing.selected ≠ s.timing.selected)

theorem Rises.reselect (h : Rises s u) : Rises s (reselect u) := by
  by_cases same : (chooseSource u).1 = u.timing.selected
  · rwa [reselect_eq_self same]
  · have stands : Stands (Machine.reselect u) s.timing.selected := by
      have := h.stands
      unfold Stands at this ⊢
      rwa [reselect_lanes, reselect_refState]
    refine ⟨fun m q => ?_, stands, .inr ?_⟩
    · rw [laneQualifies_congr (reselect_station u) (reselect_receivers u) (by rw [reselect_lanes])]
      exact h.flags m (by rwa [reselect_lanes] at q)
    · rw [chooseSource_reselect, reselect_selected]
      rcases h.left with unmoved | ⟨away, -⟩
      · have : u.timing.selected = s.timing.selected := by rw [unmoved]
        rw [this] at same
        exact ⟨same, same⟩
      · exact ⟨away, away⟩

/-- A flag that rises leaves the source selected in `s` standing. -/
theorem Rises.raise (h : Rises s u) (l : Fin 9) : Rises s (setLaneTiming l (judged u l) u) := by
  have lanes : ∀ m : Fin 9, (Machine.setLaneTiming l (judged u l) u).timing.lanes[m] =
      if m = l then judged u l else u.timing.lanes[m] := by
    intro m
    split
    · subst m; exact Vector.getElem_set_self _
    · exact getElem_set_ne _ _ ‹_›
  have conditions : ∀ m : Fin 9, laneQualifies (Machine.setLaneTiming l (judged u l) u) m = laneQualifies u m := by
    intro m
    refine laneQualifies_congr rfl rfl ?_
    rw [lanes m]
    split
    · subst m; rfl
    · rfl
  have rise : ∀ m : Fin 9, u.timing.lanes[m].qualified = true →
      (Machine.setLaneTiming l (judged u l) u).timing.lanes[m].qualified = true := by
    intro m q
    rw [lanes m]
    split
    · subst m; exact h.flags _ q
    · exact q
  refine ⟨fun m q => ?_, ?_, ?_⟩
  · rw [conditions]
    rw [lanes m] at q
    split at q
    · subst m; exact q
    · exact h.flags m q
  · have stands := h.stands
    cases c : s.timing.selected with
    | ref => rw [c] at stands; exact stands
    | lane m => rw [c] at stands; exact rise m stands
    | free => trivial
  · rcases h.left with unmoved | ⟨away, other⟩
    · left; unfold Unmoved Machine.setLaneTiming; dsimp only; rw [unmoved]
    · exact .inr ⟨chooseSource_ne_of_more_flags h.stands away rfl rfl rise, other⟩

theorem Rises.judgeLane (h : Rises s u) (l : Fin 9) : Rises s (judgeLane l u) := by
  by_cases same : laneQualifies u l = u.timing.lanes[l].qualified
  · rwa [judgeLane_eq_self same]
  · rw [judgeLane_eq_reselect same]; exact (h.raise l).reselect

/-! ### The counts at a round start (R159) -/

theorem countLanes_lane (s : State) (l : Fin 9) : (countLanes s).timing.lanes[l] =
    if l = s.station.number then s.timing.lanes[l] else countAligned (s.lanes[l].state = .aligned) s.timing.lanes[l] := by
  simp only [countLanes, Fin.getElem_fin, Vector.getElem_mapIdx, dif_pos l.isLt, ← Fin.ext_iff]

theorem countLanes_rounds (h : l ≠ s.station.number) : (countLanes s).timing.lanes[l].alignedRounds =
    if s.lanes[l].state = .aligned then
      (if s.timing.lanes[l].wholeRound = true then min 2 (s.timing.lanes[l].alignedRounds + 1)
        else s.timing.lanes[l].alignedRounds)
    else 0 := by
  rw [countLanes_lane, if_neg h]
  unfold countAligned
  by_cases aligned : s.lanes[l].state = .aligned <;> simp [aligned, -Fin.getElem_fin]

theorem countLanes_wholeRound (h : l ≠ s.station.number) : (countLanes s).timing.lanes[l].wholeRound =
    (decide (s.lanes[l].state = .aligned) || s.timing.lanes[l].wholeRound) := by
  rw [countLanes_lane, if_neg h]
  unfold countAligned
  by_cases aligned : s.lanes[l].state = .aligned <;> simp [aligned, -Fin.getElem_fin]

theorem countLanes_qualified (s : State) (l : Fin 9) :
    (countLanes s).timing.lanes[l].qualified = s.timing.lanes[l].qualified := by
  rw [countLanes_lane]
  unfold countAligned
  split
  · rfl
  · split <;> rfl

/-- A qualified lane keeps its conditions through the counts: it is ALIGNED, and two aligned rounds stay two. -/
theorem laneQualifies_countLanes (h : laneQualifies s l = true) : laneQualifies (countLanes s) l = true := by
  have conditions := h
  simp only [laneQualifies, Bool.and_eq_true, decide_eq_true_eq] at conditions
  obtain ⟨⟨⟨peer, aligned⟩, rounds⟩, -⟩ := conditions
  rw [← h]
  refine laneQualifies_congr rfl rfl ?_
  rw [countLanes_rounds peer, if_pos aligned, rounds]
  split <;> rfl

/-! ### The work at a round start (R161) -/

@[simp] theorem ageStep_selected (u : TimingUnit) : (ageStep u).selected = u.selected := rfl
@[simp] theorem ageStep_level (u : TimingUnit) : (ageStep u).level = u.level := rfl
@[simp] theorem ageStep_holdover (u : TimingUnit) : (ageStep u).holdover = u.holdover := rfl
@[simp] theorem ageStep_phaseDue (u : TimingUnit) : (ageStep u).phaseDue = u.phaseDue := rfl
@[simp] theorem ageStep_refState (u : TimingUnit) : (ageStep u).refState = u.refState := rfl
@[simp] theorem ageStep_lanes (u : TimingUnit) : (ageStep u).lanes = u.lanes := rfl
@[simp] theorem ageStep_changed (u : TimingUnit) : (ageStep u).changed = false := rfl
@[simp] theorem ageStep_age (u : TimingUnit) : (ageStep u).age = if u.changed then 0 else min 255 (u.age + 1) := rfl

/-- The Timing Unit before the selection age is counted. -/
def reviewed (s : State) : State := reselect (judgeLanes (countLanes s))

theorem timingWork_eq (s : State) : timingWork s = { reviewed s with timing := ageStep (reviewed s).timing } := rfl

theorem judgeLanes_onlyTiming (s : State) : OnlyTiming s (judgeLanes s) :=
  foldl_onlyTiming _ (fun s l => judgeLane_onlyTiming l s) _ _

theorem reviewed_onlyTiming (s : State) : OnlyTiming s (reviewed s) :=
  OnlyTiming.trans (t := countLanes s) rfl ((judgeLanes_onlyTiming _).trans (reselect_onlyTiming _))

theorem reviewed_lane (s : State) (l : Fin 9) : (reviewed s).timing.lanes[l] = judged (countLanes s) l := by
  rw [reviewed, reselect_lanes, judgeLanes, foldl_judgeLane _ (List.nodup_finRange 9), if_pos (List.mem_finRange l)]

theorem reviewed_follows (s : State) : Follows s (reviewed s) := by
  refine Follows.reselect (List.foldlRecOn _ _ (.inl rfl) fun _ h l _ => h.judgeLane l)

theorem reviewed_rises (h : TimingLaw s) : Rises s (reviewed s) := by
  refine Rises.reselect (List.foldlRecOn _ _ ⟨fun m q => ?_, ?_, .inl rfl⟩ fun _ h l _ => h.judgeLane l)
  · rw [countLanes_qualified, h.judged m] at q
    exact laneQualifies_countLanes q
  · have follows := h.follows
    unfold followsOf at follows
    cases c : s.timing.selected with
    | ref => rw [c] at follows; exact follows.1
    | lane l => rw [c] at follows; exact (countLanes_qualified s l).trans follows.1
    | free => trivial

theorem reviewed_selected (s : State) : (reviewed s).timing.selected = (chooseSource (reviewed s)).1 := by
  unfold reviewed
  rw [chooseSource_reselect, reselect_selected]

/-- Under the law of the Timing Unit a selection that ends where it began has not moved. -/
theorem reviewed_unmoved (h : TimingLaw s) (same : (reviewed s).timing.selected = s.timing.selected) :
    Unmoved s (reviewed s) :=
  (reviewed_rises h).left.resolve_right fun left => left.2 same

/-! ### Comparisons when nothing but station fields changes (R183) -/

/-- A comparison of states with the same orders, lanes and ports can flag the station item alone. -/
theorem noteChanges_station (store : t.store = s.store) (lanes : t.lanes = s.lanes)
    (ports : t.carriers.ports = s.carriers.ports) :
    noteChanges s t = { t.report with station := t.report.station.note (stationReport s) (stationReport t) } := by
  have sources : noteSource s t = id := funext (noteSource_same s t (by rw [store]))
  have sinks : noteSink s t = id := funext (noteSink_same s t (by rw [store]))
  have noLane : ∀ w : Vector (Item LaneReport) 9, (w.mapIdx fun i it =>
      if h : i < 9 then it.note (laneReport s.lanes[i]) (laneReport s.lanes[i]) else it) = w := by
    intro w; ext i hi; simp [note_same]
  have noPort : ∀ w : Vector (Item PortReport) 4, (w.mapIdx fun i it =>
      if h : i < 4 then it.note (portReport s.carriers.ports[i]) (portReport s.carriers.ports[i]) else it) = w := by
    intro w; ext i hi; simp [note_same]
  unfold noteChanges
  rw [sources, sinks, lanes, ports, List.map_id, List.map_id, noLane, noPort]

/-- The end of a command that moves the Timing Unit and the transmitter alone. -/
theorem finish_timing_only (running : t.station.state ≠ .cold) (store : t.store = s.store) (lanes : t.lanes = s.lanes)
    (ports : t.carriers.ports = s.carriers.ports) : finish s t = { t with
      report := { t.report with station := (finish s t).report.station, attn := (finish s t).report.attn } } := by
  have compared : noted s t = { t with
      report := { t.report with station := t.report.station.note (stationReport s) (stationReport t) } } := by
    rw [noted, if_neg running, noteChanges_station store lanes ports]
  unfold finish
  rw [compared]
  rfl

/-! ### The own round start with this work alone -/

/-- The round that begins when frame 15 gives way, with the Timing Unit's work taken from its works. -/
def roundBegun (s : State) : State :=
  { s with tx := { s.tx with roundNo := (s.tx.roundNo + 1) % 65536, boundary := true
                             due := [.pass, .snapshot, .wtr, .join, .lighting, .degraded] } }

theorem takeWork_timing (due : .timing ∈ s.tx.due) : takeWork s .timing =
    event timingWork { s with tx := { s.tx with due := s.tx.due.filter (· ≠ .timing) } } := by
  rw [takeWork, if_neg (by decide), takeDue, if_pos due]
  rfl

theorem roundStart_timing (running : s.station.state ≠ .cold) (last : s.tx.frame = 15) (before : s.tx.boundary = false)
    (idle : s.tx.due = []) : roundStart [.timing] s = event timingWork (roundBegun s) := by
  have reached : (Machine.running s && s.tx.frame = 15 && !s.tx.boundary) = true := by
    simp [Machine.running, running, last, before]
  have works : ([.timing] : List RoundWork).filter (· ≠ .wtr) = [.timing] := rfl
  rw [roundStart, if_pos reached, idle, works, List.foldl_nil, List.foldl_cons, List.foldl_nil,
    takeWork_timing (by simp [allWorks])]
  rfl

theorem ownRoundStart_timing (running : s.station.state ≠ .cold) (last : s.tx.frame = 15) (before : s.tx.boundary = false)
    (idle : s.tx.due = []) : exec (.ownRoundStart [.timing]) s = .next (finish s (timingWork (roundBegun s))) := by
  have compared : event timingWork (roundBegun s) = noted s (timingWork (roundBegun s)) := by
    have same := noteChanges_before (s := s) (u := roundBegun s) (timingWork (roundBegun s)) rfl rfl rfl rfl
    unfold event noted
    rw [same]
  change Host.Outcome.next (finish s (roundStart [.timing] s)) = _
  rw [roundStart_timing running last before idle, compared, finish_noted]

/-! ### The engine after it -/

/-- The engine after an own round start at which the Timing Unit alone does its work. -/
def afterRound (s : State) : State := finish s (timingWork (roundBegun s))

theorem afterRound_timing (s : State) : (afterRound s).timing = ageStep (reviewed (roundBegun s)).timing := by
  rw [afterRound, finish_timing, timingWork_eq]

theorem afterRound_receivers (s : State) : (afterRound s).lanes = s.lanes := by
  rw [afterRound, finish_lanes, timingWork_onlyTiming]; rfl

theorem afterRound_station (s : State) : (afterRound s).station = s.station := by
  rw [afterRound, finish_station, timingWork_onlyTiming]; rfl

theorem afterRound_lane (s : State) (l : Fin 9) :
    (afterRound s).timing.lanes[l] = judged (countLanes (roundBegun s)) l := by
  rw [afterRound_timing, ageStep_lanes, reviewed_lane]

theorem afterRound_judged (s : State) (l : Fin 9) :
    (afterRound s).timing.lanes[l].qualified = laneQualifies (afterRound s) l := by
  have conditions : laneQualifies (afterRound s) l = laneQualifies (countLanes (roundBegun s)) l := by
    refine laneQualifies_congr (afterRound_station s) (afterRound_receivers s) ?_
    rw [afterRound_lane, judged]
  rw [conditions, afterRound_lane, judged]

theorem chooseSource_afterRound (s : State) : chooseSource (afterRound s) = chooseSource (reviewed (roundBegun s)) := by
  refine chooseSource_congr ?_ ?_ ?_
  · rw [afterRound_receivers, reviewed_onlyTiming]; rfl
  · rw [afterRound_timing, ageStep_refState]
  · rw [afterRound_timing, ageStep_lanes]

theorem afterRound_selected (s : State) : (afterRound s).timing.selected = (chooseSource (afterRound s)).1 := by
  rw [chooseSource_afterRound, afterRound_timing, ageStep_selected, reviewed_selected]

theorem reviewed_follows_round (s : State) : Follows s (reviewed (roundBegun s)) := reviewed_follows (roundBegun s)

/-- The fields of the Timing Unit that the work leaves as they were. -/
theorem afterRound_frame (s : State) : (afterRound s).timing = { s.timing with
    lanes := (afterRound s).timing.lanes, selected := (afterRound s).timing.selected, level := (afterRound s).timing.level
    age := (afterRound s).timing.age, changed := false, holdover := (afterRound s).timing.holdover
    phaseDue := (afterRound s).timing.phaseDue } := by
  have follows := reviewed_follows_round s
  rw [afterRound_timing]
  generalize reviewed (roundBegun s) = r at follows ⊢
  rcases follows with h | h
  · unfold Unmoved at h; rw [h]; rfl
  · unfold Moved at h; rw [h]; rfl

theorem afterRound_moved (h : (afterRound s).timing.selected ≠ s.timing.selected) :
    Moved s (reviewed (roundBegun s)) := by
  rw [afterRound_timing, ageStep_selected] at h
  exact (reviewed_follows_round s).resolve_left fun unmoved => h (by rw [unmoved])

theorem afterRound_unmoved (law : TimingLaw s) (h : (afterRound s).timing.selected = s.timing.selected) :
    Unmoved s (reviewed (roundBegun s)) := by
  rw [afterRound_timing, ageStep_selected] at h
  exact reviewed_unmoved (s := roundBegun s) ⟨law.cold, law.judged, law.follows⟩ h

/-- A change of selection leaves its level, holdover and step decision, and sets the selection age back. -/
theorem afterRound_change (h : (afterRound s).timing.selected ≠ s.timing.selected) :
    (afterRound s).timing.level = (chooseSource (afterRound s)).2 ∧
      (afterRound s).timing.holdover = decide ((afterRound s).timing.selected = .free) ∧
      (afterRound s).timing.phaseDue = decide ((afterRound s).timing.selected ≠ .free) ∧ (afterRound s).timing.age = 0 := by
  have moved := afterRound_moved h
  rw [chooseSource_afterRound, chooseSource_snd, ← reviewed_selected, afterRound_timing, ageStep_level, ageStep_holdover,
    ageStep_phaseDue, ageStep_selected, ageStep_age]
  generalize reviewed (roundBegun s) = r at moved ⊢
  exact ⟨congrArg (·.level) moved, congrArg (·.holdover) moved, congrArg (·.phaseDue) moved,
    if_pos (congrArg (·.changed) moved)⟩

/-- Without a change of selection its fields stay, and the selection age counts. -/
theorem afterRound_stay (law : TimingLaw s) (h : (afterRound s).timing.selected = s.timing.selected) :
    (afterRound s).timing.level = s.timing.level ∧ (afterRound s).timing.holdover = s.timing.holdover ∧
      (afterRound s).timing.phaseDue = s.timing.phaseDue ∧
      (s.timing.changed = false → (afterRound s).timing.age = min 255 (s.timing.age + 1)) := by
  have unmoved := afterRound_unmoved law h
  rw [afterRound_timing, ageStep_level, ageStep_holdover, ageStep_phaseDue, ageStep_age, unmoved]
  exact ⟨rfl, rfl, rfl, fun unchanged => if_neg (by rw [unchanged]; decide)⟩

/-- A change of selection that was noted before the round start sets the selection age back too. -/
theorem afterRound_age_of_changed (h : s.timing.changed = true) : (afterRound s).timing.age = 0 := by
  have changed : (reviewed (roundBegun s)).timing.changed = true := by
    rcases reviewed_follows_round s with e | e
    · unfold Unmoved at e; rw [e]; exact h
    · unfold Moved at e; rw [e]
  rw [afterRound_timing, ageStep_age, if_pos changed]

/-- Nothing but round, works, Timing Unit, station item and ATTN is other after it. -/
theorem afterRound_eq (running : s.station.state ≠ .cold) : afterRound s = { s with
    tx := (roundBegun s).tx
    timing := (afterRound s).timing
    report := { s.report with station := (afterRound s).report.station, attn := (afterRound s).report.attn } } := by
  have only := timingWork_onlyTiming (roundBegun s)
  unfold OnlyTiming at only
  unfold afterRound
  generalize timingWork (roundBegun s) = w at only ⊢
  rw [finish_timing_only (s := s) (t := w) (by rw [only]; exact running) (by rw [only]; rfl) (by rw [only]; rfl)
    (by rw [only]; rfl)]
  rw [only]
  rfl

/-- Settles O59: the conditions of a lane, the choice, the re-evaluation, and the engine after an own round start at which
the Timing Unit alone does its work. -/
theorem selectionTakesTheBestSource : Obligations.SelectionTakesTheBestSource := by
  unfold Obligations.SelectionTakesTheBestSource
  refine ⟨fun s l h => laneQualifies_iff, fun s => ⟨chooseSource_eq_ref, fun l => chooseSource_eq_lane, chooseSource_eq_free,
    reselect_eq_self, fun c n choice other => ?_⟩, fun s running last before idle => ⟨afterRound s,
    ownRoundStart_timing running last before idle, fun l peer => ?_, afterRound_judged s, ?_, afterRound_selected s,
    afterRound_frame s, fun h => ?_, fun law h => ?_, fun l peer => ?_, fun h => ?_, fun law unchanged h => ?_,
    afterRound_eq running⟩⟩
  · have fst : (chooseSource s).1 = c := by rw [choice]
    rw [reselect_eq_change (by rwa [fst]), choice]
  · rw [afterRound_lane]; exact countLanes_rounds (s := roundBegun s) peer
  · rw [afterRound_timing, ageStep_changed]
  · obtain ⟨level, holdover, phaseDue, -⟩ := afterRound_change h
    exact ⟨level, holdover, phaseDue⟩
  · obtain ⟨level, holdover, phaseDue, -⟩ := afterRound_stay law h
    exact ⟨level, holdover, phaseDue⟩
  · rw [afterRound_lane]; exact countLanes_wholeRound (s := roundBegun s) peer
  · rcases h with h | h
    · exact afterRound_age_of_changed h
    · exact (afterRound_change h).2.2.2
  · exact (afterRound_stay law h).2.2.2 unchanged

end Sys2Proof.SourceChoice
end

section
/-! PROOFS. The end of a far-end frame (R142 to R144): what the extraction writes in one source and in its adapter, the
extraction for every source of the table, and the port that judges the frame. -/

namespace Sys2Proof.FarEnd

open Sys2Proof.Machine Sys2Proof.Safety

variable {s : State} {p : Fin 4} {tiles : List Tile} {r e : Source} {n : Fin 96} {pool : Vector (Option Adapter) 96}

/-! ### Visible sources -/

/-- Of sources with unique tags, one that is not removed is the visible source of its tag. -/
theorem visibleSource_of_mem {st : OrderStore} (tags : (st.sources.map (·.tag)).Nodup) (hr : r ∈ st.sources)
    (visible : r.removed = false) : visibleSource st r.tag = some r := by
  cases found : visibleSource st r.tag with
  | none =>
    rw [Placement.visibleSource_none found hr rfl] at visible
    cases visible
  | some e =>
    obtain ⟨he, tag, -⟩ := visibleSource_some found
    rw [List.inj_on_of_nodup_map tags he hr tag]

/-- A removed source hides its tag. -/
theorem visibleSource_of_removed {st : OrderStore} (tags : (st.sources.map (·.tag)).Nodup) (hr : r ∈ st.sources)
    (removed : r.removed = true) : visibleSource st r.tag = none := by
  cases found : visibleSource st r.tag with
  | none => rfl
  | some e =>
    obtain ⟨he, tag, visible⟩ := visibleSource_some found
    rw [List.inj_on_of_nodup_map tags he hr tag, removed] at visible
    cases visible

/-! ### The extraction for one source (R144) -/

/-- A source that is not removed, bound to port `p` from position `first` on. -/
def BoundAt (p : Fin 4) (first : Nat) (r : Source) : Prop := r.binding = .carrier p first ∧ r.removed = false

/-- The ingress status by the frame's tiles. -/
def ingressOf (tiles : List Tile) (first : Nat) (r : Source) : IngressStatus :=
  match readGroup tiles first r.cls r.tag with
  | some (m, _) => .passed m
  | none => .refused

/-- A source after the extraction. -/
def extracted (p : Fin 4) (tiles : List Tile) (r : Source) : Source :=
  match r.binding with
  | .carrier q first => if q = p ∧ r.removed = false then { r with ingress := ingressOf tiles first r } else r
  | .client _ => r

/-- The blocks that the extraction hands to a source's adapter. -/
def extractedBlocks (p : Fin 4) (tiles : List Tile) (r : Source) : Option (List Block) :=
  match r.binding with
  | .carrier q first => if q = p ∧ r.removed = false then (readGroup tiles first r.cls r.tag).map (·.2) else none
  | .client _ => none

/-- The pool after the extraction for one source. -/
def deposited (p : Fin 4) (tiles : List Tile) (pool : Vector (Option Adapter) 96) (r : Source) : Vector (Option Adapter) 96 :=
  match r.adapter, extractedBlocks p tiles r with
  | some n, some blocks => pool.set n (pool[n].map (·.arrive blocks))
  | _, _ => pool

/-- The state with other sources and another pool. -/
def withOrders (sources : List Source) (pool : Vector (Option Adapter) 96) (s : State) : State :=
  { s with store := { s.store with sources := sources, pool := pool } }

theorem extracted_of_bound {first : Nat} (h : BoundAt p first r) :
    extracted p tiles r = { r with ingress := ingressOf tiles first r } := by
  unfold extracted; rw [h.1]; exact if_pos ⟨rfl, h.2⟩

theorem extractedBlocks_of_bound {first : Nat} (h : BoundAt p first r) :
    extractedBlocks p tiles r = (readGroup tiles first r.cls r.tag).map (·.2) := by
  unfold extractedBlocks; rw [h.1]; exact if_pos ⟨rfl, h.2⟩

theorem not_bound_cases (h : ∀ first, ¬ BoundAt p first r) :
    extracted p tiles r = r ∧ extractedBlocks p tiles r = none := by
  unfold extracted extractedBlocks
  cases b : r.binding with
  | client c => exact ⟨rfl, rfl⟩
  | carrier q first =>
    have other : ¬ (q = p ∧ r.removed = false) := fun ⟨port, visible⟩ => h first ⟨by rw [b, port], visible⟩
    exact ⟨if_neg other, if_neg other⟩

theorem extracted_keeps (p : Fin 4) (tiles : List Tile) (r : Source) :
    extracted p tiles r = { r with ingress := (extracted p tiles r).ingress } := by
  unfold extracted
  split
  · split <;> rfl
  · rfl

@[simp] theorem extracted_tag (p : Fin 4) (tiles : List Tile) (r : Source) : (extracted p tiles r).tag = r.tag := by
  rw [extracted_keeps]

@[simp] theorem extracted_removed (p : Fin 4) (tiles : List Tile) (r : Source) :
    (extracted p tiles r).removed = r.removed := by
  rw [extracted_keeps]

theorem deposited_none (h : extractedBlocks p tiles r = none) : deposited p tiles pool r = pool := by
  unfold deposited; rw [h]; split
  · rename_i e; cases e
  · rfl

theorem deposited_ne (h : r.adapter ≠ some n) : (deposited p tiles pool r)[n] = pool[n] := by
  unfold deposited
  split
  · rename_i m blocks adapter _
    exact SourceChoice.getElem_set_ne _ _ fun e => h (by rw [adapter, e])
  · rfl

theorem deposited_same {blocks : List Block} (adapter : r.adapter = some n) (h : extractedBlocks p tiles r = some blocks) :
    (deposited p tiles pool r)[n] = pool[n].map (·.arrive blocks) := by
  unfold deposited; rw [adapter, h]; exact Vector.getElem_set_self _

/-- What the extraction makes of a record depends on that record alone. -/
theorem deposited_congr {pool' : Vector (Option Adapter) 96} (h : pool[n] = pool'[n]) :
    (deposited p tiles pool r)[n] = (deposited p tiles pool' r)[n] := by
  by_cases adapter : r.adapter = some n
  · cases blocks : extractedBlocks p tiles r with
    | none => rwa [deposited_none blocks, deposited_none blocks]
    | some bs => rw [deposited_same adapter blocks, deposited_same adapter blocks, h]
  · rwa [deposited_ne adapter, deposited_ne adapter]

/-- An arrival at a record that is free or allocated. -/
theorem arriveAt_eq (n : Fin 96) (blocks : List Block) (s : State) :
    arriveAt n blocks s = setAdapter n (s.store.pool[n].map (·.arrive blocks)) s := by
  cases h : s.store.pool[n] with
  | some a => exact Arrival.arriveAt_allocated h blocks
  | none =>
    have same : s.store.pool.set n none = s.store.pool := by rw [← h]; exact set_same _ n
    unfold arriveAt setAdapter
    rw [h, Option.map_none, same]

/-- A source that takes its ingress status, by the extraction's own words. -/
theorem updateSource_ingress {first : Nat} (tags : (s.store.sources.map (·.tag)).Nodup) (hr : r ∈ s.store.sources)
    (bound : BoundAt p first r) {i : IngressStatus} (status : ingressOf tiles first r = i) :
    updateSource r.tag (fun e => { e with ingress := i }) s =
      withOrders (s.store.sources.map fun e => if e.tag = r.tag then extracted p tiles e else e) s.store.pool s := by
  unfold updateSource withOrders
  rw [map_tag_eq tags hr (extracted p tiles), extracted_of_bound bound, status,
    map_tag_eq tags hr fun e => { e with ingress := i }]

theorem extractFor_of_bound {first : Nat} (tags : (s.store.sources.map (·.tag)).Nodup) (hr : r ∈ s.store.sources)
    (bound : BoundAt p first r) : extractFor p tiles s r.tag =
      withOrders (s.store.sources.map fun e => if e.tag = r.tag then extracted p tiles e else e)
        (deposited p tiles s.store.pool r) s := by
  unfold extractFor deposited
  rw [visibleSource_of_mem tags hr bound.2, extractedBlocks_of_bound bound]
  dsimp only
  rw [bound.1]
  dsimp only
  rw [if_pos rfl]
  cases group : readGroup tiles first r.cls r.tag with
  | none =>
    dsimp only
    rw [updateSource_ingress tags hr bound (tiles := tiles) (by rw [ingressOf, group])]
    cases r.adapter <;> rfl
  | some g =>
    dsimp only
    rw [updateSource_ingress tags hr bound (tiles := tiles) (by rw [ingressOf, group])]
    cases r.adapter with
    | none => rfl
    | some n => dsimp only; rw [arriveAt_eq]; rfl

/-- A source that is removed or bound elsewhere is passed over. -/
theorem extractFor_of_not_bound (tags : (s.store.sources.map (·.tag)).Nodup) (hr : r ∈ s.store.sources)
    (h : ∀ first, ¬ BoundAt p first r) : extractFor p tiles s r.tag = s := by
  unfold extractFor
  cases removed : r.removed with
  | true => rw [visibleSource_of_removed tags hr removed]
  | false =>
    rw [visibleSource_of_mem tags hr removed]
    dsimp only
    split
    · rfl
    · rename_i q first binding
      exact if_neg fun port => h first ⟨by rw [binding, port], removed⟩

/-- The extraction for the tag of a source of the table writes that source and its adapter. -/
theorem extractFor_eq (tags : (s.store.sources.map (·.tag)).Nodup) (hr : r ∈ s.store.sources) :
    extractFor p tiles s r.tag = withOrders (s.store.sources.map fun e => if e.tag = r.tag then extracted p tiles e else e)
      (deposited p tiles s.store.pool r) s := by
  by_cases bound : ∃ first, BoundAt p first r
  · exact extractFor_of_bound tags hr bound.choose_spec
  · obtain ⟨source, blocks⟩ := not_bound_cases (tiles := tiles) (not_exists.mp bound)
    have unchanged : (s.store.sources.map fun e => if e.tag = r.tag then extracted p tiles e else e) = s.store.sources := by
      have := map_tag_eq tags hr (id : Source → Source)
      rw [map_tag_eq tags hr (extracted p tiles), source]
      simpa using this.symm
    rw [extractFor_of_not_bound tags hr (not_exists.mp bound), unchanged, deposited_none blocks]
    rfl

/-! ### The extraction for every source -/

theorem foldl_extractFor (p : Fin 4) (tiles : List Tile) (rs : List Source) (distinct : (rs.map (·.tag)).Nodup) (s : State)
    (tags : (s.store.sources.map (·.tag)).Nodup) (mem : ∀ r ∈ rs, r ∈ s.store.sources) :
    (rs.map (·.tag)).foldl (extractFor p tiles) s =
      withOrders (s.store.sources.map fun e => if e.tag ∈ rs.map (·.tag) then extracted p tiles e else e)
        (rs.foldl (deposited p tiles) s.store.pool) s := by
  induction rs generalizing s with
  | nil => simp [withOrders]
  | cons r rs ih =>
    obtain ⟨fresh, distinct⟩ := List.nodup_cons.mp distinct
    have hr : r ∈ s.store.sources := mem r List.mem_cons_self
    have twice : ((fun e => if e.tag ∈ rs.map (·.tag) then extracted p tiles e else e) ∘
        fun e => if e.tag = r.tag then extracted p tiles e else e) =
          fun e => if e.tag ∈ (r :: rs).map (·.tag) then extracted p tiles e else e := by
      funext e
      by_cases h : e.tag = r.tag
      · simp only [Function.comp, h, if_true, extracted_tag, fresh, if_false, List.map_cons, List.mem_cons, true_or]
      · simp only [Function.comp, h, if_false, List.map_cons, List.mem_cons, false_or]
    rw [List.map_cons, List.foldl_cons, extractFor_eq tags hr, ih distinct]
    · unfold withOrders
      dsimp only
      rw [List.map_map, twice]
      rfl
    · have same : ((fun e : Source => e.tag) ∘ fun e => if e.tag = r.tag then extracted p tiles e else e) =
          fun e => e.tag := by
        funext e; simp only [Function.comp]; split <;> simp
      change ((s.store.sources.map _).map _).Nodup
      rw [List.map_map, same]
      exact tags
    · intro e he
      have other : e.tag ≠ r.tag := fun h => fresh (List.mem_map.mpr ⟨e, he, h⟩)
      exact List.mem_map.mpr ⟨e, mem e (List.mem_cons_of_mem r he), if_neg other⟩

/-- The extraction for every source of a table with unique tags. -/
theorem extraction_eq (p : Fin 4) (tiles : List Tile) (tags : (s.store.sources.map (·.tag)).Nodup) :
    (s.store.sources.map (·.tag)).foldl (extractFor p tiles) s =
      withOrders (s.store.sources.map (extracted p tiles)) (s.store.sources.foldl (deposited p tiles) s.store.pool) s := by
  have every : (s.store.sources.map fun e => if e.tag ∈ s.store.sources.map (·.tag) then extracted p tiles e else e) =
      s.store.sources.map (extracted p tiles) :=
    List.map_congr_left fun e he => if_pos (List.mem_map_of_mem he)
  rw [foldl_extractFor p tiles _ tags s tags fun r hr => hr, every]

/-! ### The records of the pool -/

/-- A record that no source bound to the port holds is as it was. -/
theorem deposits_ne (rs : List Source) (h : ∀ r ∈ rs, r.removed = false → r.carrierPort = some p → r.adapter ≠ some n) :
    (rs.foldl (deposited p tiles) pool)[n] = pool[n] := by
  induction rs generalizing pool with
  | nil => rfl
  | cons r rs ih =>
    rw [List.foldl_cons, ih fun e he => h e (List.mem_cons_of_mem r he)]
    by_cases bound : ∃ first, BoundAt p first r
    · obtain ⟨first, binding, visible⟩ := bound
      exact deposited_ne (h r List.mem_cons_self visible (SourceQuality.carrierPort_of_carrier binding))
    · rw [deposited_none (not_bound_cases (not_exists.mp bound)).2]

/-- A record of which one source alone is the holder takes that source's blocks. -/
theorem deposits_of_mem {rs : List Source} (hr : r ∈ rs) (distinct : rs.Nodup)
    (alone : ∀ e ∈ rs, e ≠ r → e.adapter ≠ some n) : (rs.foldl (deposited p tiles) pool)[n] = (deposited p tiles pool r)[n] := by
  obtain ⟨before, behind, rfl⟩ := List.append_of_mem hr
  obtain ⟨-, distinct', apart⟩ := List.nodup_append.mp distinct
  have fresh := (List.nodup_cons.mp distinct').1
  have untouched : (before.foldl (deposited p tiles) pool)[n] = pool[n] :=
    deposits_ne before fun e he _ _ => alone e (by simp [he]) (apart e he r (by simp))
  rw [List.foldl_append, List.foldl_cons,
    deposits_ne behind fun e he _ _ => alone e (by simp [he]) fun h => fresh (by rwa [← h])]
  exact deposited_congr untouched

/-- The record of a visible source is that source's alone: it carries the tag of its order (R101). -/
theorem adapter_alone (law : OwnerLaw s) (hr : r ∈ s.store.sources) (visible : r.removed = false)
    (adapter : r.adapter = some n) (he : e ∈ s.store.sources) (other : e ≠ r) : e.adapter ≠ some n := by
  intro shared
  have visibleE : e.removed = false := by
    by_contra removed
    rw [law.hidden e he (by simpa using removed)] at shared
    cases shared
  obtain ⟨m, hm, a, ha, -, tagA, -⟩ := law.sources r hr visible
  obtain ⟨m', hm', a', ha', -, tagA', -⟩ := law.sources e he visibleE
  obtain rfl : m = n := Option.some.inj (hm.symm.trans adapter)
  obtain rfl : m' = m := Option.some.inj (hm'.symm.trans shared)
  obtain rfl : a' = a := Option.some.inj (ha'.symm.trans ha)
  exact other (List.inj_on_of_nodup_map law.sourceTags he hr (tagA'.symm.trans tagA))

/-! ### The port (R142, R143, R193) -/

theorem judgeFrame_of_good {f : CarrierFrame} (x : CarrierPort) (h : carrierCheckGood f = true) : judgeFrame f x = { x with
    farEnd := if field f.header 15 12 ≤ 8 then some (field f.header 15 12, field f.header 11 10) else x.farEnd } := by
  unfold judgeFrame identityOf
  rw [if_pos h]
  dsimp only
  split <;> rfl

theorem judgeFrame_of_bad {f : CarrierFrame} (x : CarrierPort) (h : carrierCheckGood f = false) : judgeFrame f x = { x with
    roundErrors := min 65535 (x.roundErrors + 1), errorTotal := min 65535 (x.errorTotal + 1) } := by
  unfold judgeFrame
  rw [if_neg (by rw [h]; decide)]
  rfl

/-! ### The event -/

theorem finish_eq (s t : State) : finish s t = { t with report := (finish s t).report } := by
  unfold finish noted; split <;> rfl

/-- The engine after the end of a far-end frame received in SYNC, before the comparison. -/
def frameTaken (p : Fin 4) (tiles : List Tile) (y : CarrierPort) (s : State) : State :=
  withOrders (s.store.sources.map (extracted p tiles)) (s.store.sources.foldl (deposited p tiles) s.store.pool)
    (setPort p y s)

theorem farEndFrameEnd_received (f : EndedFrame) (running : s.station.state ≠ .cold)
    (received : endsReceived f.behind s.carriers.ports[p] = true) (tags : (s.store.sources.map (·.tag)).Nodup) :
    exec (.farEndFrameEnd p f) s = .next (finish s (frameTaken p f.tiles
      (judgeFrame f.toCarrierFrame (frameOver f.behind s.carriers.ports[p])) s)) := by
  change execFarEndFrameEnd p f s = _
  unfold execFarEndFrameEnd
  rw [if_pos (by rw [Arrival.running_iff.mpr running, received]; rfl), farEndFrame]
  exact congrArg (fun u => Host.Outcome.next (finish s u)) (extraction_eq p f.tiles tags)

theorem farEndFrameEnd_not_received (f : EndedFrame) (h : endsReceived f.behind s.carriers.ports[p] = false) :
    exec (.farEndFrameEnd p f) s = .next s := by
  change execFarEndFrameEnd p f s = _
  unfold execFarEndFrameEnd
  rw [if_neg (by rw [h, Bool.and_false]; decide)]

/-- After the extraction the visible source of a tag is the extracted one. -/
theorem visibleSource_frameTaken (tags : (s.store.sources.map (·.tag)).Nodup) (hr : r ∈ s.store.sources)
    (visible : r.removed = false) (y : CarrierPort) :
    visibleSource (frameTaken p tiles y s).store r.tag = some (extracted p tiles r) := by
  have same : ((fun e : Source => e.tag) ∘ extracted p tiles) = fun e => e.tag := funext (extracted_tag p tiles)
  have tags' : ((frameTaken p tiles y s).store.sources.map (·.tag)).Nodup := by
    change ((s.store.sources.map (extracted p tiles)).map _).Nodup
    rwa [List.map_map, same]
  have found := visibleSource_of_mem (st := (frameTaken p tiles y s).store) (r := extracted p tiles r) tags'
    (List.mem_map_of_mem hr) (by rwa [extracted_removed])
  rwa [extracted_tag] at found

/-- The adapter of a visible source after the extraction. -/
theorem frameTaken_adapter (law : OwnerLaw s) (hr : r ∈ s.store.sources) (visible : r.removed = false)
    (adapter : r.adapter = some n) (y : CarrierPort) :
    (frameTaken p tiles y s).store.pool[n] = (deposited p tiles s.store.pool r)[n] :=
  deposits_of_mem hr law.sourceTags.of_map fun _ he other => adapter_alone law hr visible adapter he other

/-- The port after the frame, by its fields before it. -/
theorem judgeFrame_frameOver {f : CarrierFrame} {behind : Bool} {x ended y : CarrierPort}
    (taken : ended = if behind then { x with receivingOld := false } else { x with receiving := false })
    (good : carrierCheckGood f = true → y = { ended with
      farEnd := if field f.header 15 12 ≤ 8 then some (field f.header 15 12, field f.header 11 10) else x.farEnd })
    (bad : carrierCheckGood f = false → y = { ended with
      roundErrors := min 65535 (x.roundErrors + 1), errorTotal := min 65535 (x.errorTotal + 1) }) :
    judgeFrame f (frameOver behind x) = y := by
  have isOver : frameOver behind x = ended := taken.symm
  cases check : carrierCheckGood f with
  | true => rw [judgeFrame_of_good _ check, frameOver_farEnd, isOver, good check]
  | false => rw [judgeFrame_of_bad _ check, frameOver_roundErrors, frameOver_errorTotal, isOver, bad check]

/-- Of a source bound to the port, the ingress status and the adapter by the frame's tiles (R144). -/
theorem frameTaken_bound {first : Nat} {a : Adapter} (law : OwnerLaw s) (hr : r ∈ s.store.sources) (bound : BoundAt p first r)
    (adapter : r.adapter = some n) (ha : s.store.pool[n] = some a) (y : CarrierPort) :
    (visibleSource (frameTaken p tiles y s).store r.tag).map (·.ingress) = some (ingressOf tiles first r) ∧
      (frameTaken p tiles y s).store.pool[n] = some (match readGroup tiles first r.cls r.tag with
        | some (_, blocks) => a.arrive blocks
        | none => a) := by
  constructor
  · rw [visibleSource_frameTaken law.sourceTags hr bound.2, extracted_of_bound bound, Option.map_some]
  · have blocks := extractedBlocks_of_bound (tiles := tiles) bound
    rw [frameTaken_adapter law hr bound.2 adapter]
    cases group : readGroup tiles first r.cls r.tag with
    | none =>
      rw [group] at blocks
      rw [deposited_none blocks, ha]
    | some g =>
      rw [group] at blocks
      rw [deposited_same adapter blocks, ha]
      rfl

/-- A source of another port keeps its ingress status and its adapter. -/
theorem frameTaken_other (law : OwnerLaw s) (hr : r ∈ s.store.sources) (visible : r.removed = false)
    (other : r.carrierPort ≠ some p) (y : CarrierPort) :
    (visibleSource (frameTaken p tiles y s).store r.tag).map (·.ingress) = some r.ingress ∧
      ∀ n, r.adapter = some n → (frameTaken p tiles y s).store.pool[n] = s.store.pool[n] := by
  obtain ⟨source, blocks⟩ := not_bound_cases (p := p) (tiles := tiles) (r := r) fun first bound =>
    other (SourceQuality.carrierPort_of_carrier bound.1)
  refine ⟨?_, fun n adapter => ?_⟩
  · rw [visibleSource_frameTaken law.sourceTags hr visible, source, Option.map_some]
  · rw [frameTaken_adapter law hr visible adapter, deposited_none blocks]

/-- Settles O57: the port judges the frame, the extraction writes the sources bound to it and their adapters, and a frame
that is not received in SYNC does nothing. -/
theorem farEndFramesAreJudgedAndExtracted : Obligations.FarEndFramesAreJudgedAndExtracted := by
  unfold Obligations.FarEndFramesAreJudgedAndExtracted
  refine ⟨fun p f behind s x ended y running hx sync received law taken good bad => ?_, fun p f behind s h =>
    farEndFrameEnd_not_received ⟨f, behind⟩ ?_⟩
  · have ends : endsReceived behind s.carriers.ports[p] = true := by rw [endsReceived, ← hx, sync, received]; rfl
    have happens := farEndFrameEnd_received ⟨f, behind⟩ running ends law.sourceTags
    rw [← hx, judgeFrame_frameOver taken good bad] at happens
    have store : (finish s (frameTaken p f.tiles y s)).store = (frameTaken p f.tiles y s).store := finish_store _ _
    refine ⟨_, happens, ?_, ?_⟩
    · rw [store, finish_eq]
      rfl
    · rw [store]
      refine ⟨fun n => deposits_ne s.store.sources, fun r first n a hr visible binding adapter ha => ?_,
        fun r hr visible other => frameTaken_other law hr visible other y⟩
      obtain ⟨status, record⟩ := frameTaken_bound (tiles := f.tiles) law hr ⟨binding, visible⟩ adapter ha y
      refine ⟨fun q blocks group => ?_, fun group => ?_⟩
      · rw [status, record, ingressOf, group]; exact ⟨rfl, rfl⟩
      · rw [status, record, ingressOf, group]; exact ⟨rfl, rfl⟩
  · rw [endsReceived]
    rcases h with h | h
    · simp [h, -Fin.getElem_fin]
    · rw [h, Bool.and_false]

end Sys2Proof.FarEnd
end

section
/-! PROOFS. What the notices and evaluations of orders depend on (R59, R65, R81): the evaluation of a sink against its
candidates, the notices to the Placement Unit and to the Selector, and the exit of a lane from ALIGNED at the sinks (R40). -/

namespace Sys2Proof.Notices

open Sys2Proof.Machine Sys2Proof.Safety

variable {s t u m w : State} {l : Fin 9} {k : Sink} {cands : List Selection} {hold : Bool} {c b : Selection} {tag cls : Nat}

/-! ### Candidates (R78) -/

theorem candidateOn_lane {v : LaneView} (h : candidateOn v l tag cls = some c) : c.lane = l := by
  unfold candidateOn at h
  obtain ⟨e, -, he⟩ := List.exists_of_findSome?_eq_some h
  split at he
  · split at he
    · cases he; rfl
    · cases he
  · cases he

/-- A candidate stands on an ALIGNED lane. -/
theorem candidates_aligned (h : c ∈ candidates s tag cls) : s.lanes[c.lane].state = .aligned := by
  obtain ⟨l, -, hl⟩ := List.mem_filterMap.mp h
  split at hl
  · obtain rfl := candidateOn_lane hl; assumption
  · cases hl

/-- Each lane offers one candidate at most. -/
theorem candidates_lanes_nodup (s : State) (tag cls : Nat) : ((candidates s tag cls).map (·.lane)).Nodup := by
  rw [List.Nodup, List.pairwise_map]
  refine List.Pairwise.filterMap _ (fun l m lm c hc d hd => ?_) (List.nodup_finRange 9)
  split at hc
  · split at hd
    · rwa [candidateOn_lane hc, candidateOn_lane hd]
    · cases hd
  · cases hc

/-- Candidates and the other classes offered, seen from two states in which the ALIGNED lanes and their records agree. -/
theorem candidates_congr (states : ∀ i : Fin 9, t.lanes[i].state = s.lanes[i].state)
    (views : ∀ i : Fin 9, s.lanes[i].state = .aligned → t.view[i] = s.view[i]) (tag cls : Nat) :
    candidates t tag cls = candidates s tag cls := by
  refine List.filterMap_congr fun i _ => ?_
  rw [states i]
  split
  · rw [views i ‹_›]
  · rfl

theorem otherOfferStands_congr (states : ∀ i : Fin 9, t.lanes[i].state = s.lanes[i].state)
    (views : ∀ i : Fin 9, s.lanes[i].state = .aligned → t.view[i] = s.view[i]) (tag cls : Nat) :
    otherOfferStands t tag cls = otherOfferStands s tag cls := by
  unfold otherOfferStands
  congr 1
  funext i
  rw [states i]
  by_cases aligned : s.lanes[i].state = .aligned
  · rw [views i aligned]
  · simp [aligned, -Fin.getElem_fin]

/-! ### The evaluation of one sink (R82 to R86) -/

theorem choose_sel (h : (k.choose cands).sel = some c) : c ∈ cands := by
  unfold Sink.choose at h
  split at h
  · cases h; exact Ranking.mem_of_bestOf ‹_›
  · split at h
    · cases h
    · rename_i none; rw [h] at none; exact absurd rfl none

/-- An evaluated sink has no selection but a candidate. -/
theorem evaluate_sel (h : (k.evaluate cands hold).sel = some c) : c ∈ cands := by
  unfold Sink.evaluate at h
  split at h
  · exact choose_sel h
  · split at h
    · exact choose_sel h
    · rename_i cur found
      have mem := List.mem_of_find?_eq_some found
      unfold Sink.keep at h
      split at h
      · rename_i empty; rw [Ranking.bestOf_eq_none_iff.mp empty] at mem; cases mem
      · rename_i best first
        split at h
        · cases h; exact Ranking.mem_of_bestOf first
        · split at h <;> (cases h; exact mem)

theorem choose_keeps (k : Sink) (cands : List Selection) :
    k.choose cands = { k with
      sel := (k.choose cands).sel, wtr := (k.choose cands).wtr, switches := (k.choose cands).switches } := by
  unfold Sink.choose
  split
  · rfl
  · split <;> rfl

theorem keep_keeps (k : Sink) (cands : List Selection) (c : Selection) (hold : Bool) :
    k.keep cands c hold = { k with
      sel := (k.keep cands c hold).sel, wtr := (k.keep cands c hold).wtr, switches := (k.keep cands c hold).switches } := by
  unfold Sink.keep
  split
  · rfl
  · split
    · rfl
    · split <;> rfl

/-- An evaluation moves selection, wait-to-restore count and switch count alone. -/
theorem evaluate_keeps (k : Sink) (cands : List Selection) (hold : Bool) :
    k.evaluate cands hold = { k with
      sel := (k.evaluate cands hold).sel, wtr := (k.evaluate cands hold).wtr
      switches := (k.evaluate cands hold).switches } := by
  unfold Sink.evaluate
  split
  · exact choose_keeps k cands
  · split
    · exact choose_keeps k cands
    · exact keep_keeps k cands _ hold

theorem find?_lane (lanes : (cands.map (·.lane)).Nodup) (mem : b ∈ cands) :
    cands.find? (fun c => c.lane = b.lane) = some b := by
  cases found : cands.find? (fun c => c.lane = b.lane) with
  | none => have := List.find?_eq_none.mp found b mem; simp at this
  | some c =>
    have same : c.lane = b.lane := by simpa using List.find?_some found
    rw [List.inj_on_of_nodup_map lanes (List.mem_of_find?_eq_some found) mem same]

/-- A sink that has just chosen is left as it is by an evaluation against the same candidates. -/
theorem evaluate_choose (lanes : (cands.map (·.lane)).Nodup) (k : Sink) (hold : Bool) :
    (k.choose cands).evaluate cands hold = k.choose cands := by
  cases best : bestOf cands with
  | none =>
    have free : (k.choose cands).sel = none := by
      cases sel : (k.choose cands).sel with
      | none => rfl
      | some c =>
        have mem := choose_sel sel
        rw [Ranking.bestOf_eq_none_iff.mp best] at mem
        cases mem
    unfold Sink.evaluate
    rw [free]
    dsimp only
    rw [Sink.choose, best]
    dsimp only
    rw [free]
    rfl
  | some b =>
    have chosen : k.choose cands = k.take b := by rw [Sink.choose, best]
    have noRestore : restoreCondition k.w b b = false := by
      unfold restoreCondition
      cases b.standing <;> simp
    rw [chosen, Sink.evaluate]
    change (match cands.find? (·.lane = b.lane) with
      | none => (k.take b).choose cands
      | some cur => (k.take b).keep cands cur hold) = _
    rw [find?_lane lanes (Ranking.mem_of_bestOf best)]
    dsimp only
    rw [Sink.keep, best]
    dsimp only
    rw [if_neg (by simp)]
    split <;> rfl

/-! ### A sink judged and evaluated at an event (R79, R81) -/

/-- A sink after an event that judges its class-mismatch flag and evaluates it. -/
def judgedSink (s : State) (k : Sink) : Sink :=
  { k with mismatch := otherOfferStands s k.tag k.cls }.evaluate (candidates s k.tag k.cls) s.pins.hold

theorem evalSink_eq (s : State) (tag : Nat) : evalSink true s tag = updateSink tag (judgedSink s) s := rfl

theorem judgedSink_congr (states : ∀ i : Fin 9, t.lanes[i].state = s.lanes[i].state)
    (views : ∀ i : Fin 9, s.lanes[i].state = .aligned → t.view[i] = s.view[i]) (held : t.pins.hold = s.pins.hold) :
    judgedSink t = judgedSink s := by
  funext k
  unfold judgedSink
  rw [candidates_congr states views, otherOfferStands_congr states views, held]

theorem judgedSink_keeps (s : State) (k : Sink) : judgedSink s k = { k with
    mismatch := otherOfferStands s k.tag k.cls, sel := (judgedSink s k).sel, wtr := (judgedSink s k).wtr
    switches := (judgedSink s k).switches } := evaluate_keeps _ _ _

@[simp] theorem judgedSink_tag (s : State) (k : Sink) : (judgedSink s k).tag = k.tag := by rw [judgedSink_keeps]
@[simp] theorem judgedSink_cls (s : State) (k : Sink) : (judgedSink s k).cls = k.cls := by rw [judgedSink_keeps]
@[simp] theorem judgedSink_mismatch (s : State) (k : Sink) :
    (judgedSink s k).mismatch = otherOfferStands s k.tag k.cls := by rw [judgedSink_keeps]

/-- A judged sink is on no lane but an ALIGNED one. -/
theorem judgedSink_sel (h : (judgedSink s k).sel = some c) : s.lanes[c.lane].state = .aligned :=
  candidates_aligned (evaluate_sel h)

/-- A sink whose lane is not ALIGNED chooses, and once it has chosen a second judgement leaves it. -/
theorem judgedSink_twice (sel : k.sel = some c) (exited : s.lanes[c.lane].state ≠ .aligned) :
    judgedSink s (judgedSink s k) = judgedSink s k := by
  have gone : (candidates s k.tag k.cls).find? (·.lane = c.lane) = none := by
    rw [List.find?_eq_none]
    intro d mem same
    have aligned := candidates_aligned mem
    simp only [decide_eq_true_eq.mp same] at aligned
    exact exited aligned
  have chosen : judgedSink s k =
      ({ k with mismatch := otherOfferStands s k.tag k.cls } : Sink).choose (candidates s k.tag k.cls) := by
    unfold judgedSink Sink.evaluate
    dsimp only
    rw [sel]
    dsimp only
    rw [gone]
  have again : judgedSink s (judgedSink s k) = (judgedSink s k).evaluate (candidates s k.tag k.cls) s.pins.hold := by
    have same : { judgedSink s k with mismatch := otherOfferStands s (judgedSink s k).tag (judgedSink s k).cls } =
        judgedSink s k := by
      rw [judgedSink_tag, judgedSink_cls, ← judgedSink_mismatch]
    rw [judgedSink, same, judgedSink_tag, judgedSink_cls]
  rw [again, chosen, evaluate_choose (candidates_lanes_nodup s k.tag k.cls)]

/-! ### Rows of evaluations of sinks -/

/-- The state with other sinks. -/
def withSinks (ks : List Sink) (s : State) : State := { s with store := { s.store with sinks := ks } }

/-- Sinks of distinct tags are each judged once. -/
theorem foldl_evalSink (tags : List Nat) (distinct : tags.Nodup) (s : State) : tags.foldl (evalSink true) s =
    withSinks (s.store.sinks.map fun k => if k.tag ∈ tags then judgedSink s k else k) s := by
  induction tags generalizing s with
  | nil => simp [withSinks]
  | cons tag tags ih =>
    obtain ⟨fresh, distinct⟩ := List.nodup_cons.mp distinct
    have once : ((fun k => if k.tag ∈ tags then judgedSink s k else k) ∘
        fun k => if k.tag = tag then judgedSink s k else k) =
          fun k => if k.tag ∈ tag :: tags then judgedSink s k else k := by
      funext k
      by_cases h : k.tag = tag
      · simp only [Function.comp, h, if_true, judgedSink_tag, fresh, if_false, List.mem_cons, true_or]
      · simp only [Function.comp, h, if_false, List.mem_cons, false_or]
    have judged : judgedSink (evalSink true s tag) = judgedSink s := rfl
    rw [List.foldl_cons, ih distinct, judged]
    change withSinks (((s.store.sinks.map fun k => if k.tag = tag then judgedSink s k else k)).map _) _ = _
    rw [List.map_map, once]
    rfl

/-- Sinks of a table with unique tags, taken by a property of each. -/
theorem mem_filter_tags {ks : List Sink} (tags : (ks.map (·.tag)).Nodup) (p : Sink → Bool) (hk : k ∈ ks) :
    k.tag ∈ (ks.filter p).map (·.tag) ↔ p k = true := by
  constructor
  · intro h
    obtain ⟨e, he, same⟩ := List.mem_map.mp h
    obtain ⟨mem, holds⟩ := List.mem_filter.mp he
    rwa [← List.inj_on_of_nodup_map tags mem hk same]
  · exact fun h => List.mem_map_of_mem (List.mem_filter.mpr ⟨hk, h⟩)

/-- At an exit every sink on the lane is judged and evaluated (R40, R81). -/
theorem exitSelector_eq (tags : (s.store.sinks.map (·.tag)).Nodup) (l : Fin 9) : exitSelector l s =
    withSinks (s.store.sinks.map fun k => if k.sel.any (·.lane = l) = true then judgedSink s k else k) s := by
  have distinct : ((s.store.sinks.filter fun k => k.sel.any (·.lane = l)).map (·.tag)).Nodup :=
    List.Nodup.sublist (List.filter_sublist.map _) tags
  rw [exitSelector, foldl_evalSink _ distinct]
  congr 1
  refine List.map_congr_left fun k hk => ?_
  simp only [mem_filter_tags tags _ hk]

/-- At a notice every sink whose tag is in the old or the new manifest is judged and evaluated (R59, R81). -/
theorem noticeSelector_eq (tags : (s.store.sinks.map (·.tag)).Nodup) (old new : Option Manifest) :
    noticeSelector old new s = withSinks (s.store.sinks.map fun k =>
      if k.tag ∈ manifestTags old ∨ k.tag ∈ manifestTags new then judgedSink s k else k) s := by
  rw [noticeSelector, foldl_evalSink _ (tags.filter _)]
  congr 1
  refine List.map_congr_left fun k hk => ?_
  simp only [List.mem_filter, List.mem_map_of_mem hk, true_and, Bool.or_eq_true, decide_eq_true_eq]

/-- No sink is on lane `l`. -/
def NoneOn (l : Fin 9) (s : State) : Prop := ∀ k ∈ s.store.sinks, ∀ sel, k.sel = some sel → sel.lane ≠ l

/-- Evaluations put no sink on a lane that is not ALIGNED, and take those on it whose tags are named away. -/
theorem foldl_evalSink_noneOn (exited : s.lanes[l].state ≠ .aligned) (tags : List Nat)
    (rest : ∀ k ∈ s.store.sinks, ∀ sel, k.sel = some sel → sel.lane = l → k.tag ∈ tags) :
    NoneOn l (tags.foldl (evalSink true) s) := by
  induction tags generalizing s with
  | nil => exact fun k hk sel h same => by simpa using rest k hk sel h same
  | cons tag tags ih =>
    refine ih (s := evalSink true s tag) exited fun k hk sel h same => ?_
    obtain ⟨e, he, rfl⟩ := List.mem_map.mp hk
    split at h
    · have aligned := judgedSink_sel h
      subst same
      exact absurd aligned exited
    · have := rest e he sel h same
      rw [if_neg ‹_›]
      simpa [‹e.tag ≠ tag›] using this

theorem NoneOn.foldl_evalSink (h : NoneOn l s) (exited : s.lanes[l].state ≠ .aligned) (tags : List Nat) :
    NoneOn l (tags.foldl (evalSink true) s) :=
  foldl_evalSink_noneOn exited tags fun k hk sel hsel same => absurd same (h k hk sel hsel)

theorem exitSelector_noneOn (exited : s.lanes[l].state ≠ .aligned) : NoneOn l (exitSelector l s) := by
  refine foldl_evalSink_noneOn exited _ fun k hk sel h same => ?_
  exact List.mem_map_of_mem (List.mem_filter.mpr ⟨hk, by simp [h, same]⟩)

/-! ### Evaluations of sources (R65) -/

/-- `t` has the sources, the queue and the records of the lanes of `s`, and the sinks `ks`. -/
def PlacedAlike (ks : List Sink) (s t : State) : Prop := t.store = { s.store with sinks := ks } ∧ t.view = s.view

theorem PlacedAlike.updateSource {ks : List Sink} (h : PlacedAlike ks s t) (tag : Nat) (f : Source → Source) :
    PlacedAlike ks (updateSource tag f s) (updateSource tag f t) := by
  obtain ⟨store, view⟩ := h
  unfold PlacedAlike Machine.updateSource
  rw [store, view]
  exact ⟨rfl, rfl⟩

theorem PlacedAlike.enqueue {ks : List Sink} (h : PlacedAlike ks s t) (tag : Nat) :
    PlacedAlike ks (enqueue tag s) (enqueue tag t) := by
  obtain ⟨store, view⟩ := h
  unfold PlacedAlike Machine.enqueue Machine.renumber queueInsert Machine.updateSource
  dsimp only
  rw [store]
  dsimp only
  split <;> exact ⟨rfl, view⟩

theorem PlacedAlike.dequeue {ks : List Sink} (h : PlacedAlike ks s t) (tag : Nat) :
    PlacedAlike ks (dequeue tag s) (dequeue tag t) := by
  obtain ⟨store, view⟩ := h
  unfold PlacedAlike Machine.dequeue Machine.updateSource
  dsimp only
  rw [store]
  exact ⟨rfl, view⟩

theorem PlacedAlike.evalSource {ks : List Sink} (h : PlacedAlike ks s t) (tag : Nat) :
    PlacedAlike ks (evalSource tag s) (evalSource tag t) := by
  have found : visibleSource t.store tag = visibleSource s.store tag := by rw [h.1]; rfl
  unfold Machine.evalSource
  rw [found]
  split
  · exact h
  · rename_i r _
    rw [h.2]
    have marked := h.updateSource tag fun r => { r with mismatch := otherWantStands s.view r.tag r.cls }
    dsimp only [updateSource_view]
    rw [h.2]
    split
    · exact marked.enqueue tag
    · exact marked.dequeue tag
    · exact marked.updateSource tag _
    · exact marked

theorem PlacedAlike.evalSources {ks : List Sink} (h : PlacedAlike ks s t) (tags : List Nat) :
    PlacedAlike ks (tags.foldl (fun s tag => Machine.evalSource tag s) s)
      (tags.foldl (fun s tag => Machine.evalSource tag s) t) := by
  induction tags generalizing s t with
  | nil => exact h
  | cons tag tags ih => exact ih (h.evalSource tag)

/-- The notice to the Placement Unit reads no sink and moves none. -/
theorem PlacedAlike.noticePlacement {ks : List Sink} (h : PlacedAlike ks s t) (old new : Option Manifest) :
    PlacedAlike ks (noticePlacement old new s) (noticePlacement old new t) := by
  have order : ∀ tags, evalOrder t.store tags = evalOrder s.store tags := by intro tags; rw [h.1]; rfl
  have sources : t.store.sources = s.store.sources := by rw [h.1]
  unfold Machine.noticePlacement
  dsimp only
  rw [order, sources]
  exact h.evalSources _

theorem noticePlacement_sinks (old new : Option Manifest) (s : State) :
    (noticePlacement old new s).store.sinks = s.store.sinks := by
  have alike := (show PlacedAlike s.store.sinks s s from ⟨rfl, rfl⟩).noticePlacement old new
  rw [alike.1]

theorem manifestTags_none : manifestTags none = [] := rfl

/-- A notice without manifests touches no order. -/
theorem noticePlacement_none (s : State) : noticePlacement none none s = s := by
  simp [noticePlacement, manifestTags_none, evalOrder]

theorem noticeSelector_none (s : State) : noticeSelector none none s = s := by
  simp [noticeSelector, manifestTags_none]

/-! ### A change of a lane record (R54 to R59) -/

/-- Two states in which orders, records of the lanes, states of the receivers and HOLD are the same. -/
structure SeenAlike (s t : State) : Prop where
  store : t.store = s.store
  view : t.view = s.view
  states : ∀ i : Fin 9, t.lanes[i].state = s.lanes[i].state
  hold : t.pins.hold = s.pins.hold

theorem SeenAlike.judgedSink (h : SeenAlike s t) : judgedSink t = judgedSink s :=
  judgedSink_congr h.states (fun _ _ => by rw [h.view]) h.hold

theorem SeenAlike.noticePlacement (h : SeenAlike s t) (old new : Option Manifest) :
    SeenAlike (noticePlacement old new s) (noticePlacement old new t) := by
  have alike : PlacedAlike s.store.sinks (Machine.noticePlacement old new s) (Machine.noticePlacement old new t) :=
    PlacedAlike.noticePlacement ⟨h.store, h.view⟩ old new
  have placed := noticePlacement_onlyStore old new
  refine ⟨?_, alike.2, fun i => ?_, ?_⟩
  · rw [alike.1, ← noticePlacement_sinks old new s]
  · rw [placed s, placed t]; exact h.states i
  · rw [placed s, placed t]; exact h.hold

theorem SeenAlike.evalSinks (h : SeenAlike s t) (tags : List Nat) :
    SeenAlike (tags.foldl (evalSink true) s) (tags.foldl (evalSink true) t) := by
  induction tags generalizing s t with
  | nil => exact h
  | cons tag tags ih =>
    refine ih (s := evalSink true s tag) (t := evalSink true t tag) ⟨?_, h.view, h.states, h.hold⟩
    rw [evalSink_eq, evalSink_eq, h.judgedSink, updateSink, updateSink, h.store]

theorem SeenAlike.noticeSelector (h : SeenAlike s t) (old new : Option Manifest) :
    SeenAlike (noticeSelector old new s) (noticeSelector old new t) := by
  unfold Machine.noticeSelector
  rw [h.store]
  exact h.evalSinks _

theorem SeenAlike.setView (h : SeenAlike s t) (l : Fin 9) (v : LaneView) (arrived : Bool) :
    SeenAlike (setView l v arrived s) (setView l v arrived t) := by
  have set : SeenAlike { s with view := s.view.set l v } { t with view := t.view.set l v } :=
    ⟨h.store, by dsimp only; rw [h.view], h.states, h.hold⟩
  unfold Machine.setView
  dsimp only
  rw [h.view] at set ⊢
  split
  · exact (set.noticePlacement _ _).noticeSelector _ _
  · exact set

theorem SeenAlike.trans (h : SeenAlike s t) (g : SeenAlike t u) : SeenAlike s u :=
  ⟨g.store.trans h.store, g.view.trans h.view, fun i => (g.states i).trans (h.states i), g.hold.trans h.hold⟩

theorem SeenAlike.of_onlyTiming (h : OnlyTiming s t) : SeenAlike s t := by
  unfold OnlyTiming at h
  exact ⟨by rw [h], by rw [h], fun i => by rw [h], by rw [h]⟩

theorem SeenAlike.noted (s t : State) : SeenAlike t (noted s t) :=
  ⟨noted_store s t, noted_view s t, fun i => by rw [noted_lanes], by rw [noted_pins]⟩

theorem finish_onlyOrders (s t : State) : OnlyOrders t (finish s t) := by
  unfold OnlyOrders
  rw [finish_store]
  exact FarEnd.finish_eq s t

theorem SeenAlike.finish (s t : State) : SeenAlike t (finish s t) :=
  ⟨finish_store s t, finish_view s t, fun i => by rw [finish_lanes], by rw [finish_pins]⟩

theorem setView_view (l : Fin 9) (v : LaneView) (arrived : Bool) (s : State) :
    (setView l v arrived s).view = s.view.set l v := by
  unfold setView
  dsimp only
  split
  · unfold notify
    rw [noticeSelector_onlyStore, noticePlacement_onlyStore]
  · rfl

theorem foldl_evalSink_tags (tags : List Nat) (s : State) :
    (tags.foldl (evalSink true) s).store.sinks.map (·.tag) = s.store.sinks.map (·.tag) := by
  induction tags generalizing s with
  | nil => rfl
  | cons tag tags ih => rw [List.foldl_cons, ih, evalSink_eq, updateSink_tags tag _ (judgedSink_tag s)]

theorem setView_sinkTags (l : Fin 9) (v : LaneView) (arrived : Bool) (s : State) :
    (setView l v arrived s).store.sinks.map (·.tag) = s.store.sinks.map (·.tag) := by
  unfold setView
  dsimp only
  split
  · rw [notify, noticeSelector, foldl_evalSink_tags, noticePlacement_sinks]
  · rfl

theorem NoneOn.setView (h : NoneOn l s) (exited : s.lanes[l].state ≠ .aligned) (v : LaneView) (arrived : Bool) :
    NoneOn l (setView l v arrived s) := by
  unfold Machine.setView
  dsimp only
  split
  · have lanes : ∀ old new u, (Machine.noticePlacement old new u).lanes = u.lanes := fun old new u => by
      rw [noticePlacement_onlyStore]
    refine NoneOn.foldl_evalSink ?_ (by rw [lanes]; exact exited) _
    unfold NoneOn
    rw [noticePlacement_sinks]
    exact h
  · exact h

/-! ### The exit of a lane from ALIGNED (R40, R56) -/

/-- A lane's record at its exit. -/
def exitView (v : LaneView) : LaneView := { v.clear with nextIndex := none }

theorem viewExit_eq (l : Fin 9) (s : State) : viewExit l s = setView l (exitView s.view[l]) false s := rfl

/-- The state with the record of lane `l` cleared as at its exit. -/
def clearedAt (l : Fin 9) (s : State) : State := { s with view := s.view.set l (exitView s.view[l]) }

/-- An exit clears the record and sends the notices of the manifest it held; without one there is nothing to notify. -/
theorem viewExit_eq_notify (l : Fin 9) (s : State) : viewExit l s =
    notify s.view[l].manifest none (clearedAt l s) := by
  rw [viewExit_eq]
  unfold setView
  cases old : s.view[l].manifest with
  | none =>
    rw [notify, noticePlacement_none, noticeSelector_none]
    rfl
  | some _ => rfl

/-- Placement Unit, sinks and lane record after the exit, before the comparisons. -/
def exitOrders (l : Fin 9) (s : State) : State := viewExit l (exitSelector l s)

theorem exitSelector_view (l : Fin 9) (s : State) : (exitSelector l s).view = s.view := by rw [exitSelector_onlyStore]

theorem exitOrders_view (l : Fin 9) (s : State) : (exitOrders l s).view = s.view.set l (exitView s.view[l]) := by
  rw [exitOrders, viewExit_eq, setView_view, exitSelector_view]

theorem exitOrders_noneOn (exited : s.lanes[l].state ≠ .aligned) : NoneOn l (exitOrders l s) := by
  refine NoneOn.setView (exitSelector_noneOn exited) ?_ _ false
  rw [exitSelector_onlyStore]
  exact exited

/-- The comparisons and the Timing Unit leave orders and lane record of the exit as they are. -/
theorem exitAligned_seen (l : Fin 9) (s : State) : SeenAlike (exitOrders l s) (exitAligned l s) := by
  have compared : SeenAlike (exitOrders l s) (viewExit l (event (exitSelector l) s)) := by
    rw [viewExit_eq, event, noted_view]
    exact (SeenAlike.noted s (exitSelector l s)).setView l (exitView (exitSelector l s).view[l]) false
  have viewed : SeenAlike (exitOrders l s) (event (viewExit l) (event (exitSelector l) s)) :=
    compared.trans (.noted _ _)
  exact viewed.trans ((SeenAlike.of_onlyTiming (timingExit_onlyTiming l _)).trans (.noted _ _))

theorem any_lane_iff : k.sel.any (·.lane = l) = true ↔ ∃ sel, k.sel = some sel ∧ sel.lane = l := by
  simp only [Option.any_eq_true, decide_eq_true_eq]

/-- A sink on the lane that leaves, or named by its manifest, is judged once, also when both hold. -/
theorem judged_at_exit (exited : s.lanes[l].state ≠ .aligned) (named : Nat → Prop) [DecidablePred named] :
    ((fun k => if named k.tag then judgedSink s k else k) ∘
        fun k => if k.sel.any (·.lane = l) = true then judgedSink s k else k) =
      fun k => if k.sel.any (·.lane = l) = true ∨ named k.tag then judgedSink s k else k := by
  funext k
  by_cases on : k.sel.any (·.lane = l) = true
  · obtain ⟨sel, hsel, rfl⟩ := any_lane_iff.mp on
    simp only [Function.comp, judgedSink_tag, judgedSink_twice hsel exited, ite_self, on, true_or, if_true]
  · simp only [Function.comp, if_neg on, or_iff_right on]

/-- The lane that leaves is not ALIGNED, so that the candidates do not see its record cleared. -/
theorem views_after_exit (exited : s.lanes[l].state ≠ .aligned) (v : LaneView) (i : Fin 9)
    (aligned : s.lanes[i].state = .aligned) : (s.view.set l v)[i] = s.view[i] :=
  SourceChoice.getElem_set_ne _ _ fun h => exited (by rw [← h]; exact aligned)

/-- Placement Unit and sinks after the exit, from the notice of the cleared manifest and the sinks before it. -/
theorem exitOrders_eq (tags : (s.store.sinks.map (·.tag)).Nodup) (exited : s.lanes[l].state ≠ .aligned) :
    (exitOrders l s).store = { (noticePlacement s.view[l].manifest none (clearedAt l s)).store with
      sinks := s.store.sinks.map fun k =>
        if k.sel.any (·.lane = l) = true ∨ k.tag ∈ manifestTags s.view[l].manifest then judgedSink s k else k } := by
  have before := exitSelector_eq tags l
  rw [← judged_at_exit (l := l) exited (· ∈ manifestTags s.view[l].manifest), ← List.map_map]
  generalize (s.store.sinks.map fun k => if k.sel.any (·.lane = l) = true then judgedSink s k else k) = ks at before ⊢
  have kept : ks.map (·.tag) = s.store.sinks.map (·.tag) := by
    have := foldl_evalSink_tags ((s.store.sinks.filter fun k => k.sel.any (·.lane = l)).map (·.tag)) s
    rwa [← exitSelector, before] at this
  have noticed := (show PlacedAlike ks (clearedAt l s) (withSinks ks (clearedAt l s)) from ⟨rfl, rfl⟩).noticePlacement
    s.view[l].manifest none
  have only := noticePlacement_onlyStore s.view[l].manifest none (withSinks ks (clearedAt l s))
  rw [exitOrders, before, viewExit_eq_notify]
  change (noticeSelector s.view[l].manifest none
    (noticePlacement s.view[l].manifest none (withSinks ks (clearedAt l s)))).store = _
  generalize noticePlacement s.view[l].manifest none (withSinks ks (clearedAt l s)) = placed at noticed only ⊢
  have sinks : placed.store.sinks = ks := by rw [noticed.1]
  have judged : judgedSink placed = judgedSink s := by
    unfold OnlyStore at only
    rw [only]
    exact judgedSink_congr (fun _ => rfl) (views_after_exit exited _) rfl
  rw [noticeSelector_eq (by rw [sinks, kept]; exact tags), sinks, judged, withSinks, noticed.1]
  simp only [manifestTags_none, List.not_mem_nil, or_false]

/-- The exit as the statements put it. -/
theorem exitOrders_store (tags : (s.store.sinks.map (·.tag)).Nodup) (exited : s.lanes[l].state ≠ .aligned)
    (store : m.store = s.store) (view : m.view[l].manifest = s.view[l].manifest) (held : m.pins.hold = s.pins.hold)
    (lanes : u.lanes = s.lanes) (cleared : u.view = s.view.set l (exitView s.view[l])) :
    (exitOrders l s).store = exitStore l m u := by
  have judged : ∀ k : Sink, ({ k with mismatch := otherOfferStands u k.tag k.cls } : Sink).evaluate
      (candidates u k.tag k.cls) m.pins.hold = judgedSink s k := by
    have states : ∀ i : Fin 9, u.lanes[i].state = s.lanes[i].state := fun i => by rw [lanes]
    have views : ∀ i : Fin 9, s.lanes[i].state = .aligned → u.view[i] = s.view[i] := fun i aligned => by
      rw [cleared]; exact views_after_exit exited _ i aligned
    intro k
    rw [judgedSink, otherOfferStands_congr states views, candidates_congr states views, held]
  have placed : PlacedAlike s.store.sinks (clearedAt l s) { m with lanes := u.lanes, view := u.view } := ⟨store, cleared⟩
  have noticed := placed.noticePlacement s.view[l].manifest none
  rw [exitOrders_eq tags exited]
  unfold exitStore
  simp only [judged]
  rw [view, noticed.1, store]

/-! ### What the steps of a lane's event leave as it was -/

/-- `t` is `s` but for what a lane's event at a receiver's neighbours can move. -/
def OnlyLink (s t : State) : Prop := t = { s with
  view := t.view, timing := t.timing, store := t.store, carriers := t.carriers, report := t.report }

theorem OnlyLink.trans (h : OnlyLink s t) (k : OnlyLink t u) : OnlyLink s u := by
  unfold OnlyLink at *; rw [k, h]

theorem OnlyLink.of_orders (h : OnlyOrders s t) : OnlyLink s t := by
  unfold OnlyOrders at h; unfold OnlyLink; rw [h]

theorem OnlyLink.of_view (h : OnlyView s t) : OnlyLink s t := by
  unfold OnlyView at h; unfold OnlyLink; rw [h]

theorem OnlyLink.of_timing (h : OnlyTiming s t) : OnlyLink s t := by
  unfold OnlyTiming at h; unfold OnlyLink; rw [h]

theorem OnlyLink.event {f : State → State} (h : OnlyLink s (f s)) : OnlyLink s (event f s) :=
  h.trans (.of_orders (noted_onlyOrders s (f s)))

theorem exitAligned_onlyLink (l : Fin 9) (s : State) : OnlyLink s (exitAligned l s) := by
  have sold := (OnlyLink.of_orders (exitSelector_onlyStore l s).orders).event
  have cleared := (OnlyLink.of_view (viewExit_onlyView l (event (exitSelector l) s))).event
  have timed := (OnlyLink.of_timing (timingExit_onlyTiming l (event (viewExit l) (event (exitSelector l) s)))).event
  exact (sold.trans cleared).trans timed

theorem exitAligned_carriers (l : Fin 9) (s : State) : (exitAligned l s).carriers = s.carriers := by
  simp only [exitAligned, event, noted_carriers]
  rw [timingExit_onlyTiming]
  simp only [noted_carriers]
  rw [viewExit_onlyView]
  simp only [noted_carriers]
  rw [exitSelector_onlyStore]

end Sys2Proof.Notices
end

section
/-! PROOFS. A lane's flag judged at one event (R160 to R163): what the judgement writes in the Timing Unit, at the exit of a
lane from ALIGNED, at its entry and at a header. -/

namespace Sys2Proof.Rejudgement

open Sys2Proof.Machine Sys2Proof.Safety Sys2Proof.SourceChoice

variable {s t u w : State} {l m : Fin 9}

/-! ### What the Timing Unit reads -/

/-- Two states in which the Timing Unit, the receivers and the station are the same. -/
structure TimedAlike (s t : State) : Prop where
  timing : t.timing = s.timing
  receivers : t.lanes = s.lanes
  station : t.station = s.station

theorem TimedAlike.laneQualifies (h : TimedAlike s t) (m : Fin 9) : laneQualifies t m = laneQualifies s m :=
  laneQualifies_congr h.station h.receivers (by rw [h.timing])

theorem TimedAlike.chooseSource (h : TimedAlike s t) : chooseSource t = chooseSource s :=
  chooseSource_congr h.receivers (by rw [h.timing]) (by rw [h.timing])

theorem TimedAlike.setLaneTiming (h : TimedAlike s t) (l : Fin 9) (x : LaneTiming) :
    TimedAlike (setLaneTiming l x s) (setLaneTiming l x t) :=
  ⟨by unfold Machine.setLaneTiming; rw [h.timing], h.receivers, h.station⟩

theorem TimedAlike.reselect (h : TimedAlike s t) : TimedAlike (reselect s) (reselect t) := by
  refine ⟨?_, ?_, ?_⟩
  · unfold Machine.reselect; rw [h.chooseSource, h.timing]; dsimp only; split
    · exact h.timing
    · rfl
  · rw [reselect_receivers, reselect_receivers, h.receivers]
  · rw [reselect_station, reselect_station, h.station]

theorem TimedAlike.judgeLane (h : TimedAlike s t) (l : Fin 9) : TimedAlike (judgeLane l s) (judgeLane l t) := by
  unfold Machine.judgeLane
  rw [h.laneQualifies, h.timing]
  dsimp only
  split
  · exact h
  · exact (h.setLaneTiming l _).reselect

theorem TimedAlike.timingEntry (h : TimedAlike s t) (l : Fin 9) : TimedAlike (timingEntry l s) (timingEntry l t) := by
  unfold Machine.timingEntry; rw [h.timing]; exact h.setLaneTiming l _

theorem TimedAlike.timingExit (h : TimedAlike s t) (l : Fin 9) : TimedAlike (timingExit l s) (timingExit l t) :=
  (h.timingEntry l).judgeLane l

theorem TimedAlike.trans (h : TimedAlike s t) (k : TimedAlike t u) : TimedAlike s u :=
  ⟨k.timing.trans h.timing, k.receivers.trans h.receivers, k.station.trans h.station⟩

theorem TimedAlike.of_orders (h : OnlyOrders s t) : TimedAlike s t := by
  unfold OnlyOrders at h; exact ⟨by rw [h], by rw [h], by rw [h]⟩

theorem TimedAlike.of_view (h : OnlyView s t) : TimedAlike s t := by
  unfold OnlyView at h; exact ⟨by rw [h], by rw [h], by rw [h]⟩

theorem TimedAlike.noted (s t : State) : TimedAlike t (noted s t) := .of_orders (noted_onlyOrders s t)

theorem TimedAlike.finish (s t : State) : TimedAlike t (finish s t) :=
  ⟨finish_timing s t, finish_lanes s t, finish_station s t⟩

/-- The level of a followed lane (R162). -/
def followLevel (l : Fin 9) (s : State) : State :=
  if s.timing.selected = .lane l then { s with timing := { s.timing with level := heardLevel s.lanes[l] + 1 } } else s

theorem timingHeader_eq (l : Fin 9) (s : State) : timingHeader l s = followLevel l (judgeLane l s) := rfl

theorem TimedAlike.timingHeader (h : TimedAlike s t) (l : Fin 9) : TimedAlike (timingHeader l s) (timingHeader l t) := by
  have judged := h.judgeLane l
  rw [timingHeader_eq, timingHeader_eq]
  unfold followLevel
  rw [judged.timing, judged.receivers]
  split
  · exact ⟨rfl, rfl, judged.station⟩
  · exact judged

/-! ### One judgement -/

/-- From `s` to `u` lane `l` has been judged once, and its flag alone decides whether the selection was re-evaluated. -/
structure JudgedOnce (l : Fin 9) (s u : State) : Prop where
  flag : u.timing.lanes[l].qualified = laneQualifies u l
  others : ∀ m : Fin 9, m ≠ l → u.timing.lanes[m] = s.timing.lanes[m]
  kept : u.timing.lanes[l].qualified = s.timing.lanes[l].qualified → u.timing.selected = s.timing.selected
  chosen : u.timing.lanes[l].qualified ≠ s.timing.lanes[l].qualified → u.timing.selected = (chooseSource u).1
  same : u.timing.selected = s.timing.selected → Unmoved s u
  moved : u.timing.selected ≠ s.timing.selected → u.timing.selected = (chooseSource u).1 ∧ Moved s u

/-- A judgement that leaves the selected source moves nothing but the flag. -/
theorem judgeLane_unmoved (h : (judgeLane l s).timing.selected = s.timing.selected) : Unmoved s (judgeLane l s) := by
  by_cases same : laneQualifies s l = s.timing.lanes[l].qualified
  · rw [judgeLane_eq_self same]; rfl
  · rw [judgeLane_eq_reselect same] at h ⊢
    rw [reselect_selected] at h
    rw [reselect_eq_self h]
    rfl

/-- A judgement after which `l` may have another record, with the flag it had. -/
theorem judgedOnce_judgeLane {x : LaneTiming} (flag : x.qualified = s.timing.lanes[l].qualified) :
    JudgedOnce l s (judgeLane l (setLaneTiming l x s)) := by
  have at_l : (setLaneTiming l x s).timing.lanes[l] = x := Vector.getElem_set_self _
  have follows : Follows s (judgeLane l (setLaneTiming l x s)) := ((Follows.setLaneTiming (.inl rfl) l x).judgeLane l)
  have judgement : (judgeLane l (setLaneTiming l x s)).timing.lanes[l].qualified = laneQualifies (setLaneTiming l x s) l := by
    rw [judgeLane_same]; rfl
  have settled : laneQualifies (setLaneTiming l x s) l = s.timing.lanes[l].qualified →
      (judgeLane l (setLaneTiming l x s)).timing.selected = s.timing.selected := by
    intro same; rw [judgeLane_eq_self (by rw [same, at_l, flag])]; rfl
  have reviewed : laneQualifies (setLaneTiming l x s) l ≠ s.timing.lanes[l].qualified →
      (judgeLane l (setLaneTiming l x s)).timing.selected = (chooseSource (judgeLane l (setLaneTiming l x s))).1 := by
    intro other
    rw [judgeLane_eq_reselect (by rwa [at_l, flag]), chooseSource_reselect, reselect_selected]
  refine ⟨?_, fun m other => ?_, fun same => settled (by rw [← judgement, same]),
    fun other => reviewed (by rwa [← judgement]), fun same => ?_, fun other =>
    ⟨reviewed fun same => other (settled same), follows.resolve_left fun unmoved => ?_⟩⟩
  · rw [judgement, laneQualifies_judgeLane]
  · rw [judgeLane_other other]; exact getElem_set_ne _ _ other
  · have unmoved := judgeLane_unmoved (l := l) (s := setLaneTiming l x s) same
    unfold Unmoved at unmoved ⊢
    rw [unmoved]
    rfl
  · exact other (by rw [unmoved])

theorem chooseSource_setLevel (s : State) (n : Nat) :
    chooseSource { s with timing := { s.timing with level := n } } = chooseSource s := rfl

/-- A judged lane that is not ALIGNED: the level of the selected source stays with the selection. -/
theorem JudgedOnce.rejudged (h : JudgedOnce l s u) (exited : u.lanes[l].state ≠ .aligned) : Rejudged l s u := by
  refine ⟨h.flag, h.others, h.kept, h.chosen, fun same => ?_, fun other => ?_⟩
  · rw [if_neg fun both => exited both.2]
    exact h.same same
  · obtain ⟨chosen, moved⟩ := h.moved other
    rw [chooseSource_snd, ← chosen]
    exact moved

/-- A judged lane that is ALIGNED and whose header then gives the level to a station that follows it (R162). -/
theorem JudgedOnce.rejudged_followLevel (h : JudgedOnce l s u) (aligned : u.lanes[l].state = .aligned) :
    Rejudged l s (followLevel l u) := by
  by_cases follows : u.timing.selected = .lane l
  · have level : followLevel l u = { u with timing := { u.timing with level := heardLevel u.lanes[l] + 1 } } := if_pos follows
    rw [level]
    refine ⟨h.flag, h.others, h.kept, h.chosen, fun same => ?_, fun other => ?_⟩
    · dsimp only
      rw [if_pos ⟨follows, aligned⟩]
      exact congrArg (fun v : TimingUnit => { v with level := heardLevel u.lanes[l] + 1 }) (h.same same)
    · obtain ⟨chosen, moved⟩ := h.moved other
      have under : levelUnder u u.timing.selected = heardLevel u.lanes[l] + 1 := by rw [follows]; rfl
      rw [chooseSource_setLevel, chooseSource_snd, ← chosen, under]
      exact congrArg (fun v : TimingUnit => { v with level := heardLevel u.lanes[l] + 1 }) moved
  · have level : followLevel l u = u := if_neg follows
    rw [level]
    refine ⟨h.flag, h.others, h.kept, h.chosen, fun same => ?_, fun other => ?_⟩
    · rw [if_neg fun both => follows both.1]
      exact h.same same
    · obtain ⟨chosen, moved⟩ := h.moved other
      rw [chooseSource_snd, ← chosen]
      exact moved

/-! ### The three events -/

/-- The record of a lane that enters or leaves ALIGNED, before its flag is judged (R159). -/
def uncounted (s : State) (l : Fin 9) : LaneTiming :=
  { alignedRounds := 0, wholeRound := false, qualified := s.timing.lanes[l].qualified }

theorem timingEntry_eq (l : Fin 9) (s : State) : timingEntry l s = setLaneTiming l (uncounted s l) s := rfl

theorem timingEntry_onlyTiming (l : Fin 9) (s : State) : OnlyTiming s (timingEntry l s) := rfl

theorem timingExit_eq (l : Fin 9) (s : State) : timingExit l s = judgeLane l (timingEntry l s) := rfl

theorem timingEntry_lane (l : Fin 9) (s : State) : (timingEntry l s).timing.lanes[l] = uncounted s l :=
  Vector.getElem_set_self _

/-- Without aligned rounds the lane is judged not qualified. -/
theorem judged_timingEntry (l : Fin 9) (s : State) :
    judged (timingEntry l s) l = { alignedRounds := 0, wholeRound := false, qualified := false } := by
  have rounds : (timingEntry l s).timing.lanes[l].alignedRounds ≠ 2 := by rw [timingEntry_lane, uncounted]; simp
  rw [judged, laneQualifies_of_rounds rounds, timingEntry_lane, uncounted]

theorem rejudged_timingExit (exited : s.lanes[l].state ≠ .aligned) : Rejudged l s (timingExit l s) := by
  rw [timingExit_eq, timingEntry_eq]
  refine (judgedOnce_judgeLane (x := uncounted s l) rfl).rejudged ?_
  rw [judgeLane_receivers]
  exact exited

theorem rejudged_entry (aligned : s.lanes[l].state = .aligned) : Rejudged l s (timingHeader l (timingEntry l s)) := by
  rw [timingHeader_eq, timingEntry_eq]
  refine (judgedOnce_judgeLane (x := uncounted s l) rfl).rejudged_followLevel ?_
  rw [judgeLane_receivers]
  exact aligned

theorem rejudged_timingHeader (aligned : s.lanes[l].state = .aligned) : Rejudged l s (timingHeader l s) := by
  have same : setLaneTiming l s.timing.lanes[l] s = s := by
    unfold setLaneTiming
    rw [show s.timing.lanes.set l s.timing.lanes[l] = s.timing.lanes from set_same _ l]
  rw [timingHeader_eq]
  have judged := judgedOnce_judgeLane (s := s) (l := l) rfl
  rw [same] at judged
  refine judged.rejudged_followLevel ?_
  rw [judgeLane_receivers]
  exact aligned

/-- A judgement reads the Timing Unit before it, and of the state after it what the Timing Unit reads. -/
theorem rejudged_congr {s' u' : State} (h : Rejudged l s u) (before : s'.timing = s.timing) (after : TimedAlike u u') :
    Rejudged l s' u' := by
  obtain ⟨flag, others, kept, chosen, same, moved⟩ := h
  refine ⟨?_, ?_, ?_, ?_, ?_, ?_⟩ <;>
    simp only [before, after.timing, after.laneQualifies, after.chooseSource, after.receivers] <;> assumption

/-- The flag of a lane at its exit, and its counts. -/
theorem timingExit_lane (l : Fin 9) (s : State) : (timingExit l s).timing.lanes[l] =
    { alignedRounds := 0, wholeRound := false, qualified := false } := by
  rw [timingExit_eq, judgeLane_same, judged_timingEntry]

theorem followLevel_lanes (l : Fin 9) (s : State) : (followLevel l s).timing.lanes = s.timing.lanes := by
  unfold followLevel; split <;> rfl

theorem timingHeader_lane (l : Fin 9) (s : State) : (timingHeader l s).timing.lanes[l] = judged s l := by
  rw [timingHeader_eq, followLevel_lanes, judgeLane_same]

/-- The flag of a lane at its entry, and its counts. -/
theorem entry_lane (l : Fin 9) (s : State) : (timingHeader l (timingEntry l s)).timing.lanes[l] =
    { alignedRounds := 0, wholeRound := false, qualified := false } := by
  rw [timingHeader_lane, judged_timingEntry]

theorem timingHeader_level (h : (timingHeader l s).timing.selected = .lane l) :
    (timingHeader l s).timing.level = heardLevel s.lanes[l] + 1 := by
  rw [timingHeader_eq] at h ⊢
  unfold followLevel at h ⊢
  split
  · rw [← judgeLane_receivers l s]
  · rename_i other
    rw [if_neg other] at h
    exact absurd h other

/-- The comparisons, orders and lane records of an exit leave the Timing Unit its own judgement. -/
theorem exitAligned_timed (l : Fin 9) (s : State) : TimedAlike (timingExit l s) (exitAligned l s) := by
  have sold : TimedAlike s (event (exitSelector l) s) :=
    (TimedAlike.of_orders (exitSelector_onlyStore l s).orders).trans (.noted _ _)
  have cleared := sold.trans ((TimedAlike.of_view (viewExit_onlyView l (event (exitSelector l) s))).trans (.noted
    (event (exitSelector l) s) _))
  exact (cleared.timingExit l).trans (.noted _ _)

end Sys2Proof.Rejudgement
end

section
/-! PROOFS. A header of a peer lane (R33, R35, R39): what the Lane Receiver makes of it by its check, its station number and
the lane's state, and what it brings at the Peer View, the Timing Unit, the Lighting Coordinator and the sinks. -/

namespace Sys2Proof.Headers

open Sys2Proof.Machine Sys2Proof.Safety Sys2Proof.Notices Sys2Proof.Rejudgement

variable {s t u : State} {l : Fin 9} {words : List Word} {tiles : List Tile} {slots : List Slot} {h : Heard} {x y : LaneRx}
  {e : Bool}

/-! ### A good header at the Peer View (R51, R57, R58) -/

theorem header_nextIndex (v : LaneView) (h : Heard) (slots : List Slot) (e : Bool) :
    (v.header h slots e).1.nextIndex = some (nextFrag h.frag) := by
  unfold LaneView.header
  split
  · split <;> exact (fragment_nextIndex _ h slots).1
  · rfl

theorem header_listen (v : LaneView) (listen : h.joined = false) :
    (v.header h slots e).1.manifest = none ∧ (v.header h slots e).1.stale = 3 := by
  unfold LaneView.header
  rw [listen]
  exact ⟨rfl, rfl⟩

/-! ### A header passed on (R39) -/

theorem lightingHeader_carriers (l : Fin 9) (h : Heard) (s : State) : (lightingHeader l h s).carriers =
    { s.carriers with current := if h.light = 0 then s.carriers.current else s.carriers.current.set l true } := by
  unfold lightingHeader; split <;> rfl

theorem lightingHeader_onlyLink (l : Fin 9) (h : Heard) (s : State) : OnlyLink s (lightingHeader l h s) := by
  unfold lightingHeader; split <;> rfl

theorem lightingHeader_seen (l : Fin 9) (h : Heard) (s : State) : SeenAlike s (lightingHeader l h s) := by
  unfold lightingHeader; split <;> exact ⟨rfl, rfl, fun _ => rfl, rfl⟩

theorem lightingHeader_timed (l : Fin 9) (h : Heard) (s : State) : TimedAlike s (lightingHeader l h s) := by
  unfold lightingHeader; split <;> exact ⟨rfl, rfl, rfl⟩

theorem passHeader_seen (l : Fin 9) (h : Heard) (slots : List Slot) (e : Bool) (s : State) :
    SeenAlike (viewHeader l h slots e s) (passHeader l h slots e s) := by
  have viewed := SeenAlike.noted s (viewHeader l h slots e s)
  have timed := viewed.trans ((SeenAlike.of_onlyTiming (timingHeader_onlyTiming l _)).trans (.noted
    (event (viewHeader l h slots e) s) _))
  exact timed.trans (lightingHeader_seen l h _)

theorem passHeader_timed (l : Fin 9) (h : Heard) (slots : List Slot) (e : Bool) (s : State) :
    TimedAlike (timingHeader l s) (passHeader l h slots e s) := by
  have viewed : TimedAlike s (event (viewHeader l h slots e) s) :=
    (TimedAlike.of_view (viewHeader_onlyView l h slots e s)).trans (.noted _ _)
  have timed := (viewed.timingHeader l).trans (.noted (event (viewHeader l h slots e) s) _)
  exact timed.trans (lightingHeader_timed l h _)

theorem passHeader_onlyLink (l : Fin 9) (h : Heard) (slots : List Slot) (e : Bool) (s : State) :
    OnlyLink s (passHeader l h slots e s) := by
  have viewed := (OnlyLink.of_view (viewHeader_onlyView l h slots e s)).event
  have timed := (OnlyLink.of_timing (timingHeader_onlyTiming l (event (viewHeader l h slots e) s))).event
  exact (viewed.trans timed).trans (lightingHeader_onlyLink l h _)

theorem passHeader_carriers (l : Fin 9) (h : Heard) (slots : List Slot) (e : Bool) (s : State) :
    (passHeader l h slots e s).carriers =
    { s.carriers with current := if h.light = 0 then s.carriers.current else s.carriers.current.set l true } := by
  have kept : (event (timingHeader l) (event (viewHeader l h slots e) s)).carriers = s.carriers := by
    simp only [event, noted_carriers]
    rw [timingHeader_onlyTiming]
    simp only [noted_carriers]
    rw [viewHeader_onlyView]
  rw [passHeader, lightingHeader_carriers, kept]

theorem passHeader_view (l : Fin 9) (h : Heard) (slots : List Slot) (e : Bool) (s : State) :
    (passHeader l h slots e s).view = s.view.set l (s.view[l].header h slots e).1 := by
  rw [(passHeader_seen l h slots e s).view, viewHeader, setView_view]

theorem passHeader_store (l : Fin 9) (h : Heard) (slots : List Slot) (e : Bool) (s : State) :
    (passHeader l h slots e s).store =
    (setView l (s.view[l].header h slots e).1 (s.view[l].header h slots e).2 s).store :=
  (passHeader_seen l h slots e s).store

/-! ### The command -/

theorem header_received (running : s.station.state ≠ .cold) (peer : l ≠ s.station.number) :
    exec (.laneHeaderReceived l words tiles) s = .next (finish s (laneHeader l words tiles s)) := by
  change execLaneHeaderReceived l words tiles s = _
  unfold execLaneHeaderReceived
  rw [if_pos (by simp [peerLane, Arrival.running_iff.mpr running, peer])]

/-- The state after a command in which receiver `l` came to hold `y` and its neighbours did their work. -/
theorem after_setLane (only : OnlyLink (setLane l y s) t) (before : State) :
    finish before t = { s with
      lanes := (finish before t).lanes, view := (finish before t).view, timing := (finish before t).timing
      store := (finish before t).store, carriers := (finish before t).carriers, report := (finish before t).report } ∧
    (finish before t).lanes = s.lanes.set l y := by
  have whole := only.trans (.of_orders (finish_onlyOrders before t))
  unfold OnlyLink at whole
  constructor
  · rw [whole]; rfl
  · rw [whole]; rfl

/-! ### The receiver alone (R33, R35, R39) -/

/-- A bad header changes the receiver alone, and in ABSENT and LOST nothing. -/
theorem laneHeader_bad (bad : checkGood (words.take 29) = false) (hx : x = s.lanes[l]) :
    laneHeader l words tiles s = setLane l (badHeader tiles x) s := by
  rw [laneHeader, ← hx]
  exact if_neg (by rw [bad]; decide)

theorem laneHeader_aligning (good : checkGood (words.take 29) = true) (hx : x = s.lanes[l]) (state : x.state = .aligning) :
    laneHeader l words tiles s = aligningHeader l (heardOf words) (slotsOf words) tiles x s := by
  rw [laneHeader, ← hx, if_pos good, state]

theorem laneHeader_aligned (good : checkGood (words.take 29) = true) (hx : x = s.lanes[l]) (state : x.state = .aligned) :
    laneHeader l words tiles s = alignedHeader l (heardOf words) (slotsOf words) tiles x s := by
  rw [laneHeader, ← hx, if_pos good, state]

/-- In ABSENT and LOST no header is taken. -/
theorem laneHeader_unaligned (hx : x = s.lanes[l]) (state : x.state = .absent ∨ x.state = .lost) :
    laneHeader l words tiles s = s := by
  cases good : checkGood (words.take 29) with
  | true => rw [laneHeader, ← hx, if_pos good]; rcases state with state | state <;> rw [state]
  | false =>
    have kept : badHeader tiles x = x := by
      unfold badHeader; rcases state with state | state <;> rw [state]
    rw [laneHeader_bad good hx, kept, hx, setLane_same_lane]

theorem completes_eq_some {c : Int} (matched : x.matchCount = 3) (candidate : x.candidate = some c) (low : -24 ≤ c)
    (high : c ≤ 24) : completes x = some c := by
  rw [completes, candidate]
  exact if_pos ⟨matched, by simp [within, skewLimit]; omega⟩

theorem completes_eq_none (h : x.matchCount ≠ 3 ∨ ∀ c, x.candidate = some c → c < -24 ∨ 24 < c) : completes x = none := by
  unfold completes
  split
  · rfl
  · rename_i c candidate
    refine if_neg fun ⟨matched, near⟩ => ?_
    rcases h with h | h
    · exact h matched
    · have := h c candidate
      simp [within, skewLimit] at near
      omega

theorem aligningHeader_elsewhere (other : h.station ≠ l.val) : aligningHeader l h slots tiles x s =
    setLane l { x with heard := some h, misplug := true, matchCount := 0 } s := if_pos other

theorem aligningHeader_incomplete (named : h.station = l.val) (incomplete : completes x = none) :
    aligningHeader l h slots tiles x s = setLane l { x with heard := some h, misplug := false } s := by
  rw [aligningHeader, if_neg (not_not.mpr named), incomplete]

theorem aligningHeader_completes {c : Int} (named : h.station = l.val) (complete : completes x = some c) :
    aligningHeader l h slots tiles x s =
      passHeader l h slots false (timingEntry l (setLane l (enterAligned c h tiles x) s)) := by
  rw [aligningHeader, if_neg (not_not.mpr named), complete]

theorem alignedHeader_named (named : h.station = l.val) : alignedHeader l h slots tiles x s =
    passHeader l h slots (epochChanged x.heard h.epoch) (setLane l (goodHeader h tiles x) s) := by
  rw [alignedHeader, if_neg (not_not.mpr named)]

theorem alignedHeader_elsewhere (other : h.station ≠ l.val) : alignedHeader l h slots tiles x s =
    exitAligned l (setLane l (misplugged h x)
      (passHeader l h slots (epochChanged x.heard h.epoch) (setLane l (goodHeader h tiles x) s))) := by
  rw [alignedHeader, if_pos other]

/-! ### Alignment completes (R33, R159) -/

variable {r : LaneView × Bool} {c : Int}

/-- The link after a header that completes alignment. -/
def entered (l : Fin 9) (c : Int) (h : Heard) (slots : List Slot) (tiles : List Tile) (x : LaneRx) (s : State) : State :=
  passHeader l h slots false (timingEntry l (setLane l (enterAligned c h tiles x) s))

theorem entered_onlyLink : OnlyLink (setLane l (enterAligned c h tiles x) s) (entered l c h slots tiles x s) :=
  (OnlyLink.of_timing (timingEntry_onlyTiming l _)).trans (passHeader_onlyLink l h slots false _)

theorem entered_view (hr : r = s.view[l].header h slots false) :
    (entered l c h slots tiles x s).view = s.view.set l r.1 := by
  rw [entered, passHeader_view, hr]
  rfl

theorem entered_store (hr : r = s.view[l].header h slots false) (lanes : u.lanes = s.lanes.set l (enterAligned c h tiles x)) :
    (entered l c h slots tiles x s).store = (setView l r.1 r.2 { s with lanes := u.lanes }).store := by
  have alike : SeenAlike { s with lanes := u.lanes } (timingEntry l (setLane l (enterAligned c h tiles x) s)) :=
    ⟨rfl, rfl, fun i => by dsimp only; rw [lanes]; rfl, rfl⟩
  rw [entered, passHeader_store]
  have same := (alike.setView l r.1 r.2).store
  rw [hr] at same ⊢
  exact same

theorem entered_timed : TimedAlike (timingHeader l (timingEntry l (setLane l (enterAligned c h tiles x) s)))
    (entered l c h slots tiles x s) := passHeader_timed l h slots false _

theorem entered_rejudged : Rejudged l s (finish s (entered l c h slots tiles x s)) := by
  have aligned : (setLane l (enterAligned c h tiles x) s).lanes[l].state = .aligned := by rw [setLane_same]; rfl
  exact rejudged_congr (rejudged_entry aligned) rfl (entered_timed.trans (.finish s _))

/-- What a header that completes alignment brings. -/
theorem entry_outcome (hr : r = s.view[l].header h slots false) (hu : u = finish s (entered l c h slots tiles x s)) :
    u = { s with
      lanes := u.lanes, view := u.view, timing := u.timing, store := u.store, carriers := u.carriers
      report := u.report } ∧
    u.lanes = s.lanes.set l (enterAligned c h tiles x) ∧
    u.view = s.view.set l r.1 ∧ u.view[l].nextIndex = some (nextFrag h.frag) ∧
    u.store = (setView l r.1 r.2 { s with lanes := u.lanes }).store ∧
    u.timing.lanes[l] = { alignedRounds := 0, wholeRound := false, qualified := false } ∧ Rejudged l s u ∧
    u.carriers = { s.carriers with
      current := if h.light = 0 then s.carriers.current else s.carriers.current.set l true } := by
  have only : OnlyLink (setLane l (enterAligned c h tiles x) s) (entered l c h slots tiles x s) := entered_onlyLink
  obtain ⟨frame, lanes⟩ := after_setLane only s
  have view : u.view = s.view.set l r.1 := by rw [hu, finish_view, entered_view hr]
  rw [← hu] at frame lanes
  refine ⟨frame, lanes, view, ?_, ?_, ?_, hu ▸ entered_rejudged, ?_⟩
  · rw [view, hr]
    exact (congrArg LaneView.nextIndex (Vector.getElem_set_self _)).trans (header_nextIndex _ h slots false)
  · rw [← entered_store hr lanes, hu, finish_store]
  · rw [hu, finish_timing, entered_timed.timing, entry_lane]
  · rw [hu, finish_carriers, entered, passHeader_carriers]
    rfl

/-! ### A header of an ALIGNED lane (R39) -/

/-- The link after a header of an ALIGNED lane, before an exit that it may bring. -/
def informed (l : Fin 9) (h : Heard) (slots : List Slot) (e : Bool) (tiles : List Tile) (x : LaneRx) (s : State) : State :=
  passHeader l h slots e (setLane l (goodHeader h tiles x) s)

theorem informed_onlyLink : OnlyLink (setLane l (goodHeader h tiles x) s) (informed l h slots e tiles x s) :=
  passHeader_onlyLink l h slots e _

theorem informed_view (hr : r = s.view[l].header h slots e) : (informed l h slots e tiles x s).view = s.view.set l r.1 := by
  rw [informed, passHeader_view, hr]
  rfl

/-- The receiver keeps its state, so that orders see what they saw. -/
theorem seen_goodHeader (hx : x = s.lanes[l]) : SeenAlike s (setLane l (goodHeader h tiles x) s) := by
  refine ⟨rfl, rfl, fun i => ?_, rfl⟩
  by_cases same : i = l
  · subst same; rw [setLane_same, hx]; rfl
  · rw [setLane_other _ _ _ _ (Ne.symm same)]

theorem informed_store (hx : x = s.lanes[l]) (hr : r = s.view[l].header h slots e) :
    (informed l h slots e tiles x s).store = (setView l r.1 r.2 s).store := by
  have same := ((seen_goodHeader (h := h) (tiles := tiles) hx).setView l r.1 r.2).store
  rw [informed, passHeader_store]
  rw [hr] at same ⊢
  exact same

theorem informed_timed : TimedAlike (timingHeader l (setLane l (goodHeader h tiles x) s)) (informed l h slots e tiles x s) :=
  passHeader_timed l h slots e _

theorem goodHeader_aligned (state : x.state = .aligned) :
    (setLane l (goodHeader h tiles x) s).lanes[l].state = .aligned := by rw [setLane_same]; exact state

theorem informed_rejudged (state : x.state = .aligned) (after : TimedAlike (informed l h slots e tiles x s) u) :
    Rejudged l s u :=
  rejudged_congr (rejudged_timingHeader (goodHeader_aligned state)) rfl (informed_timed.trans after)

theorem informed_carriers : (informed l h slots e tiles x s).carriers =
    { s.carriers with current := if h.light = 0 then s.carriers.current else s.carriers.current.set l true } := by
  rw [informed, passHeader_carriers]
  rfl

/-- What a header that names its lane brings. -/
theorem named_outcome (hx : x = s.lanes[l]) (state : x.state = .aligned) (hr : r = s.view[l].header h slots e)
    (hu : u = finish s (informed l h slots e tiles x s)) :
    u = { s with
      lanes := u.lanes, view := u.view, timing := u.timing, store := u.store, carriers := u.carriers
      report := u.report } ∧
    u.lanes = s.lanes.set l (goodHeader h tiles x) ∧
    u.view = s.view.set l r.1 ∧ u.store = (setView l r.1 r.2 s).store ∧
    (h.joined = false → u.view[l].manifest = none ∧ u.view[l].stale = 3) ∧
    u.timing.lanes[l] = { s.timing.lanes[l] with qualified := laneQualifies u l } ∧ Rejudged l s u ∧
    (u.timing.selected = .lane l → u.timing.level = h.level + 1) ∧
    u.carriers = { s.carriers with
      current := if h.light = 0 then s.carriers.current else s.carriers.current.set l true } := by
  have only : OnlyLink (setLane l (goodHeader h tiles x) s) (informed l h slots e tiles x s) := informed_onlyLink
  have timed : TimedAlike (timingHeader l (setLane l (goodHeader h tiles x) s)) u := by
    rw [hu]; exact informed_timed.trans (.finish s _)
  obtain ⟨frame, lanes⟩ := after_setLane only s
  have view : u.view = s.view.set l r.1 := by rw [hu, finish_view, informed_view hr]
  have rejudged : Rejudged l s u := by
    rw [hu]; exact informed_rejudged state (.finish s _)
  rw [← hu] at frame lanes
  refine ⟨frame, lanes, view, ?_, fun listen => ?_, ?_, rejudged, fun follows => ?_, ?_⟩
  · rw [hu, finish_store, informed_store hx hr]
  · have record : u.view[l] = r.1 := by rw [view]; exact Vector.getElem_set_self _
    rw [record, hr]
    exact header_listen _ listen
  · have lane : u.timing.lanes[l] = { s.timing.lanes[l] with
        qualified := laneQualifies (setLane l (goodHeader h tiles x) s) l } := by
      rw [timed.timing, timingHeader_lane]; rfl
    have flag := rejudged.flag
    rw [lane] at flag
    rw [lane, ← flag]
  · rw [timed.timing] at follows ⊢
    rw [timingHeader_level follows, setLane_same]
    rfl
  · rw [hu, finish_carriers, informed_carriers]

/-! ### A header that names another station (R39, R40) -/

/-- The link after the exit that such a header brings. -/
def leaving (l : Fin 9) (h : Heard) (slots : List Slot) (e : Bool) (tiles : List Tile) (x : LaneRx) (s : State) : State :=
  setLane l (misplugged h x) (informed l h slots e tiles x s)

theorem leaving_exited : (leaving l h slots e tiles x s).lanes[l].state ≠ .aligned := by
  rw [leaving, setLane_same]
  exact RxState.noConfusion

theorem leaving_onlyLink : OnlyLink (setLane l (misplugged h x) s) (leaving l h slots e tiles x s) := by
  have only : OnlyLink (setLane l (goodHeader h tiles x) s) (informed l h slots e tiles x s) := informed_onlyLink
  unfold OnlyLink at only ⊢
  unfold leaving
  rw [only]
  simp [setLane]

theorem leaving_view (hr : r = s.view[l].header h slots e) : (leaving l h slots e tiles x s).view = s.view.set l r.1 :=
  informed_view hr

theorem leaving_lanes : (leaving l h slots e tiles x s).lanes = s.lanes.set l (misplugged h x) := by
  rw [leaving_onlyLink]; rfl

theorem leaving_store (hx : x = s.lanes[l]) (hr : r = s.view[l].header h slots e) :
    (leaving l h slots e tiles x s).store = (setView l r.1 r.2 s).store := informed_store hx hr

/-- The record that the header left is cleared in its place. -/
theorem leaving_cleared (hr : r = s.view[l].header h slots e) : (leaving l h slots e tiles x s).view.set l
    (exitView (leaving l h slots e tiles x s).view[l]) = s.view.set l (exitView r.1) := by
  have record : (s.view.set l r.1)[l] = r.1 := Vector.getElem_set_self _
  rw [leaving_view hr, record]
  exact Vector.set_set ..

theorem leaving_tags (hx : x = s.lanes[l]) (hr : r = s.view[l].header h slots e) (table : SinkTable s) :
    ((leaving l h slots e tiles x s).store.sinks.map (·.tag)).Nodup := by
  rw [leaving_store hx hr, setView_sinkTags]
  exact table.tags

/-- What a header that names another station brings. -/
theorem elsewhere_outcome (hx : x = s.lanes[l]) (state : x.state = .aligned) (hr : r = s.view[l].header h slots e)
    (hu : u = finish s (exitAligned l (leaving l h slots e tiles x s))) :
    u = { s with
      lanes := u.lanes, view := u.view, timing := u.timing, store := u.store, carriers := u.carriers
      report := u.report } ∧
    u.lanes = s.lanes.set l (misplugged h x) ∧
    u.view = s.view.set l (exitView r.1) ∧
    u.timing.lanes[l] = { alignedRounds := 0, wholeRound := false, qualified := false } ∧
    (∃ v, v = { s with lanes := s.lanes.set l (goodHeader h tiles x), timing := v.timing } ∧
      Rejudged l s v ∧ Rejudged l v u) ∧
    u.carriers = { s.carriers with
      current := if h.light = 0 then s.carriers.current else s.carriers.current.set l true } ∧
    NoneOn l u ∧ (SinkTable s → u.store = exitStore l (setView l r.1 r.2 s) u) := by
  have only : OnlyLink (setLane l (misplugged h x) s) (exitAligned l (leaving l h slots e tiles x s)) :=
    leaving_onlyLink.trans (exitAligned_onlyLink l _)
  have timed : TimedAlike (timingExit l (leaving l h slots e tiles x s)) u := by
    rw [hu]; exact (exitAligned_timed l _).trans (.finish s _)
  have store : u.store = (exitOrders l (leaving l h slots e tiles x s)).store := by
    rw [hu, finish_store, (exitAligned_seen l _).store]
  have view : u.view = s.view.set l (exitView r.1) := by
    rw [hu, finish_view, (exitAligned_seen l _).view, exitOrders_view, leaving_cleared hr]
  obtain ⟨frame, lanes⟩ := after_setLane only s
  rw [← hu] at frame lanes
  refine ⟨frame, lanes, view, ?_, ⟨{ setLane l (goodHeader h tiles x) s with
    timing := (informed l h slots e tiles x s).timing }, rfl, ?_, ?_⟩, ?_, ?_, fun table => ?_⟩
  · rw [timed.timing, timingExit_lane]
  · refine informed_rejudged (slots := slots) (e := e) (tiles := tiles) (h := h) state ⟨rfl, ?_, ?_⟩
    · rw [informed_onlyLink]
    · rw [informed_onlyLink]
  · exact rejudged_congr (rejudged_timingExit leaving_exited) rfl timed
  · rw [hu, finish_carriers, exitAligned_carriers]
    exact informed_carriers
  · unfold NoneOn
    rw [store]
    exact exitOrders_noneOn leaving_exited
  · rw [store]
    refine exitOrders_store (leaving_tags hx hr table) leaving_exited (leaving_store hx hr).symm ?_ ?_ ?_ ?_
    · rw [leaving_view hr, setView_view]
    · rw [leaving_onlyLink, setView_onlyView]; rfl
    · rw [lanes, leaving_lanes]
    · rw [view, leaving_cleared hr]

/-! ### The statement -/

/-- Settles O53: the outcomes of a header by its check, its station number and the state of the lane. -/
theorem headersAlignAndInform : Obligations.HeadersAlignAndInform := by
  unfold Obligations.HeadersAlignAndInform
  intro l words tiles s x h r running peer hx hh hr
  subst hh
  have happens := header_received (words := words) (tiles := tiles) running peer
  refine ⟨fun state => ?_, fun bad => ⟨fun state => ?_, fun state => ?_⟩, fun good state => ?_, fun good state => ?_⟩
  · rw [happens, laneHeader_unaligned hx state]
  · rw [happens, laneHeader_bad bad hx, badHeader, state]; rfl
  · rw [happens, laneHeader_bad bad hx, badHeader, state]; rfl
  · rw [laneHeader_aligning good hx state] at happens
    have heard : r = s.view[l].header (heardOf words) (slotsOf words) false := by rw [hr, state]
    refine ⟨fun other => ?_, fun named incomplete => ?_, fun c named matched candidate low high =>
      ⟨_, ?_, entry_outcome heard rfl⟩⟩
    · rw [happens, aligningHeader_elsewhere other]; rfl
    · rw [happens, aligningHeader_incomplete named (completes_eq_none incomplete)]; rfl
    · rw [happens, aligningHeader_completes named (completes_eq_some matched candidate low high)]
      rfl
  · rw [laneHeader_aligned good hx state] at happens
    have heard : r = s.view[l].header (heardOf words) (slotsOf words) (epochChanged x.heard (heardOf words).epoch) := by
      rw [hr, state]; cases x.heard <;> rfl
    refine ⟨fun named => ⟨_, ?_, named_outcome hx state heard rfl⟩,
      fun other => ⟨_, ?_, elsewhere_outcome hx state heard rfl⟩⟩
    · rw [happens, alignedHeader_named named]; rfl
    · rw [happens, alignedHeader_elsewhere other]; rfl

end Sys2Proof.Headers
end

section
/-! PROOFS. What every command is made of, for the laws that read orders, peer views and carrier ports: a property kept by each
write of the order store, of a lane record and of a carrier port, and blind to the rest of the state, is kept by every
command (`Kept.exec`) and so by every step (`Kept.step`). -/

namespace Sys2Proof.Walk

open Sys2Proof.Machine Sys2Proof.Safety

/-! ### The writes -/

/-- `t` holds the orders, peer views, carrier ports and waiting commands of `s`. -/
structure Alike (s t : State) : Prop where
  store : t.store = s.store
  view : t.view = s.view
  ports : t.carriers.ports = s.carriers.ports
  pending : t.pending = s.pending

theorem Alike.of_onlyTiming {s t : State} (h : OnlyTiming s t) : Alike s t := by
  rw [h]
  exact ⟨rfl, rfl, rfl, rfl⟩

/-- The source table rewritten record by record. -/
def mapSources (f : Source → Source) (s : State) : State :=
  { s with store := { s.store with sources := s.store.sources.map f } }

/-- The sink table rewritten record by record. -/
def mapSinks (f : Sink → Sink) (s : State) : State :=
  { s with store := { s.store with sinks := s.store.sinks.map f } }

/-- What span ends, RESTATE, extractions and the snapshot write in a source. -/
def MarksSource (f : Source → Source) : Prop := ∀ r, f r = { r with
  faultCount := (f r).faultCount, latch := (f r).latch, ingress := (f r).ingress, omitted := (f r).omitted }

/-- `k'` is the sink `k` after an evaluation, a read, a span end or a WTR step: the same order with the same adapter. -/
structure SameSink (k k' : Sink) : Prop where
  tag : k'.tag = k.tag
  cls : k'.cls = k.cls
  binding : k'.binding = k.binding
  rnom : k'.rnom = k.rnom
  span : k'.k = k.k
  adapter : k'.adapter = k.adapter

def MarksSink (f : Sink → Sink) : Prop := ∀ k, SameSink k (f k)

theorem SameSink.refl (k : Sink) : SameSink k k := ⟨rfl, rfl, rfl, rfl, rfl, rfl⟩

theorem SameSink.trans {j k l : Sink} (h : SameSink j k) (g : SameSink k l) : SameSink j l :=
  ⟨g.tag.trans h.tag, g.cls.trans h.cls, g.binding.trans h.binding, g.rnom.trans h.rnom, g.span.trans h.span,
    g.adapter.trans h.adapter⟩

theorem MarksSource.update {f : Source → Source} (h : MarksSource f) (tag : Nat) :
    MarksSource fun r => if r.tag = tag then f r else r := by
  intro r
  dsimp only
  split
  · exact h r
  · rfl

theorem MarksSink.update {f : Sink → Sink} (h : MarksSink f) (tag : Nat) :
    MarksSink fun k => if k.tag = tag then f k else k := by
  intro k
  dsimp only
  split
  · exact h k
  · exact .refl k

/-- What arrivals, departures and span ends make of an allocated record (R103 to R113). -/
inductive RecordStep : Adapter → Adapter → Prop
  | arrive (a : Adapter) (blocks : List Block) : RecordStep a (a.arrive blocks)
  | depart (a : Adapter) : RecordStep a a.depart.adapter
  | endSpan (a : Adapter) (e : EndedSpan) : a.ended = some e → RecordStep a (a.endSpan e)

/-- What the Peer View makes of a lane's record (R51 to R58). -/
inductive ViewStep : LaneView → LaneView → Prop
  | header (v : LaneView) (h : Heard) (slots : List Slot) (e : Bool) : ViewStep v (v.header h slots e).1
  | unheard (v : LaneView) : ViewStep v v.unheard
  | exit (v : LaneView) : ViewStep v { v.clear with nextIndex := none }

/-- A property that every write of the order store keeps. -/
structure StoreKept (P : State → Prop) : Prop where
  evalSource : ∀ (tag : Nat) {s : State}, P s → P (evalSource tag s)
  sources : ∀ {f : Source → Source}, MarksSource f → ∀ {s : State}, P s → P (mapSources f s)
  sinks : ∀ {f : Sink → Sink}, MarksSink f → ∀ {s : State}, P s → P (mapSinks f s)
  record : ∀ {n : Fin 96} {a a' : Adapter} {s : State}, s.store.pool[n] = some a → RecordStep a a' → P s →
    P (setAdapter n (some a') s)
  pass : ∀ {s : State}, P s → P (placementPass s)
  empty : ∀ {s : State}, P s → P { s with store := OrderStore.empty }
  admitSource : ∀ {q : SourceRequest} {b : Binding} {action : FailedAction} {standing : Standing} {s : State},
    bindingOf q.kind q.port q.first = some b → refusal .source q.tag q.cls b s.store = none → P s →
    P (admitSource q b action standing s)
  admitSink : ∀ {q : SinkRequest} {b : Binding} {s : State}, bindingOf q.kind q.port q.first = some b →
    refusal .sink q.tag q.cls b s.store = none → P s → P (admitSink q b s)
  removeSource : ∀ {r : Source} {tag : Nat} {s : State}, visibleSource s.store tag = some r → P s → P (removeSource r s)
  removeSink : ∀ {k : Sink} {tag : Nat} {s : State}, findSink s.store tag = some k → P s → P (removeSink k s)

/-- A property that every write of the peer view keeps. -/
structure ViewKept (P : State → Prop) : Prop where
  lane : ∀ {l : Fin 9} {v : LaneView} {s : State}, ViewStep s.view[l] v → P s → P { s with view := s.view.set l v }
  cold : ∀ {s : State}, P s → P { s with view := Vector.replicate 9 LaneView.cold }

/-- A property that every write of the carrier ports keeps. -/
structure PortsKept (P : State → Prop) : Prop where
  states : ∀ {c : Carriers} {s : State}, (∀ p : Fin 4, c.ports[p].state = s.carriers.ports[p].state) → P s →
    P { s with carriers := c }
  light : ∀ (p : Fin 4) {s : State}, P s → P (setPort p (lightPort s.carriers.ports[p]) s)
  darken : ∀ (p : Fin 4) {s : State}, P s → P (setPort p (darkenPort s.carriers.ports[p]) s)
  first : ∀ {s : State}, P s → P (lightingFirst s)
  claim : ∀ {s : State}, P s → P (claimWork s)
  cold : ∀ {s : State}, P s → P { s with carriers := Carriers.cold }

/-- A property that every write keeps. -/
structure Kept (P : State → Prop) : Prop where
  alike : ∀ {s t : State}, P s → Alike s t → P t
  store : StoreKept P
  view : ViewKept P
  ports : PortsKept P

/-! ### Properties that are blind to a block -/

theorem freeRecordOf_eq (n : Fin 96) (st : OrderStore) : freeRecordOf n st =
    { st with pool := (freeRecordOf n st).pool, freeStore := (freeRecordOf n st).freeStore } := by
  unfold freeRecordOf
  split <;> rfl

/-- A property that the order store is no part of. -/
theorem StoreKept.of_orders {P : State → Prop} (h : ∀ {s t : State}, t.view = s.view → t.carriers = s.carriers →
    t.pending = s.pending → P s → P t) : StoreKept P := by
  have orders : ∀ {s t : State}, OnlyOrders s t → P s → P t := fun o => h (by rw [o]) (by rw [o]) (by rw [o])
  refine ⟨fun tag s => orders (evalSource_onlyStore tag s).orders, fun _ _ => orders rfl, fun _ _ => orders rfl,
    fun _ _ => orders rfl, orders (placementPass_onlyStore _).orders, orders rfl, fun {q b action standing s} _ _ => ?_,
    fun {q b s} _ _ => ?_, fun {r _ s} _ => ?_, fun _ => h rfl rfl rfl⟩
  · have item : ∀ u : State, OnlyOrders u (createSourceItem q.tag u) := by
      intro u
      unfold createSourceItem
      split <;> rfl
    exact orders ((OnlyStore.trans (t := { s with store := _ }) rfl (evalSource_onlyStore q.tag _)).orders.trans (item _))
  · refine orders ?_
    unfold Machine.admitSink createSinkItem
    dsimp only
    split <;> rfl
  · refine orders ?_
    unfold Machine.removeSource retireOrDelete
    split <;> rfl

/-- A property that the peer view is no part of. -/
theorem ViewKept.of_view {P : State → Prop} (h : ∀ {s t : State}, t.store = s.store → t.carriers = s.carriers →
    t.pending = s.pending → P s → P t) : ViewKept P :=
  ⟨fun _ => h rfl rfl rfl, h rfl rfl rfl⟩

theorem claimWork_carriers (s : State) : claimWork s = { s with carriers := (claimWork s).carriers } := by
  unfold claimWork
  split <;> rfl

/-- A property that the carrier ports are no part of. -/
theorem PortsKept.of_ports {P : State → Prop} (h : ∀ {s t : State}, t.store = s.store → t.view = s.view →
    t.pending = s.pending → P s → P t) : PortsKept P := by
  refine ⟨fun _ => h rfl rfl rfl, fun _ => h rfl rfl rfl, fun _ => h rfl rfl rfl, h rfl rfl rfl, fun {s} => ?_, h rfl rfl rfl⟩
  exact h (by rw [claimWork_carriers]) (by rw [claimWork_carriers]) (by rw [claimWork_carriers])

end Sys2Proof.Walk
end

section
/-! PROOFS. The walk through the commands: what each shared operation keeps of a property that every write keeps, from the
evaluation of one order to the boundary of an own frame, and then every command. -/

namespace Sys2Proof.Walk

open Sys2Proof.Machine Sys2Proof.Safety

variable {P : State → Prop} {s t : State}

/-! ### Comparisons, timing and single records -/

theorem Kept.noted (K : Kept P) (h : P t) (s : State) : P (noted s t) :=
  K.alike h ⟨noted_store s t, noted_view s t, by rw [noted_carriers], noted_pending s t⟩

theorem Kept.event (K : Kept P) {f : State → State} (h : P (f s)) : P (event f s) := K.noted h s

theorem Kept.finish (K : Kept P) (h : P t) (s : State) : P (finish s t) :=
  K.alike (K.noted h s) ⟨rfl, rfl, rfl, rfl⟩

theorem Kept.onlyTiming (K : Kept P) (h : P s) (e : OnlyTiming s t) : P t := K.alike h (.of_onlyTiming e)

theorem Kept.setLane (K : Kept P) (h : P s) (l : Fin 9) (x : LaneRx) : P (setLane l x s) := K.alike h ⟨rfl, rfl, rfl, rfl⟩

theorem Kept.updateSource (K : Kept P) {f : Source → Source} (hf : MarksSource f) (h : P s) (tag : Nat) :
    P (updateSource tag f s) := K.store.sources (hf.update tag) h

theorem Kept.updateSink (K : Kept P) {f : Sink → Sink} (hf : MarksSink f) (h : P s) (tag : Nat) :
    P (updateSink tag f s) := K.store.sinks (hf.update tag) h

theorem setPort_states {p : Fin 4} {x : CarrierPort} (h : x.state = s.carriers.ports[p].state) (q : Fin 4) :
    (setPort p x s).carriers.ports[q].state = s.carriers.ports[q].state := by
  by_cases e : p = q
  · subst e
    rw [setPort_same, h]
  · rw [setPort_other p q x s e]

/-- A write of one carrier port that leaves its state. -/
theorem Kept.setPort (K : Kept P) (h : P s) {p : Fin 4} {x : CarrierPort} (e : x.state = s.carriers.ports[p].state) :
    P (setPort p x s) := K.ports.states (setPort_states e) h

/-! ### Evaluations -/

theorem marksSink_evaluate (s : State) (judge : Bool) : MarksSink fun k =>
    (if judge then { k with mismatch := otherOfferStands s k.tag k.cls } else k).evaluate
      (candidates s (if judge then { k with mismatch := otherOfferStands s k.tag k.cls } else k).tag
        (if judge then { k with mismatch := otherOfferStands s k.tag k.cls } else k).cls) s.pins.hold := by
  intro k
  cases judge
  · dsimp only
    rw [Notices.evaluate_keeps]
    exact ⟨rfl, rfl, rfl, rfl, rfl, rfl⟩
  · dsimp only
    rw [Notices.evaluate_keeps]
    exact ⟨rfl, rfl, rfl, rfl, rfl, rfl⟩

theorem Kept.evalSinks (K : Kept P) (judge : Bool) (tags : List Nat) (h : P s) : P (tags.foldl (evalSink judge) s) :=
  List.foldlRecOn _ _ h fun s h tag _ => K.updateSink (marksSink_evaluate s judge) h tag

theorem Kept.evalSources (K : Kept P) (tags : List Nat) (h : P s) : P (tags.foldl (fun s tag => evalSource tag s) s) :=
  List.foldlRecOn _ _ h fun _ h tag _ => K.store.evalSource tag h

theorem Kept.notify (K : Kept P) (old new : Option Manifest) (h : P s) : P (notify old new s) :=
  K.evalSinks true _ (K.evalSources _ h)

theorem Kept.setView (K : Kept P) {l : Fin 9} {v : LaneView} (hv : ViewStep s.view[l] v) (arrived : Bool) (h : P s) :
    P (setView l v arrived s) := by
  have set := K.view.lane hv h
  unfold Machine.setView
  dsimp only
  split
  · exact K.notify _ _ set
  · exact set

/-! ### Span ends, arrivals and departures -/

theorem Kept.health (K : Kept P) (a : Adapter) (dets : Detections) (h : P s) : P (healthOf a dets s) := by
  unfold healthOf
  split
  · exact K.updateSink (f := fun k => { k with faultCount := nextFaultCount dets k.faultCount })
      (fun _ => ⟨rfl, rfl, rfl, rfl, rfl, rfl⟩) h a.tag
  · unfold healthSource
    split
    · exact h
    · have marked := K.updateSource (f := fun r =>
        { r with faultCount := nextFaultCount dets r.faultCount, latch := r.latch || latches dets r }) (fun _ => rfl) h a.tag
      dsimp only
      split
      · exact K.store.evalSource _ marked
      · exact marked

theorem Kept.spanEndOf (K : Kept P) (n : Fin 96) (h : P s) : P (spanEndOf n s) := by
  unfold Machine.spanEndOf
  split
  · exact h
  · rename_i a ha
    split
    · exact h
    · rename_i e he
      exact K.noted (K.health a _ (K.store.record ha (.endSpan a e he) h)) s

theorem Kept.spanEndAt (K : Kept P) (n : Option (Fin 96)) (h : P s) : P (spanEndAt n s) := by
  unfold Machine.spanEndAt
  split
  · exact h
  · exact K.spanEndOf _ h

theorem Kept.arriveAt (K : Kept P) (n : Fin 96) (blocks : List Block) (h : P s) : P (arriveAt n blocks s) := by
  unfold Machine.arriveAt
  split
  · exact h
  · exact K.store.record ‹_› (.arrive _ blocks) h

theorem Kept.noteQuality (K : Kept P) (h : P s) (tag : Nat) : P (noteQuality s tag) := by
  unfold Machine.noteQuality
  split
  · exact h
  · exact K.alike h ⟨rfl, rfl, rfl, rfl⟩

theorem Kept.departSource (K : Kept P) (leaveSpans : List (Fin 96)) (acc : State × List HandOver) (tag : Nat)
    (h : P acc.1) : P (departSource leaveSpans acc tag).1 := by
  unfold Machine.departSource
  split
  · exact h
  · rename_i n _
    have ended := K.spanEndOf n h
    dsimp only
    split
    · rename_i a r ha _
      have departed := K.noteQuality (K.store.record ha (.depart a) ended) tag
      dsimp only
      split
      · exact departed
      · exact K.spanEndOf n departed
    · exact ended

theorem Kept.sourceDepartures (K : Kept P) (leaveSpans : List (Fin 96)) (h : P s) :
    P (sourceDepartures leaveSpans s).1 :=
  List.foldlRecOn (motive := fun acc : State × List HandOver => P acc.1) _ _ h
    fun acc h tag _ => K.departSource leaveSpans acc tag h

theorem Kept.departSink (K : Kept P) (leaveSpans : List (Fin 96)) (h : P s) (tag : Nat) :
    P (departSink leaveSpans s tag) := by
  unfold Machine.departSink
  split
  · exact h
  · split
    · rename_i n port _ _
      have ended := K.spanEndOf n h
      dsimp only
      split
      · exact ended
      · rename_i a ha
        have departed := fun pins => K.alike (t := { setAdapter n (some a.depart.adapter) (Machine.spanEndOf n s) with
          pins := pins }) (K.store.record ha (.depart a) ended) ⟨rfl, rfl, rfl, rfl⟩
        split
        · exact departed _
        · exact K.spanEndOf n (departed _)
    · exact h

theorem Kept.sinkDepartures (K : Kept P) (leaveSpans : List (Fin 96)) (h : P s) : P (sinkDepartures leaveSpans s) :=
  List.foldlRecOn _ _ h fun _ h tag _ => K.departSink leaveSpans h tag

/-! ### Lanes -/

theorem Kept.exitAligned (K : Kept P) (l : Fin 9) (h : P s) : P (exitAligned l s) := by
  have selector : P (Machine.event (exitSelector l) s) := K.event (K.evalSinks true _ h)
  have view : P (Machine.event (viewExit l) (Machine.event (exitSelector l) s)) :=
    K.event (K.setView (.exit _) false selector)
  exact K.event (K.onlyTiming view (timingExit_onlyTiming l _))

theorem Kept.laneMarker (K : Kept P) (l : Fin 9) (n : Nat) (h : P s) : P (laneMarker l n s) := by
  have timed : P (atTime n s) := K.alike h ⟨rfl, rfl, rfl, rfl⟩
  unfold Machine.laneMarker
  dsimp only
  split
  · exact K.setLane timed l _
  · exact K.setLane timed l _
  · exact K.setLane timed l _
  · split
    · exact K.exitAligned l (K.setLane timed l _)
    · split
      · exact K.exitAligned l (K.setLane timed l _)
      · exact K.setLane timed l _

theorem Kept.passHeader (K : Kept P) (l : Fin 9) (x : Heard) (slots : List Slot) (epochChange : Bool) (h : P s) :
    P (passHeader l x slots epochChange s) := by
  have view : P (Machine.event (viewHeader l x slots epochChange) s) := K.event (K.setView (.header _ _ _ _) _ h)
  have timed : P (Machine.event (timingHeader l) (Machine.event (viewHeader l x slots epochChange) s)) :=
    K.event (K.onlyTiming view (timingHeader_onlyTiming l _))
  unfold Machine.passHeader lightingHeader
  split
  · exact timed
  · exact K.alike timed ⟨rfl, rfl, rfl, rfl⟩

theorem Kept.laneHeader (K : Kept P) (l : Fin 9) (words : List Word) (tiles : List Tile) (h : P s) :
    P (laneHeader l words tiles s) := by
  unfold Machine.laneHeader
  dsimp only
  split
  · split
    · unfold aligningHeader
      split
      · exact K.setLane h l _
      · split
        · exact K.passHeader l _ _ _ (K.onlyTiming (K.setLane h l _) rfl)
        · exact K.setLane h l _
    · have passed := fun epochChange x =>
        K.passHeader l (heardOf words) (slotsOf words) epochChange (K.setLane h l x)
      unfold alignedHeader
      dsimp only
      split
      · exact K.exitAligned l (K.setLane (passed _ _) l _)
      · exact passed _ _
    · exact h
    · exact h
  · exact K.setLane h l _

theorem Kept.windowCheck (K : Kept P) (l : Fin 9) (h : P s) : P (windowCheck l s) := by
  unfold Machine.windowCheck
  dsimp only
  split
  · exact h
  · exact h
  · exact K.setLane h l _
  · have checked : ∀ (b : Bool) x, P (if b then Machine.setLane l x s else Machine.event (viewUnheard l) (Machine.setLane l x s)) := by
      intro b x
      split
      · exact K.setLane h l x
      · exact K.event (K.setView (.unheard _) false (K.setLane h l x))
    split
    · exact K.exitAligned l (K.setLane (checked _ _) l _)
    · exact checked _ _

theorem Kept.roundEnd (K : Kept P) (l : Fin 9) (cause : RoundEnd) (h : P s) : P (roundEnd l cause s) := by
  cases cause with
  | header words tiles => exact K.laneHeader l words tiles h
  | unheard => exact K.windowCheck l h

/-! ### Timing and carriers -/

theorem Kept.refStep (K : Kept P) (u : TimingUnit) (h : P s) : P (refStep u s) := by
  have set : P { s with timing := u } := K.onlyTiming h rfl
  unfold Machine.refStep
  dsimp only
  split
  · exact K.onlyTiming set (reselect_onlyTiming _)
  · exact set

theorem framerMarker_state (n : Nat) (x : CarrierPort) : (framerMarker n x).state = x.state := by
  unfold framerMarker
  split
  · rfl
  · split
    · rfl
    · split <;> rfl
  · split <;> rfl

theorem framerMiss_state (x : CarrierPort) : (framerMiss x).state = x.state := by
  unfold framerMiss
  split
  · rfl
  · rfl
  · split <;> rfl

theorem marksSource_dropOne (p : Fin 4) : MarksSource (dropOne p) := by
  intro r
  unfold dropOne
  split <;> rfl

theorem Kept.windowMissed (K : Kept P) (p : Fin 4) (h : P s) : P (windowMissed p s) := by
  have set := K.setPort h (framerMiss_state s.carriers.ports[p])
  unfold Machine.windowMissed
  dsimp only
  split
  · exact K.store.sources (marksSource_dropOne p) set
  · exact set

theorem Kept.extractFor (K : Kept P) (p : Fin 4) (tiles : List Tile) (h : P s) (tag : Nat) :
    P (extractFor p tiles s tag) := by
  have marked : ∀ i, P (Machine.updateSource tag (fun r => { r with ingress := i }) s) :=
    fun _ => K.updateSource (fun _ => rfl) h tag
  unfold Machine.extractFor
  split
  · exact h
  · split
    · exact h
    · split
      · split
        · dsimp only
          split
          · exact K.arriveAt _ _ (marked _)
          · exact marked _
        · exact marked _
      · exact h

theorem Kept.farEndFrame (K : Kept P) (p : Fin 4) (f : EndedFrame) (h : P s) : P (farEndFrame p f s) :=
  List.foldlRecOn _ _ (K.setPort h ((judgeFrame_state _ _).trans (frameOver_state _ _)))
    fun _ h tag _ => K.extractFor p f.tiles h tag

/-! ### Own frames and own rounds -/

theorem joinWork_alike (s : State) : Alike s (joinWork s) := by
  unfold joinWork
  split <;> exact ⟨rfl, rfl, rfl, rfl⟩

theorem wtrStep_keeps (k : Sink) (cands : List Selection) (hold : Bool) : SameSink k (k.wtrStep cands hold) := by
  unfold Sink.wtrStep
  split
  · exact .refl k
  · split
    · split
      · rw [Notices.choose_keeps]
        exact ⟨rfl, rfl, rfl, rfl, rfl, rfl⟩
      · exact ⟨rfl, rfl, rfl, rfl, rfl, rfl⟩
    · exact ⟨rfl, rfl, rfl, rfl, rfl, rfl⟩

theorem mapPorts_states {f : CarrierPort → CarrierPort} (hf : ∀ x, (f x).state = x.state) (c : Carriers) (p : Fin 4) :
    (mapPorts f c).ports[p].state = c.ports[p].state := by
  simp [mapPorts, hf]

theorem marksSource_omitted : MarksSource fun r => if r.state = .retiring then { r with omitted := true } else r := by
  intro r
  dsimp only
  split <;> rfl

theorem Kept.roundWork (K : Kept P) (k : RoundWork) (h : P s) : P (roundWork k s) := by
  cases k with
  | pass => exact K.store.pass h
  | snapshot => exact K.alike (K.store.sources marksSource_omitted h) ⟨rfl, rfl, rfl, rfl⟩
  | wtr => exact K.store.sinks (fun k => wtrStep_keeps k _ _) h
  | timing => exact K.onlyTiming h (timingWork_onlyTiming s)
  | join => exact K.alike h (joinWork_alike s)
  | lighting => exact K.ports.claim (K.ports.first h)
  | claim => exact K.ports.claim h
  | degraded => exact K.ports.states (mapPorts_states (f := degradedPort) (fun _ => rfl) s.carriers) h

theorem Kept.takeDue (K : Kept P) (k : RoundWork) (h : P s) : P (takeDue k s) := by
  unfold Machine.takeDue
  split
  · exact K.event (K.roundWork k (K.alike h ⟨rfl, rfl, rfl, rfl⟩))
  · exact h

theorem Kept.takeWork (K : Kept P) (h : P s) (k : RoundWork) : P (takeWork s k) := by
  unfold Machine.takeWork
  split
  · exact K.takeDue .snapshot (K.takeDue .pass h)
  · exact K.takeDue k h

theorem Kept.takeWorks (K : Kept P) (ks : List RoundWork) (h : P s) : P (ks.foldl Machine.takeWork s) :=
  List.foldlRecOn _ _ h fun _ h k _ => K.takeWork h k

theorem Kept.roundStart (K : Kept P) (order : List RoundWork) (h : P s) : P (roundStart order s) := by
  unfold Machine.roundStart
  split
  · exact K.takeWorks _ (K.alike (K.takeWorks _ h) ⟨rfl, rfl, rfl, rfl⟩)
  · exact h

theorem Kept.beginFrame (K : Kept P) (h : P s) : P (beginFrame s) :=
  K.alike (K.ports.states (mapPorts_states (f := fun p =>
    { p with expected := rebase s.tx.frameLen p.expected }) (fun _ => rfl) s.carriers) h) ⟨rfl, rfl, rfl, rfl⟩

theorem afterRead_keeps (read : Option (Quality × List Block)) : MarksSink (·.afterRead read) := by
  intro k
  dsimp only
  unfold Sink.afterRead
  split <;> exact ⟨rfl, rfl, rfl, rfl, rfl, rfl⟩

theorem Kept.readAndDeliver (K : Kept P) (h : P s) : P (readAndDeliver s) := by
  have delivered : ∀ reads : List (Sink × Option (Quality × List Block)), P (reads.foldl deliver s) := by
    refine fun reads => List.foldlRecOn _ _ h fun s h e _ => ?_
    unfold deliver
    dsimp only
    split
    · exact K.arriveAt _ _ (K.updateSink (afterRead_keeps _) h _)
    · exact K.updateSink (afterRead_keeps _) h _
  exact K.alike (delivered _) ⟨rfl, rfl, rfl, rfl⟩

theorem sendLane_alike (groups : List Group) (s : State) : Alike s (sendLane groups s) := by
  unfold sendLane
  dsimp only
  split <;> exact ⟨rfl, rfl, rfl, rfl⟩

theorem Kept.frameBody (K : Kept P) (groups : List Group) (h : P s) : P (frameBody groups s) := by
  have sent : P (sendLane groups s) := K.alike h (sendLane_alike groups s)
  have heard : P (loopbackFrame (sendLane groups s)) := by
    unfold loopbackFrame
    split
    · exact sent
    · exact K.setLane sent _ _
  exact K.event (K.setView (.header _ _ _ _) _ (K.event (K.readAndDeliver heard)))

theorem Kept.frameStart (K : Kept P) (leave : List RoundWork) (leaveSpans : List (Fin 96)) (h : P s) :
    P (frameStart leave leaveSpans s) := by
  have ite : ∀ {c : Prop} [Decidable c] {u v : State}, P u → P v → P (if c then u else v) := by
    intro c _ u v hu hv
    split
    · exact hu
    · exact hv
  have left : P (if s.tx.boundary then s else s.tx.due.foldl Machine.takeWork s) := ite h (K.takeWorks _ h)
  have started := fun s (h : P s) => ite (c := s.tx.frame = 15 ∧ s.tx.boundary = false)
    (K.roundStart (boundaryOrder leave) h) h
  have passed := fun s (h : P s) => ite (c := .pass ∈ leave) h (K.takeWork h .pass)
  unfold Machine.frameStart
  refine K.takeWorks _ (K.frameBody _ (K.takeWork ?_ _))
  exact K.noted (K.sourceDepartures leaveSpans (K.beginFrame (passed _ (started _ left)))) _

theorem Kept.lightingToClaim (K : Kept P) (h : P s) : P (lightingToClaim s) :=
  K.alike (K.ports.first h) ⟨rfl, rfl, rfl, rfl⟩

/-! ### Orders, ports and reads -/

theorem Kept.placeSource (K : Kept P) (q : SourceRequest) (h : P s) : P (placeSource q s).2 := by
  unfold Machine.placeSource
  split
  · split
    · exact h
    · exact K.store.admitSource ‹_› ‹_› h
  · exact h

theorem Kept.placeSink (K : Kept P) (q : SinkRequest) (h : P s) : P (placeSink q s).2 := by
  unfold Machine.placeSink
  split
  · split
    · exact h
    · exact K.store.admitSink ‹_› ‹_› h
  · exact h

theorem Kept.removeOrder (K : Kept P) (direction tag : Nat) (h : P s) : P (removeOrder direction tag s).2 := by
  unfold Machine.removeOrder
  split
  · exact h
  · have completed : P (completeSource tag s) := K.spanEndAt _ h
    dsimp only
    split
    · exact completed
    · exact K.store.removeSource ‹_› completed
  · have completed : P (completeSink tag s) := K.spanEndAt _ h
    dsimp only
    split
    · exact completed
    · exact K.store.removeSink ‹_› completed

theorem Kept.restate (K : Kept P) (tag : Nat) (h : P s) : P (restate tag s).2 := by
  unfold Machine.restate
  split
  · exact h
  · have cleared := K.updateSource (f := fun r => { r with latch := false, faultCount := 0 }) (fun _ => rfl) h tag
    dsimp only
    split
    · exact K.store.evalSource tag cleared
    · exact cleared

theorem Kept.light (K : Kept P) (port : Nat) (h : P s) : P (light port s).2 := by
  unfold Machine.light
  split
  · exact K.ports.light _ h
  · exact h

theorem Kept.darken (K : Kept P) (port : Nat) (h : P s) : P (darken port s).2 := by
  unfold Machine.darken
  split
  · exact K.alike (K.ports.darken _ h) ⟨rfl, rfl, rfl, rfl⟩
  · exact h

theorem setAttention_alike (mask enable : Nat) (s : State) : Alike s (setAttention mask enable s).2 := by
  unfold setAttention
  split <;> exact ⟨rfl, rfl, rfl, rfl⟩

theorem readOrder_alike (direction tag : Nat) (s : State) : Alike s (readOrder direction tag s) := by
  unfold readOrder
  split
  · exact ⟨rfl, rfl, rfl, rfl⟩
  · split <;> exact ⟨rfl, rfl, rfl, rfl⟩
  · split <;> exact ⟨rfl, rfl, rfl, rfl⟩

theorem readLane_alike (lane : Nat) (s : State) : Alike s (readLane lane s) := by
  unfold readLane
  split <;> exact ⟨rfl, rfl, rfl, rfl⟩

theorem readCarrier_alike (port : Nat) (s : State) : Alike s (readCarrier port s) := by
  unfold readCarrier
  split <;> exact ⟨rfl, rfl, rfl, rfl⟩

/-! ### Restarts and HOLD -/

theorem Kept.coldStart (K : Kept P) (cause : RestartCause) (h : P s) : P (coldStart cause s) :=
  K.alike (K.ports.cold (K.view.cold (K.store.empty h))) ⟨rfl, rfl, rfl, rfl⟩

theorem Kept.coldEnd (K : Kept P) (straps : Straps) (h : P s) : P (coldEnd straps s) := by
  have taken : ∀ {u : State}, P u → P (retakeSnapshots u) := fun hu => K.alike hu
    ⟨retakeSnapshots_store _, retakeSnapshots_view _, by rw [retakeSnapshots_carriers], retakeSnapshots_pending _⟩
  have strapped : P { s with station := Machine.strapped straps s.station } := K.alike h ⟨rfl, rfl, rfl, rfl⟩
  unfold Machine.coldEnd
  exact taken (K.frameBody [] (K.setLane strapped _ _))

theorem Kept.releaseHold (K : Kept P) (h : P s) : P (releaseHold s) := by
  have released : P (setHold false s) := K.alike h ⟨rfl, rfl, rfl, rfl⟩
  unfold Machine.releaseHold
  split
  · exact K.evalSinks false _ released
  · exact released

/-! ### The commands -/

/-- A command that acts under a condition, and else changes nothing. -/
theorem Kept.guarded (K : Kept P) {c : Prop} [Decidable c] (h : P s) (ht : P t) : P (if c then Machine.finish s t else s) := by
  split
  · exact K.finish ht s
  · exact h

/-- The envelope of a request keeps what its body keeps (R178 to R181). -/
theorem Kept.request (K : Kept P) {code : Byte} {len : Option Nat} {x : Transfer} {body : List Byte → State → State}
    (h : P s) (hb : ∀ ps s, P s → P (body ps s)) : P (request code len x body s) := by
  have out : P (shifted x.spoiled (transferSize x) s) := K.alike h ⟨rfl, rfl, rfl, rfl⟩
  have answered : ∀ st, P (respond code.toNat st [] (shifted x.spoiled (transferSize x) s)) :=
    fun _ => K.alike h ⟨rfl, rfl, rfl, rfl⟩
  unfold Machine.request
  refine K.finish ?_ s
  split
  · exact out
  · split
    · exact answered _
    · split
      · exact answered _
      · split
        · exact hb _ _ out
        · exact answered _

/-- Every next state that an outcome answers has the property. -/
def NextHas (P : State → Prop) (o : Host.Outcome State Fault Refusal) : Prop := ∀ t, o = .next t → P t

theorem nextHas_next (h : P t) : NextHas P (.next t) := by
  rintro _ ⟨⟩
  exact h

theorem Kept.exec (K : Kept P) (i : Instr) (h : P s) : NextHas P (exec i s) := by
  cases i with
  | nop x => exact nextHas_next (K.request h fun _ _ h => K.alike h ⟨rfl, rfl, rfl, rfl⟩)
  | placeSource x => exact nextHas_next (K.request h fun _ _ h => K.alike (K.placeSource _ h) ⟨rfl, rfl, rfl, rfl⟩)
  | placeSink x => exact nextHas_next (K.request h fun _ _ h => K.alike (K.placeSink _ h) ⟨rfl, rfl, rfl, rfl⟩)
  | remove x => exact nextHas_next (K.request h fun _ _ h => K.alike (K.removeOrder _ _ h) ⟨rfl, rfl, rfl, rfl⟩)
  | restate x => exact nextHas_next (K.request h fun _ _ h => K.alike (K.restate _ h) ⟨rfl, rfl, rfl, rfl⟩)
  | light x => exact nextHas_next (K.request h fun _ _ h => K.alike (K.light _ h) ⟨rfl, rfl, rfl, rfl⟩)
  | darken x => exact nextHas_next (K.request h fun _ _ h => K.alike (K.darken _ h) ⟨rfl, rfl, rfl, rfl⟩)
  | readOrder x => exact nextHas_next (K.request h fun _ s h => K.alike h (readOrder_alike _ _ s))
  | readChanges x => exact nextHas_next (K.request h fun _ _ h => K.alike h ⟨rfl, rfl, rfl, rfl⟩)
  | readLane x => exact nextHas_next (K.request h fun _ s h => K.alike h (readLane_alike _ s))
  | readCarrier x => exact nextHas_next (K.request h fun _ s h => K.alike h (readCarrier_alike _ s))
  | readStation x => exact nextHas_next (K.request h fun _ _ h => K.alike h ⟨rfl, rfl, rfl, rfl⟩)
  | setAttention x =>
    exact nextHas_next (K.request h fun _ s h => K.alike (K.alike h (setAttention_alike _ _ s)) ⟨rfl, rfl, rfl, rfl⟩)
  | restartEngine x =>
    exact nextHas_next (K.request h fun _ _ h => K.alike (K.store.empty h) ⟨rfl, rfl, rfl, rfl⟩)
  | undefinedCommandCode code x =>
    refine nextHas_next ?_
    split
    · exact K.request h fun _ _ h => h
    · exact h
  | transferIncomplete bytes spoiled => exact nextHas_next (K.guarded h (K.alike h ⟨rfl, rfl, rfl, rfl⟩))
  | powerUp => exact nextHas_next (K.finish (K.coldStart .power h) s)
  | resetAsserted => exact nextHas_next (K.guarded h (K.coldStart .pin h))
  | coldStartEnd straps =>
    refine nextHas_next ?_
    split
    · exact h
    · exact K.finish (K.coldEnd straps h) s
  | holdAsserted => exact nextHas_next (K.finish (K.alike (t := setHold true s) h ⟨rfl, rfl, rfl, rfl⟩) s)
  | holdReleased => exact nextHas_next (K.finish (K.releaseHold h) s)
  | clientIngressBurst port blocks =>
    refine nextHas_next ?_
    split
    · split
      · exact h
      · exact K.finish (K.arriveAt _ _ h) s
    · exact h
  | ownFrameStart leave leaveSpans => exact nextHas_next (K.guarded h (K.frameStart leave leaveSpans h))
  | clientSinkDeparture leaveSpans =>
    exact nextHas_next (K.guarded h (K.sinkDepartures leaveSpans (K.alike h ⟨rfl, rfl, rfl, rfl⟩)))
  | spanEnd n => exact nextHas_next (K.guarded h (K.spanEndOf n h))
  | ownRoundStart order => exact nextHas_next (K.finish (K.roundStart order h) s)
  | releaseCountExpiry tag =>
    refine nextHas_next ?_
    split
    · exact h
    · exact K.guarded h (K.takeWork h .pass)
  | wtrExpiry tag =>
    refine nextHas_next ?_
    split
    · exact h
    · exact K.guarded h (K.takeWork h .wtr)
  | staggerExpiry port => exact nextHas_next (K.guarded h (K.lightingToClaim h))
  | claimRoundEnd port => exact nextHas_next (K.guarded h (K.lightingToClaim h))
  | join => exact nextHas_next (K.guarded h (K.takeWork h .join))
  | laneMarkerArrival lane t => exact nextHas_next (K.guarded h (K.laneMarker lane t h))
  | trackingMove lane t => exact nextHas_next (K.guarded h (K.laneMarker lane t h))
  | laneHeaderReceived lane words tiles => exact nextHas_next (K.guarded h (K.laneHeader lane words tiles h))
  | staleManifestClear lane cause => exact nextHas_next (K.guarded h (K.roundEnd lane cause h))
  | markerWindowCheck lane => exact nextHas_next (K.guarded h (K.windowCheck lane h))
  | missedMarkerLimit lane => exact nextHas_next (K.guarded h (K.windowCheck lane h))
  | carrierMarkerArrival port t =>
    exact nextHas_next (K.guarded h (K.setPort (K.alike (t := atTime t s) h ⟨rfl, rfl, rfl, rfl⟩) (framerMarker_state t _)))
  | carrierSyncEntry port t =>
    exact nextHas_next (K.guarded h (K.setPort (K.alike (t := atTime t s) h ⟨rfl, rfl, rfl, rfl⟩) (framerMarker_state t _)))
  | carrierWindowClose port => exact nextHas_next (K.guarded h (K.windowMissed port h))
  | carrierSyncLoss port => exact nextHas_next (K.guarded h (K.windowMissed port h))
  | farEndFrameEnd port frame => exact nextHas_next (K.guarded h (K.farEndFrame port frame h))
  | refPulse t => exact nextHas_next (K.guarded h (K.refStep _ (K.alike h ⟨rfl, rfl, rfl, rfl⟩)))
  | refQualified t => exact nextHas_next (K.guarded h (K.refStep _ (K.alike h ⟨rfl, rfl, rfl, rfl⟩)))
  | refWindowClose => exact nextHas_next (K.guarded h (K.refStep _ h))
  | refDisqualified => exact nextHas_next (K.guarded h (K.refStep _ h))

/-- Every step keeps a property that every write keeps, if taking a command from the queue does. -/
theorem Kept.step (K : Kept P) (taken : ∀ (s : State) (rest : List Instr), P s → P { s with pending := rest })
    (h : P s) (hstep : step s = .next t) : P t := by
  unfold Machine.step at hstep
  split at hstep
  · cases hstep
    exact h
  · exact K.exec _ (taken s _ h) t hstep

end Sys2Proof.Walk
end

section
/-! PROOFS. The laws of a single block: the waiting commands (O2), the peer views (O7) and the carrier ports (O6), each by the
walk of `Walk` over what writes the block. -/

namespace Sys2Proof.Blocks

open Sys2Proof.Machine Sys2Proof.Safety Sys2Proof.Walk

variable {s t : State}

/-! ### The waiting commands -/

theorem exec_goes (c : Instr) (s : State) : ∃ t, exec c s = .next t := by
  cases c <;> exact ⟨_, rfl⟩

/-- Every write leaves the commands that wait. -/
theorem kept_pending (rest : List Instr) : Kept fun s => s.pending = rest where
  alike h a := a.pending.trans h
  store := .of_orders fun _ _ e h => e.trans h
  view := .of_view fun _ _ e h => e.trans h
  ports := .of_ports fun _ _ e h => e.trans h

/-- Settles O2. -/
theorem everyCommandRunsAndLeavesTheQueue : Obligations.EveryCommandRunsAndLeavesTheQueue := by
  intro c s
  obtain ⟨t, ht⟩ := exec_goes c s
  exact ⟨t, ht, (kept_pending s.pending).exec c rfl t ht⟩

/-- Settles O1. -/
theorem stepTakesTheFrontCommand : Obligations.StepTakesTheFrontCommand := by
  refine ⟨fun c rest s h => ?_, fun s h => ?_⟩
  · unfold step
    rw [h]
  · unfold step
    rw [h]

/-! ### The peer views -/

theorem viewAgrees_clear (v : LaneView) : ViewAgrees v.clear := ⟨le_rfl, by simp [LaneView.clear]⟩

theorem viewAgrees_arrive (v : LaneView) (m : Manifest) : ViewAgrees (v.arrive m) :=
  ⟨by simp [LaneView.arrive], by simp [LaneView.arrive]⟩

theorem viewAgrees_congr {v u : LaneView} (stale : u.stale = v.stale) (manifest : u.manifest = v.manifest)
    (h : ViewAgrees v) : ViewAgrees u := by
  unfold ViewAgrees
  rw [stale, manifest]
  exact h

theorem viewAgrees_roundIncomplete {v : LaneView} (h : ViewAgrees v) : ViewAgrees v.roundIncomplete := by
  obtain ⟨le, agrees⟩ := h
  refine ⟨Nat.min_le_left _ _, ?_⟩
  by_cases full : min 3 (v.stale + 1) = 3
  · simp [LaneView.roundIncomplete, full]
  · have present : v.stale ≠ 3 := by omega
    simp [LaneView.roundIncomplete, full, agrees, present]

theorem viewAgrees_fragment {v : LaneView} (h : ViewAgrees v) (x : Heard) (slots : List Slot) :
    ViewAgrees (v.fragment x slots).1 := by
  have begun : ∀ c : Prop, [Decidable c] → ViewAgrees (if c then v else v.roundIncomplete) := by
    intro c _
    split
    · exact h
    · exact viewAgrees_roundIncomplete h
  have placed : ∀ (u : LaneView) a i, ViewAgrees u → ViewAgrees { u with assembly := a, nextIndex := i } :=
    fun _ _ _ => viewAgrees_congr rfl rfl
  have ended : ∀ (u : LaneView) (a : Assembly), ViewAgrees u → ViewAgrees (if x.frag = 15 then
      match a.complete with
      | some m => (u.arrive m, true)
      | none => (u.roundIncomplete, false) else (u, false)).1 := by
    intro u a hu
    split
    · split
      · exact viewAgrees_arrive u _
      · exact viewAgrees_roundIncomplete hu
    · exact hu
  refine ended _ _ (placed _ _ _ ?_)
  split
  · exact begun _
  · exact h

theorem viewAgrees_unheard {v : LaneView} (h : ViewAgrees v) : ViewAgrees v.unheard := by
  have broken : ViewAgrees { v with assembly := v.assembly.map fun a : Assembly => { a with broken := true } } :=
    viewAgrees_congr rfl rfl h
  unfold LaneView.unheard
  dsimp only
  split
  · exact broken
  · split
    · exact viewAgrees_congr rfl rfl (viewAgrees_roundIncomplete broken)
    · exact viewAgrees_congr rfl rfl broken

theorem viewAgrees_header {v : LaneView} (h : ViewAgrees v) (x : Heard) (slots : List Slot) (e : Bool) :
    ViewAgrees (v.header x slots e).1 := by
  have cleared : ∀ i, ViewAgrees { v.clear with nextIndex := i } := fun _ => viewAgrees_congr rfl rfl (viewAgrees_clear v)
  unfold LaneView.header
  split
  · split
    · exact viewAgrees_fragment (cleared _) x slots
    · exact viewAgrees_fragment h x slots
  · exact cleared _

theorem viewAgrees_step {v u : LaneView} (c : ViewStep v u) (h : ViewAgrees v) : ViewAgrees u := by
  cases c with
  | header x slots e => exact viewAgrees_header h x slots e
  | unheard => exact viewAgrees_unheard h
  | exit => exact viewAgrees_congr rfl rfl (viewAgrees_clear v)

theorem viewLaw_congr (e : t.view = s.view) (h : ViewLaw s) : ViewLaw t := by
  unfold ViewLaw
  rw [e]
  exact h

theorem kept_viewLaw : Kept ViewLaw where
  alike h a := viewLaw_congr a.view h
  store := .of_orders fun e _ _ => viewLaw_congr e
  view := {
    lane := by
      intro l v s c h i
      by_cases e : l = i
      · subst e
        exact cast (congrArg ViewAgrees (Vector.getElem_set_self _).symm) (viewAgrees_step c (h l))
      · exact cast (congrArg ViewAgrees (SourceChoice.getElem_set_ne s.view v (Ne.symm e)).symm) (h i)
    cold := by
      intro s _ l
      simp [ViewAgrees, LaneView.cold] }
  ports := .of_ports fun _ e _ => viewLaw_congr e

/-- Settles O7: each change of a lane record keeps its stale count and manifest in agreement. -/
theorem everyStepKeepsTheViewLaw : Obligations.EveryStepKeepsTheViewLaw := fun _ _ h hstep =>
  kept_viewLaw.step (fun _ _ h => h) h hstep

/-! ### The carrier ports -/

theorem active_congr {x y : CarrierPort} (h : x.state = y.state) : active x = active y := by
  unfold active
  rw [h]

theorem not_anyActive_iff (ports : Vector CarrierPort 4) :
    anyActive ports = false ↔ ∀ p : Fin 4, active ports[p] = false := by
  unfold anyActive
  rw [List.any_eq_false]
  constructor
  · intro h p
    exact Bool.eq_false_iff.2 (h _ (by simp [Vector.mem_toList_iff]))
  · intro h x hx
    obtain ⟨i, hi, rfl⟩ := Vector.getElem_of_mem (Vector.mem_toList_iff.1 hx)
    exact Bool.eq_false_iff.1 (h ⟨i, hi⟩)

/-- A port that was not active does not become so, or no port was active but it. -/
theorem lightingLaw_of_le (h : LightingLaw s) (le : ∀ p : Fin 4, active t.carriers.ports[p] = true →
    active s.carriers.ports[p] = true) : LightingLaw t :=
  fun p q hp hq => h p q (le p hp) (le q hq)

theorem lightingLaw_setPort (h : LightingLaw s) {p : Fin 4} {x : CarrierPort}
    (le : active x = true → active s.carriers.ports[p] = true) : LightingLaw (setPort p x s) := by
  refine lightingLaw_of_le h fun q hq => ?_
  by_cases e : p = q
  · subst e
    rw [setPort_same] at hq
    exact le hq
  · rwa [setPort_other p q x s e] at hq

theorem active_staggerPort {p : CarrierPort} (h : active (staggerPort p) = true) : active p = true := by
  unfold staggerPort at h
  split at h
  · rename_i state _
    simp [active, state]
  · exact h

theorem active_resolvePort {st : Station} {busy : Vector Bool 9} {p : CarrierPort}
    (h : active (resolvePort st busy p) = true) : active p = true := by
  unfold resolvePort at h
  split at h
  · rename_i state
    simp [active, state]
  · exact h

theorem lightingLaw_first (h : LightingLaw s) : LightingLaw (lightingFirst s) := by
  unfold lightingFirst
  dsimp only
  split
  · refine lightingLaw_of_le h fun p hp => ?_
    simp only [mapPorts, rotateBusy, Fin.getElem_fin, Vector.getElem_map] at hp
    exact active_staggerPort (active_resolvePort hp)
  · exact lightingLaw_of_le h fun p hp => hp

theorem lightingLaw_claim (h : LightingLaw s) : LightingLaw (claimWork s) := by
  unfold claimWork claimStep
  split
  · split
    · exact h
    · rename_i idle
      have none : ∀ p : Fin 4, active s.carriers.ports[p] = false := by
        refine (not_anyActive_iff _).1 (Bool.eq_false_iff.2 fun busy => idle ?_)
        rw [busy, Bool.true_or]
      split
      · exact h
      · rename_i p _
        have only : ∀ q : Fin 4, active (s.carriers.ports.set p { s.carriers.ports[p] with state := .claiming })[q] = true →
            q = p := by
          intro q hq
          by_contra e
          rw [SourceChoice.getElem_set_ne _ _ e, none q] at hq
          exact Bool.noConfusion hq
        exact fun q r hq hr => (only q hq).trans (only r hr).symm
  · exact h

theorem active_lightPort {p : CarrierPort} (h : active (lightPort p) = true) : active p = true := by
  unfold lightPort at h
  split at h
  · simp [active] at h
  · exact h

theorem active_darkenPort {p : CarrierPort} (h : active (darkenPort p) = true) : active p = true := by
  unfold darkenPort at h
  split at h
  · exact h
  · simp [active] at h

theorem lightingLaw_congr (e : t.carriers.ports = s.carriers.ports) (h : LightingLaw s) : LightingLaw t := by
  unfold LightingLaw
  rw [e]
  exact h

theorem kept_lightingLaw : Kept LightingLaw where
  alike h a := lightingLaw_congr a.ports h
  store := .of_orders fun _ e _ => lightingLaw_congr (by rw [e])
  view := .of_view fun _ e _ => lightingLaw_congr (by rw [e])
  ports := {
    states := fun e h => lightingLaw_of_le h fun p hp => (active_congr (e p)).symm.trans hp
    light := fun p _ h => lightingLaw_setPort h active_lightPort
    darken := fun p _ h => lightingLaw_setPort h active_darkenPort
    first := lightingLaw_first
    claim := lightingLaw_claim
    cold := fun _ p q hp => by
      have dark : active Carriers.cold.ports[p] = false := by simp [Carriers.cold, CarrierPort.cold, active]
      rw [dark] at hp
      exact Bool.noConfusion hp }

/-- Settles O6: a port becomes active only by the claim, which finds no port active, or by the end of its own claim. -/
theorem everyStepKeepsTheLightingLaw : Obligations.EveryStepKeepsTheLightingLaw := fun _ _ h hstep =>
  kept_lightingLaw.step (fun _ _ h => h) h hstep

end Sys2Proof.Blocks
end

section
/-! PROOFS. What an admission that is not refused finds in the order store (R9), what it allocates (R102), and which writes leave
orders and adapters in agreement: the relation `Tended`. -/

namespace Sys2Proof.Stores

open Sys2Proof.Machine Sys2Proof.Safety Sys2Proof.Walk

variable {s t u : State}

/-! ### What an admission finds -/

/-- The checks of R9 on a request with a defined binding, all passed. -/
structure Admissible (d : Direction) (tag cls : Nat) (b : Binding) (st : OrderStore) : Prop where
  tagged : tagOk tag = true
  classed : classOk cls = true
  aligned : b.alignedTo cls = true
  fresh : holdsTag d tag st = false
  room : recordCount d st < Config.tableSize
  positions : positionCheck d b cls st = none
  adapter : adapterCheck d b cls st = none

theorem refusal_eq_none_iff {d : Direction} {tag cls : Nat} {b : Binding} {st : OrderStore} :
    refusal d tag cls b st = none ↔ Admissible d tag cls b st := by
  unfold refusal
  constructor
  · intro h
    split at h
    · cases h
    · rename_i range
      split at h
      · cases h
      · rename_i aligned
        split at h
        · cases h
        · rename_i fresh
          split at h
          · cases h
          · rename_i room
            obtain ⟨positions, adapter⟩ := Option.or_eq_none_iff.1 h
            simp only [Bool.or_eq_true, Bool.not_eq_true', not_or, Bool.not_eq_false] at range
            simp only [Bool.not_eq_true', Bool.not_eq_false] at aligned
            exact ⟨range.1, range.2, aligned, Bool.eq_false_iff.2 fresh, Nat.not_le.1 room, positions, adapter⟩
  · rintro ⟨tagged, classed, aligned, fresh, room, positions, adapter⟩
    rw [if_neg (by simp [tagged, classed]), if_neg (by simp [aligned]), if_neg (by simp [fresh]), if_neg (Nat.not_le.2 room),
      positions, adapter]
    rfl

/-- The free adapter record of lowest number (R102). -/
theorem lowestFree_eq_some_iff {pool : Vector (Option Adapter) 96} {n : Fin 96} :
    lowestFree pool = some n ↔ pool[n] = none ∧ ∀ m : Fin 96, m < n → pool[m] ≠ none := by
  unfold lowestFree
  rw [List.find?_eq_some_iff_getElem]
  simp only [Option.isNone_iff_eq_none, List.getElem_finRange, List.length_finRange, Bool.not_eq_true', Option.isNone_eq_false_iff]
  constructor
  · rintro ⟨free, i, hi, rfl, before⟩
    exact ⟨free, fun m hm => Option.isSome_iff_ne_none.1 (before m hm)⟩
  · rintro ⟨free, before⟩
    exact ⟨free, n, n.2, rfl, fun j hj => Option.isSome_iff_ne_none.2 (before ⟨j, by omega⟩ hj)⟩

/-- The adapter that an admitted order is given (R11, R102). -/
theorem allocate_of_admissible {d : Direction} {tag cls : Nat} {b : Binding} {st : OrderStore}
    (h : Admissible d tag cls b st) (rnom k : Nat) :
    (adapterKind d b = none ∧ allocate (adapterKind d b) tag cls rnom k st = (st, none)) ∨
      ∃ kind n, adapterKind d b = some kind ∧ st.pool[n] = none ∧ (∀ m : Fin 96, m < n → st.pool[m] ≠ none) ∧
        Config.storePerClass * cls ≤ st.freeStore ∧
        allocate (adapterKind d b) tag cls rnom k st =
          ({ st with pool := st.pool.set n (some (newAdapter kind tag cls rnom k))
                     freeStore := st.freeStore - Config.storePerClass * cls }, some n) := by
  have check := h.adapter
  unfold adapterCheck at check
  split at check
  · rename_i e
    exact .inl ⟨e, by unfold allocate; rw [e]⟩
  · rename_i kind e
    split at check
    · cases check
    · rename_i found
      split at check
      · cases check
      · rename_i enough
        obtain ⟨n, hn⟩ := Option.ne_none_iff_exists'.1 (fun o : lowestFree st.pool = none => found (by rw [o]; rfl))
        obtain ⟨free, lowest⟩ := lowestFree_eq_some_iff.1 hn
        exact .inr ⟨kind, n, e, free, lowest, Nat.not_lt.1 enough, by unfold allocate; rw [e, hn]⟩

/-! ### The states in the middle of an admission and of a removal -/

/-- The order store with a source order admitted, before its evaluation (R10, R11). -/
def withSource (q : SourceRequest) (b : Binding) (action : FailedAction) (standing : Standing) (st : OrderStore) : OrderStore :=
  let a := allocate (adapterKind .source b) q.tag q.cls (clampRnom q.cls q.rnom) (clampK q.k) st
  let bound := bindPositions .source b q.cls (some q.tag) a.1
  { bound with sources := bound.sources ++ [newSource q b action standing a.2] }

/-- The order store with a sink order admitted, before its evaluation (R10, R11, R13). -/
def withSink (q : SinkRequest) (b : Binding) (st : OrderStore) : OrderStore :=
  let a := allocate (adapterKind .sink b) q.tag q.cls (clampRnom q.cls q.rnom) (clampK q.k) st
  let bound := bindPositions .sink b q.cls (some q.tag) a.1
  { bound with sinks := bound.sinks ++ [newSink q b a.2] }

/-- The order store with the positions and the adapter of an order freed (R15, R20). -/
def freedStore (d : Direction) (b : Binding) (cls : Nat) (n : Option (Fin 96)) (st : OrderStore) : OrderStore :=
  freeAdapter n (bindPositions d b cls none st)

/-! ### Tended orders -/

/-- The fields of a source order that its adapter and its binding are judged by. -/
def idOf (r : Source) : Nat × Nat × Binding × Nat × Nat × Bool × Option (Fin 96) :=
  (r.tag, r.cls, r.binding, r.rnom, r.k, r.removed, r.adapter)

/-- `t` holds the adapters, bindings and sinks of `s`. -/
structure SameAdapters (s t : State) : Prop where
  pool : t.store.pool = s.store.pool
  freeStore : t.store.freeStore = s.store.freeStore
  clientIn : t.store.clientIn = s.store.clientIn
  clientEgr : t.store.clientEgr = s.store.clientEgr
  carrierIn : t.store.carrierIn = s.store.carrierIn
  carrierEgr : t.store.carrierEgr = s.store.carrierEgr
  sinks : t.store.sinks = s.store.sinks

/-- `t` holds the adapters, bindings and sinks of `s`, and the source orders of `s` but for hidden ones. -/
structure Tended (s t : State) : Prop extends SameAdapters s t where
  sources : (t.store.sources.map idOf).Sublist (s.store.sources.map idOf)
  visible : ∀ r ∈ s.store.sources, r.removed = false → ∃ r' ∈ t.store.sources, idOf r' = idOf r

theorem SameAdapters.refl (s : State) : SameAdapters s s := ⟨rfl, rfl, rfl, rfl, rfl, rfl, rfl⟩

theorem SameAdapters.trans (h : SameAdapters s t) (g : SameAdapters t u) : SameAdapters s u :=
  ⟨g.pool.trans h.pool, g.freeStore.trans h.freeStore, g.clientIn.trans h.clientIn, g.clientEgr.trans h.clientEgr,
    g.carrierIn.trans h.carrierIn, g.carrierEgr.trans h.carrierEgr, g.sinks.trans h.sinks⟩

theorem Tended.refl (s : State) : Tended s s :=
  ⟨.refl s, List.Sublist.refl _, fun r hr _ => ⟨r, hr, rfl⟩⟩

theorem removed_of_idOf {r r' : Source} (e : idOf r' = idOf r) : r'.removed = r.removed := by
  simp only [idOf, Prod.mk.injEq] at e
  exact e.2.2.2.2.2.1

theorem tag_of_idOf {r r' : Source} (e : idOf r' = idOf r) : r'.tag = r.tag := congrArg Prod.fst e

theorem Tended.trans (h : Tended s t) (g : Tended t u) : Tended s u where
  toSameAdapters := h.toSameAdapters.trans g.toSameAdapters
  sources := g.sources.trans h.sources
  visible r hr vis := by
    obtain ⟨r', hr', e⟩ := h.visible r hr vis
    obtain ⟨r'', hr'', e'⟩ := g.visible r' hr' ((removed_of_idOf e).trans vis)
    exact ⟨r'', hr'', e'.trans e⟩

/-- Every source order that is left stood there before. -/
theorem Tended.source (h : Tended s t) {r : Source} (hr : r ∈ t.store.sources) :
    ∃ r' ∈ s.store.sources, idOf r' = idOf r :=
  List.mem_map.1 (h.sources.subset (List.mem_map_of_mem hr))

/-- A rewrite of the source table, of the tile map and of the queue that keeps every order's identity. -/
theorem Tended.of_map {t : State} {f : Source → Source} (hf : ∀ r, idOf (f r) = idOf r)
    (ht : t.store = { s.store with
      sources := s.store.sources.map f, tileMap := t.store.tileMap, queue := t.store.queue
      queueCounter := t.store.queueCounter }) : Tended s t := by
  have ids : t.store.sources.map idOf = s.store.sources.map idOf := by
    rw [ht]
    simp only [List.map_map]
    exact List.map_congr_left fun r _ => hf r
  have same : SameAdapters s t := by constructor <;> rw [ht]
  exact ⟨same, by rw [ids], fun r hr _ => List.mem_map.1 (ids ▸ List.mem_map_of_mem hr)⟩

theorem Tended.updateSource (tag : Nat) {f : Source → Source} (hf : ∀ r, idOf (f r) = idOf r) (s : State) :
    Tended s (updateSource tag f s) := by
  refine .of_map (f := fun r => if r.tag = tag then f r else r) (fun r => ?_) rfl
  split
  · exact hf r
  · rfl

/-! ### Evaluations and the round-start pass are tended -/

theorem renumber_tended (tag : Nat) (s : State) : Tended s (renumber tag s) := by
  refine .of_map (f := fun r => if r.tag ∈ s.store.queue.filter (· ≠ tag) ++ [tag] then
    { r with entryNo := some ((s.store.queue.filter (· ≠ tag) ++ [tag]).idxOf r.tag) } else r) (fun r => ?_) rfl
  split <;> rfl

theorem enqueue_tended (tag : Nat) (s : State) : Tended s (enqueue tag s) := by
  have queued : ∀ r : Source, idOf (if r.tag = tag then
      { r with state := .queued, entryNo := some s.store.queueCounter } else r) = idOf r := by
    intro r
    split <;> rfl
  unfold enqueue
  dsimp only
  split
  · exact (Tended.of_map queued rfl).trans (renumber_tended tag _)
  · exact .of_map queued rfl

theorem dequeue_tended (tag : Nat) (s : State) : Tended s (dequeue tag s) :=
  (Tended.updateSource (f := fun r => { r with state := .dormant, entryNo := none }) tag (fun _ => rfl) s).trans
    (.of_map (f := id) (fun _ => rfl) (by rw [List.map_id]; rfl))

theorem evalSource_tended (tag : Nat) (s : State) : Tended s (evalSource tag s) := by
  unfold evalSource
  split
  · exact .refl s
  · have judged := Tended.updateSource (f := fun r => { r with mismatch := otherWantStands s.view r.tag r.cls }) tag
      (fun _ => rfl) s
    dsimp only
    split
    · exact judged.trans (enqueue_tended tag _)
    · exact judged.trans (dequeue_tended tag _)
    · exact judged.trans (.updateSource (f := fun r => { r with releaseCount := 0 }) tag (fun _ => rfl) _)
    · exact judged

theorem freeRecord_adapters (s : State) (r : Source) : SameAdapters s (freeRecord s r) := by
  unfold freeRecord
  dsimp only
  split
  · exact ⟨rfl, rfl, rfl, rfl, rfl, rfl, rfl⟩
  · refine SameAdapters.trans ?_ (evalSource_tended r.tag _).toSameAdapters
    exact ⟨rfl, rfl, rfl, rfl, rfl, rfl, rfl⟩

/-- A retiring record that is freed is deleted only when it is hidden. -/
theorem freeRecord_tended {r : Source} (h : r.removed = true → ∀ e ∈ s.store.sources, e.tag = r.tag → e.removed = true) :
    Tended s (freeRecord s r) := by
  unfold freeRecord
  dsimp only
  split
  · rename_i removed
    refine ⟨⟨rfl, rfl, rfl, rfl, rfl, rfl, rfl⟩, List.filter_sublist.map _, fun e he vis => ⟨e, ?_, rfl⟩⟩
    refine List.mem_filter.2 ⟨he, ?_⟩
    have other : e.tag ≠ r.tag := fun same => by
      rw [h removed e he same] at vis
      cases vis
    simpa using other
  · have freed : Tended s { s with store := { s.store with
        tileMap := setRange s.store.tileMap (r.firstTile.getD 160) r.cls none } } :=
      .of_map (f := id) (fun _ => rfl) (by rw [List.map_id])
    exact (freed.trans (.updateSource (f := fun r => { r with state := .dormant, firstTile := none, omitted := false })
      r.tag (fun _ => rfl) _)).trans (evalSource_tended r.tag _)

theorem freeRecords_tended (rs : List Source) {s : State}
    (h : ∀ r ∈ rs, r.removed = true → ∀ e ∈ s.store.sources, e.tag = r.tag → e.removed = true) :
    Tended s (rs.foldl freeRecord s) := by
  induction rs generalizing s with
  | nil => exact .refl s
  | cons r rs ih =>
    have first := freeRecord_tended (h r List.mem_cons_self)
    refine first.trans (ih fun q hq removed e he same => ?_)
    obtain ⟨e', he', id⟩ := first.source he
    rw [← removed_of_idOf id]
    exact h q (List.mem_cons_of_mem _ hq) removed e' he' ((tag_of_idOf id).trans same)

theorem placeOne_tended (s : State) (tag : Nat) : Tended s (placeOne s tag) := by
  unfold placeOne
  split
  · exact .refl s
  · split
    · rename_i first _
      exact (Tended.updateSource (f := fun r => { r with
        state := .offered, firstTile := some first, entryNo := none, releaseCount := 0, passedOver := 0, blocked := false })
        tag (fun _ => rfl) s).trans (.of_map (f := id) (fun _ => rfl) (by rw [List.map_id]))
    · exact .updateSource (f := fun r => { r with
        passedOver := min 3 (r.passedOver + 1), blocked := r.blocked || 3 ≤ r.passedOver + 1 }) tag (fun _ => rfl) s

theorem foldl_tended {α : Type} {f : State → α → State} (hf : ∀ s a, Tended s (f s a)) (l : List α) (s : State) :
    Tended s (l.foldl f s) :=
  List.foldlRecOn _ _ (Tended.refl s) fun _ h a _ => h.trans (hf _ a)

theorem placementStep_tended (s : State) : Tended s (placementStep s) := by
  unfold placementStep
  split
  · exact foldl_tended placeOne_tended _ s
  · exact .refl s

theorem countRelease_idOf (view : Vector LaneView 9) (r : Source) : idOf (countRelease view r) = idOf r := by
  unfold countRelease
  split
  · split
    · rfl
    · split <;> rfl
  · rfl

theorem placementPass_adapters (s : State) : SameAdapters s (placementPass s) := by
  have freeing : SameAdapters s (freeingStep s) :=
    List.foldlRecOn _ _ (SameAdapters.refl s) fun _ h r _ => h.trans (freeRecord_adapters _ r)
  have counted : SameAdapters (freeingStep s) (releaseStep (freeingStep s)) := ⟨rfl, rfl, rfl, rfl, rfl, rfl, rfl⟩
  exact (freeing.trans counted).trans (placementStep_tended _).toSameAdapters

theorem placementPass_tended (tags : (s.store.sources.map (·.tag)).Nodup) : Tended s (placementPass s) := by
  have freeing : Tended s (freeingStep s) := by
    refine freeRecords_tended _ fun r hr removed e he same => ?_
    have mem := List.mem_of_mem_filter ((List.perm_insertionSort _ _).mem_iff.1 hr)
    rw [List.inj_on_of_nodup_map tags he mem same]
    exact removed
  exact (freeing.trans (.of_map (f := countRelease (freeingStep s).view) (countRelease_idOf _) rfl)).trans
    (placementStep_tended _)

theorem marksSource_idOf {f : Source → Source} (hf : MarksSource f) (r : Source) : idOf (f r) = idOf r := by
  rw [hf r]
  rfl

/-! ### Adapter records and their constants -/

/-- A record that serves the same order with the same kind and constants. -/
structure SameRecord (a a' : Adapter) : Prop where
  kind : a'.kind = a.kind
  tag : a'.tag = a.tag
  cls : a'.cls = a.cls
  rnom : a'.rnom = a.rnom
  k : a'.k = a.k

theorem sameRecord_of_step {a a' : Adapter} (h : RecordStep a a') : SameRecord a a' := by
  cases h with
  | arrive => exact ⟨rfl, rfl, rfl, rfl, rfl⟩
  | depart =>
    obtain ⟨tag, kind, cls, rnom, k, -⟩ := depart_keeps a
    exact ⟨kind, tag, cls, rnom, k⟩
  | endSpan => exact ⟨rfl, rfl, rfl, rfl, rfl⟩

end Sys2Proof.Stores
end

section
/-! PROOFS. Store memory (O4) and the adapters (O5): laws that read the pool and the free store memory alone. -/

namespace Sys2Proof.Stores

open Sys2Proof.Machine Sys2Proof.Safety Sys2Proof.Walk

variable {P : State → Prop} {s t : State}

/-! ### Laws of the pool -/

theorem bindPositions_pool (d : Direction) (b : Binding) (cls : Nat) (v : Option Nat) (st : OrderStore) :
    (bindPositions d b cls v st).pool = st.pool ∧ (bindPositions d b cls v st).freeStore = st.freeStore := by
  unfold bindPositions
  split <;> exact ⟨rfl, rfl⟩

/-- The writes that a law of the pool is to be shown of. -/
structure PoolKept (P : State → Prop) : Prop where
  alike : ∀ {s t : State}, P s → t.store.pool = s.store.pool →
    t.store.freeStore = s.store.freeStore → P t
  record : ∀ {n : Fin 96} {a a' : Adapter} {s : State}, s.store.pool[n] = some a → RecordStep a a' → P s →
    P (setAdapter n (some a') s)
  allocated : ∀ {kind : AdapterKind} {n : Fin 96} {tag cls rnom k : Nat} {s : State}, classOk cls = true →
    s.store.pool[n] = none → Config.storePerClass * cls ≤ s.store.freeStore → P s → P { s with store := { s.store with
      pool := s.store.pool.set n (some (newAdapter kind tag cls (clampRnom cls rnom) (clampK k)))
      freeStore := s.store.freeStore - Config.storePerClass * cls } }
  freed : ∀ {n : Fin 96} {a : Adapter} {s : State}, s.store.pool[n] = some a → P s → P { s with store := { s.store with
      pool := s.store.pool.set n none
      freeStore := s.store.freeStore + Config.storePerClass * a.cls } }
  empty : ∀ {s : State}, P s → P { s with store := OrderStore.empty }

theorem PoolKept.allocate (K : PoolKept P) {d : Direction} {tag cls : Nat} {b : Binding}
    (ok : Admissible d tag cls b s.store) (rnom k : Nat) (h : P s) :
    P { s with store := (allocate (adapterKind d b) tag cls (clampRnom cls rnom) (clampK k) s.store).1 } := by
  obtain ⟨-, e⟩ | ⟨kind, n, -, free, -, enough, e⟩ :=
    allocate_of_admissible ok (clampRnom cls rnom) (clampK k)
  · rw [e]
    exact h
  · rw [e]
    exact K.allocated ok.classed free enough h

theorem PoolKept.freeStore (K : PoolKept P) (d : Direction) (b : Binding) (cls : Nat) (n : Option (Fin 96)) (h : P s) :
    P { s with store := freedStore d b cls n s.store } := by
  have bound : P { s with store := bindPositions d b cls none s.store } :=
    K.alike h (bindPositions_pool d b cls none s.store).1 (bindPositions_pool d b cls none s.store).2
  unfold freedStore freeAdapter
  split
  · exact bound
  · unfold freeRecordOf
    split
    · exact bound
    · exact K.freed ‹_› bound

/-- A law of the pool is kept by every write of the order store. -/
theorem PoolKept.storeKept (K : PoolKept P) : StoreKept P where
  evalSource tag s h := K.alike h (evalSource_tended tag s).pool (evalSource_tended tag s).freeStore
  sources _ _ h := K.alike h rfl rfl
  sinks _ _ h := K.alike h rfl rfl
  record ha hs h := K.record ha hs h
  pass {s} h := K.alike h (placementPass_adapters s).pool (placementPass_adapters s).freeStore
  empty := K.empty
  admitSource {q b action standing s} _ ok h := by
    have bound := bindPositions_pool .source b q.cls (some q.tag)
      (Machine.allocate (adapterKind .source b) q.tag q.cls (clampRnom q.cls q.rnom) (clampK q.k) s.store).1
    have admitted := evalSource_tended q.tag { s with store := withSource q b action standing s.store }
    have item := Placement.createSourceItem_store q.tag
      (evalSource q.tag { s with store := withSource q b action standing s.store })
    refine K.alike (K.allocate (refusal_eq_none_iff.1 ok) q.rnom q.k h) ?_ ?_
    · exact ((congrArg _ item).trans admitted.pool).trans bound.1
    · exact ((congrArg _ item).trans admitted.freeStore).trans bound.2
  admitSink {q b s} _ ok h := by
    have bound := bindPositions_pool .sink b q.cls (some q.tag)
      (Machine.allocate (adapterKind .sink b) q.tag q.cls (clampRnom q.cls q.rnom) (clampK q.k) s.store).1
    have item := Placement.createSinkItem_store q.tag (evalSink true { s with store := withSink q b s.store } q.tag)
    refine K.alike (K.allocate (refusal_eq_none_iff.1 ok) q.rnom q.k h) ?_ ?_
    · exact (congrArg OrderStore.pool item).trans bound.1
    · exact (congrArg OrderStore.freeStore item).trans bound.2
  removeSource {r tag s} _ h := by
    have freed := K.freeStore .source r.binding r.cls r.adapter h
    unfold Machine.removeSource retireOrDelete
    split <;> exact K.alike freed rfl rfl
  removeSink {k tag s} _ h := K.alike (K.freeStore .sink k.binding k.cls k.adapter h) rfl rfl

theorem PoolKept.kept (K : PoolKept P) : Kept P where
  alike h a := K.alike h (by rw [a.store]) (by rw [a.store])
  store := K.storeKept
  view := .of_view fun e _ _ h => K.alike h (by rw [e]) (by rw [e])
  ports := .of_ports fun e _ _ h => K.alike h (by rw [e]) (by rw [e])

/-! ### Store memory -/

/-- A write of one record exchanges its reservation. -/
theorem reserved_set (pool : Vector (Option Adapter) 96) (n : Fin 96) (x : Option Adapter) :
    ((pool.set n x).toList.map reserved).sum + reserved pool[n] = (pool.toList.map reserved).sum + reserved x := by
  have hn : n.val < (pool.toList.map reserved).length := by simp
  have cut := List.sum_take_add_sum_drop (pool.toList.map reserved) n.val
  have head := List.drop_eq_getElem_cons hn
  rw [head, List.sum_cons] at cut
  have here : (pool.toList.map reserved)[n.val] = reserved pool[n] := by simp
  rw [here] at cut
  rw [Vector.toList_set, List.map_set, List.sum_set, if_pos hn]
  omega

theorem storeLaw_poolKept : PoolKept StoreLaw where
  alike h pool free := by
    unfold StoreLaw at *
    rw [pool, free]
    exact h
  record {n a a' s} ha step h := by
    unfold StoreLaw at *
    have total := reserved_set s.store.pool n (some a')
    have same : reserved (some a') = reserved (some a) := by simp only [reserved, (sameRecord_of_step step).cls]
    rw [ha, same] at total
    change s.store.freeStore + ((s.store.pool.set n (some a')).toList.map reserved).sum = _
    omega
  allocated {kind n tag cls rnom k s} _ free enough h := by
    unfold StoreLaw at *
    have total := reserved_set s.store.pool n (some (newAdapter kind tag cls (clampRnom cls rnom) (clampK k)))
    rw [free] at total
    simp only [reserved, newAdapter] at total ⊢
    omega
  freed {n a s} ha h := by
    unfold StoreLaw at *
    have total := reserved_set s.store.pool n none
    rw [ha] at total
    simp only [reserved] at total ⊢
    omega
  empty _ := by
    simp [StoreLaw, OrderStore.empty, reserved]

/-- Settles O4: an allocation takes from the free store memory what it reserves, and a removal gives it back. -/
theorem everyStepKeepsTheStoreLaw : Obligations.EveryStepKeepsTheStoreLaw := fun _ _ h hstep =>
  storeLaw_poolKept.kept.step (fun _ _ h => h) h hstep

/-! ### Adapters -/

theorem clamp_bounds {lo hi : Nat} (h : lo ≤ hi) (v : Nat) : lo ≤ clamp lo hi v ∧ clamp lo hi v ≤ hi := by
  unfold clamp
  omega

theorem adapterBounds_new (kind : AdapterKind) {tag cls : Nat} (rnom k : Nat) (ok : classOk cls = true) :
    AdapterBounds (newAdapter kind tag cls (clampRnom cls rnom) (clampK k)) := by
  have pos := Placement.classOk_pos ok
  obtain ⟨rnomLow, rnomHigh⟩ := clamp_bounds (lo := 256) (hi := 640000 * cls) (by omega) rnom
  obtain ⟨spanLow, spanHigh⟩ := clamp_bounds (lo := 2) (hi := 6) (by omega) k
  constructor
  case cls => exact ok
  case rnomLow => exact rnomLow
  case rnomHigh => exact rnomHigh
  case spanLow => exact spanLow
  case spanHigh => exact spanHigh
  case depth => exact Nat.zero_le _
  case phase => exact Nat.zero_lt_succ _
  case rateLow => exact Nat.sub_le _ _
  case rateHigh =>
    simp only [newAdapter, Adapter.rateHigh, Adapter.cap, Config.tileBlocks, clampRnom] at rnomHigh ⊢
    refine Nat.le_min.2 ⟨Nat.le_add_right _ _, rnomHigh.trans ?_⟩
    omega
  case count => exact Nat.two_pow_pos _
  case arrived => exact Nat.zero_le _
  case ended => exact nofun

theorem adapterBounds_arrive {a : Adapter} (h : AdapterBounds a) (blocks : List Block) : AdapterBounds (a.arrive blocks) where
  cls := h.cls
  rnomLow := h.rnomLow
  rnomHigh := h.rnomHigh
  spanLow := h.spanLow
  spanHigh := h.spanHigh
  depth := by
    have deep := h.depth
    simp only [Adapter.arrive, Adapter.depth, Adapter.ecap, List.length_append, List.length_take] at deep ⊢
    omega
  phase := h.phase
  rateLow := h.rateLow
  rateHigh := h.rateHigh
  count := h.count
  arrived := Nat.min_le_left _ _
  ended := h.ended

theorem adapterBounds_release {a : Adapter} (h : AdapterBounds a) : AdapterBounds a.release.adapter := by
  have shallow : ∀ f, (a.store.drop f).length ≤ a.ecap := by
    intro f
    rw [List.length_drop]
    exact (Nat.sub_le _ _).trans h.depth
  unfold Adapter.release
  dsimp only
  split
  · exact { h with depth := shallow _, phase := Nat.mod_lt _ (by omega) }
  · exact { h with phase := Nat.mod_lt _ (by omega) }

theorem adapterBounds_stepSpan {a : Adapter} (h : AdapterBounds a) : AdapterBounds a.stepSpan := by
  unfold Adapter.stepSpan
  split
  · exact { h with
      count := Nat.two_pow_pos _, arrived := Nat.zero_le _
      ended := by rintro _ ⟨⟩; exact h.arrived }
  · rename_i more
    have count := h.count
    exact { h with count := by change a.spanCount + 1 < a.span; omega }

theorem slewStep_le (d : Nat) : slewStep d ≤ d := by
  unfold slewStep
  split <;> omega

/-- The slew moves the estimate towards a target within the limits, and not beyond it (R113). -/
theorem slewed_bounds {a : Adapter} (h : AdapterBounds a) (e : EndedSpan) :
    a.rateLow ≤ a.slewed e ∧ a.slewed e ≤ a.rateHigh := by
  have low := h.rateLow
  have high := h.rateHigh
  unfold Adapter.slewed
  dsimp only
  split
  · exact ⟨low, high⟩
  · split
    · have step := slewStep_le (min (max (a.measured e) a.rateLow) a.rateHigh - a.rate)
      omega
    · have step := slewStep_le (a.rate - min (max (a.measured e) a.rateLow) a.rateHigh)
      omega

theorem adapterBounds_endSpan {a : Adapter} (h : AdapterBounds a) (e : EndedSpan) : AdapterBounds (a.endSpan e) :=
  { h with rateLow := (slewed_bounds h e).1, rateHigh := (slewed_bounds h e).2, ended := nofun }

theorem adapterBounds_step {a a' : Adapter} (c : RecordStep a a') (h : AdapterBounds a) : AdapterBounds a' := by
  cases c with
  | arrive blocks => exact adapterBounds_arrive h blocks
  | depart => exact adapterBounds_stepSpan (adapterBounds_release h)
  | endSpan e => exact adapterBounds_endSpan h e

theorem adapterLaw_set {n : Fin 96} {x : Option Adapter} (pool : Vector (Option Adapter) 96)
    (e : t.store.pool = pool.set n x)
    (hx : ∀ a, x = some a → AdapterBounds a) (h : ∀ m : Fin 96, ∀ a, pool[m] = some a → AdapterBounds a) : AdapterLaw t := by
  intro m a ha
  rw [e] at ha
  by_cases same : m = n
  · subst same
    exact hx a ((Vector.getElem_set_self _).symm.trans ha)
  · rw [SourceChoice.getElem_set_ne _ _ same] at ha
    exact h m a ha

theorem adapterLaw_poolKept : PoolKept AdapterLaw where
  alike h pool _ := by
    unfold AdapterLaw
    rw [pool]
    exact h
  record {n a a' s} ha step h := by
    refine adapterLaw_set s.store.pool rfl (fun b e => ?_) h
    rw [← Option.some.inj e]
    exact adapterBounds_step step (h n a ha)
  allocated {kind n tag cls rnom k s} ok _ _ h := by
    refine adapterLaw_set s.store.pool rfl (fun b e => ?_) h
    rw [← Option.some.inj e]
    exact adapterBounds_new kind rnom k ok
  freed {n a s} _ h := adapterLaw_set s.store.pool rfl (fun _ e => nomatch e) h
  empty _ n a ha := by
    have none : OrderStore.empty.pool[n] = none := Vector.getElem_replicate _
    exact nomatch none.symm.trans ha

/-- Settles O5: arrivals, departures and span ends keep the bounds of their record, and a new record obeys them. -/
theorem everyStepKeepsTheAdapterLaw : Obligations.EveryStepKeepsTheAdapterLaw := fun _ _ h hstep =>
  adapterLaw_poolKept.kept.step (fun _ _ h => h) h hstep

end Sys2Proof.Stores
end

section
/-! PROOFS. Orders, adapter records and binding maps agree (O33): what an admission binds and a removal frees, position by
position, and the walk. -/

namespace Sys2Proof.Owners

open Sys2Proof.Machine Sys2Proof.Safety Sys2Proof.Walk Sys2Proof.Stores

variable {s t : State} {b : Binding} {cls tag : Nat} {st : OrderStore}

/-! ### The binding maps, position by position -/

/-- The carrier positions of a binding. -/
def TileOf (b : Binding) (cls : Nat) (p : Fin 4) (i : Fin 40) : Prop :=
  ∃ first, b = .carrier p first ∧ first ≤ i.val ∧ i.val < first + cls

/-- The client-port map and the carrier map of a direction. -/
def clientMap (d : Direction) (st : OrderStore) : Vector (Option Nat) 32 :=
  match d with
  | .source => st.clientIn
  | .sink => st.clientEgr

def carrierMap (d : Direction) (st : OrderStore) : Vector (Vector (Option Nat) 40) 4 :=
  match d with
  | .source => st.carrierIn
  | .sink => st.carrierEgr

theorem bindPositions_client (d : Direction) (v : Option Nat) (p : Fin 32) :
    (b = .client p → (clientMap d (bindPositions d b cls v st))[p] = v) ∧
      (b ≠ .client p → (clientMap d (bindPositions d b cls v st))[p] = (clientMap d st)[p]) := by
  cases b with
  | client q =>
    have hit : ∀ m : Vector (Option Nat) 32, q = p → (m.set q v)[p] = v := by
      rintro m rfl
      exact Vector.getElem_set_self _
    have miss : ∀ m : Vector (Option Nat) 32, q ≠ p → (m.set q v)[p] = m[p] := fun m ne =>
      SourceChoice.getElem_set_ne m v (Ne.symm ne)
    cases d with
    | source => exact ⟨fun e => hit _ (Binding.client.inj e), fun ne => miss _ fun e => ne (by rw [e])⟩
    | sink => exact ⟨fun e => hit _ (Binding.client.inj e), fun ne => miss _ fun e => ne (by rw [e])⟩
  | carrier q first => cases d <;> exact ⟨nofun, fun _ => rfl⟩

theorem bindPositions_carrier (d : Direction) (v : Option Nat) (p : Fin 4) (i : Fin 40) :
    (TileOf b cls p i → (carrierMap d (bindPositions d b cls v st))[p][i] = v) ∧
      (¬ TileOf b cls p i → (carrierMap d (bindPositions d b cls v st))[p][i] = (carrierMap d st)[p][i]) := by
  cases b with
  | client q =>
    have no : ¬ TileOf (.client q) cls p i := fun ⟨_, e, _⟩ => nomatch e
    cases d <;> exact ⟨fun h => absurd h no, fun _ => rfl⟩
  | carrier q first =>
    have write : ∀ m : Vector (Vector (Option Nat) 40) 4,
        (TileOf (.carrier q first) cls p i → (m.set q (setRange m[q] first cls v))[p][i] = v) ∧
          (¬ TileOf (.carrier q first) cls p i → (m.set q (setRange m[q] first cls v))[p][i] = m[p][i]) := by
      intro m
      by_cases same : q = p
      · subst same
        have here : (m.set q (setRange m[q] first cls v))[q] = setRange m[q] first cls v := Vector.getElem_set_self _
        rw [here, show (setRange m[q] first cls v)[i] = _ from setRange_getElem m[q] first cls v i.val i.2]
        refine ⟨?_, fun no => if_neg fun range => no ⟨first, rfl, range⟩⟩
        rintro ⟨f, e, range⟩
        cases e
        exact if_pos range
      · have there : (m.set q (setRange m[q] first cls v))[p] = m[p] := SourceChoice.getElem_set_ne _ _ (Ne.symm same)
        rw [there]
        refine ⟨?_, fun _ => rfl⟩
        rintro ⟨f, e, -⟩
        cases e
        exact absurd rfl same
    cases d <;> exact write _

/-- The positions of an admissible binding are free (checks 6 and 7 of R9). -/
theorem client_free {d : Direction} (h : Admissible d tag cls b st) (p : Fin 32) (e : b = .client p) :
    (clientMap d st)[p] = none := by
  subst e
  have check := h.positions
  unfold positionCheck at check
  cases d with
  | source =>
    dsimp only at check
    split at check
    · cases check
    · exact Option.not_isSome_iff_eq_none.1 ‹_›
  | sink =>
    dsimp only at check
    split at check
    · cases check
    · exact Option.not_isSome_iff_eq_none.1 ‹_›

theorem carrier_free {d : Direction} (h : Admissible d tag cls b st) (p : Fin 4) (i : Fin 40) (e : TileOf b cls p i) :
    (carrierMap d st)[p][i] = none := by
  obtain ⟨first, rfl, low, high⟩ := e
  have unbound : rangeBound (carrierMap d st)[p] first cls = false := by
    have check := h.positions
    unfold positionCheck at check
    cases d with
    | source =>
      dsimp only at check
      split at check
      · cases check
      · exact Bool.eq_false_iff.2 ‹_›
    | sink =>
      dsimp only at check
      split at check
      · cases check
      · exact Bool.eq_false_iff.2 ‹_›
  by_contra bound
  obtain ⟨o, ho⟩ := Option.ne_none_iff_exists'.1 bound
  refine Bool.eq_false_iff.1 unbound ((rangeBound_iff _ first cls).2 ⟨i.val - first, by omega, o, ?_⟩)
  rw [show first + (i.val - first) = i.val by omega]
  exact (Vector.getElem?_eq_getElem i.2).trans (congrArg some ho)

/-- A position after an order is bound there, of a map that names the orders `owns`. -/
theorem bound_iff {o o' : Option Nat} {place : Prop} {new : Nat} {owns : Nat → Prop} (names : ∀ x, o = some x ↔ owns x)
    (hit : place → o' = some new) (miss : ¬ place → o' = o) (free : place → o = none) (x : Nat) :
    o' = some x ↔ owns x ∨ (x = new ∧ place) := by
  by_cases here : place
  · have nobody : ¬ owns x := fun h => by
      have := (names x).2 h
      rw [free here] at this
      cases this
    rw [hit here]
    simp [nobody, here, eq_comm]
  · rw [miss here, names]
    simp [here]

/-- A position after an order is freed. -/
theorem freed_iff {o o' : Option Nat} {place : Prop} {gone : Nat} {owns : Nat → Prop} (names : ∀ x, o = some x ↔ owns x)
    (hit : place → o' = none) (miss : ¬ place → o' = o) (names_gone : owns gone ↔ place) (x : Nat) :
    o' = some x ↔ owns x ∧ x ≠ gone := by
  by_cases here : place
  · have held := (names gone).2 (names_gone.2 here)
    rw [hit here, ← names x, held]
    constructor
    · nofun
    · rintro ⟨e, ne⟩
      exact absurd (Option.some.inj e).symm ne
  · rw [miss here, names]
    exact ⟨fun h => ⟨h, fun e => here (names_gone.1 (e ▸ h))⟩, And.left⟩

/-! ### Adapters -/

theorem serves_of_pool {n : Fin 96} {kind : AdapterKind} {rnom k : Nat} (h : Serves s n kind tag cls rnom k)
    (e : t.store.pool[n] = s.store.pool[n]) : Serves t n kind tag cls rnom k := by
  obtain ⟨a, ha, rest⟩ := h
  exact ⟨a, e.trans ha, rest⟩

theorem serves_same {n : Fin 96} {kind kind' : AdapterKind} {tag' cls' rnom k rnom' k' : Nat}
    (h : Serves s n kind tag cls rnom k) (g : Serves s n kind' tag' cls' rnom' k') : kind = kind' ∧ tag = tag' := by
  obtain ⟨a, ha, hkind, htag, -⟩ := h
  obtain ⟨a', ha', hkind', htag', -⟩ := g
  obtain rfl : a = a' := Option.some.inj (ha.symm.trans ha')
  exact ⟨hkind.symm.trans hkind', htag.symm.trans htag'⟩

theorem serves_occupied {n : Fin 96} {kind : AdapterKind} {rnom k : Nat} (h : Serves s n kind tag cls rnom k) :
    s.store.pool[n] ≠ none := by
  obtain ⟨a, ha, -⟩ := h
  rw [ha]
  nofun

/-- A record keeps whom it serves through arrivals, departures and span ends. -/
theorem serves_set {n m : Fin 96} {kind : AdapterKind} {rnom k : Nat} {a a' : Adapter} (ha : s.store.pool[m] = some a)
    (same : SameRecord a a') (h : Serves s n kind tag cls rnom k) : Serves (setAdapter m (some a') s) n kind tag cls rnom k := by
  by_cases e : n = m
  · subst e
    obtain ⟨x, hx, hkind, htag, hcls, hrnom, hk⟩ := h
    obtain rfl : a = x := Option.some.inj (ha.symm.trans hx)
    exact ⟨a', Vector.getElem_set_self _, same.kind.trans hkind, same.tag.trans htag, same.cls.trans hcls,
      same.rnom.trans hrnom, same.k.trans hk⟩
  · exact serves_of_pool h (SourceChoice.getElem_set_ne _ _ e)

theorem sourceKind_ne_clientSink (b : Binding) : sourceKind b ≠ .clientSink := by
  cases b <;> nofun

theorem adapterKind_source (b : Binding) : adapterKind .source b = some (sourceKind b) := by
  cases b <;> rfl

/-! ### Writes that leave the agreement -/

/-- The law reads identities of sources and sinks, the pool and the maps alone. -/
theorem ownerLaw_of_tended (h : OwnerLaw s) (e : Tended s t) : OwnerLaw t := by
  have fields : ∀ {r r' : Source}, idOf r' = idOf r → r'.tag = r.tag ∧ r'.cls = r.cls ∧ r'.binding = r.binding ∧
      r'.rnom = r.rnom ∧ r'.k = r.k ∧ r'.removed = r.removed ∧ r'.adapter = r.adapter := by
    intro r r' e
    simpa only [idOf, Prod.mk.injEq] using e
  have serves : ∀ {n kind tag cls rnom k}, Serves s n kind tag cls rnom k → Serves t n kind tag cls rnom k :=
    fun h => serves_of_pool h (by rw [e.pool])
  have tags : (t.store.sources.map (·.tag)).Sublist (s.store.sources.map (·.tag)) := by
    have both := e.sources.map Prod.fst
    rw [List.map_map, List.map_map] at both
    exact both
  constructor
  case sourceTags => exact h.sourceTags.sublist tags
  case sinkTags => rw [e.sinks]; exact h.sinkTags
  case sources =>
    intro r hr vis
    obtain ⟨r', hr', id⟩ := e.source hr
    obtain ⟨tag, cls, binding, rnom, k, removed, adapter⟩ := fields id
    obtain ⟨n, hn, serve⟩ := h.sources r' hr' (removed.trans vis)
    rw [tag, cls, binding, rnom, k] at serve
    exact ⟨n, adapter.symm.trans hn, serves serve⟩
  case hidden =>
    intro r hr hid
    obtain ⟨r', hr', id⟩ := e.source hr
    obtain ⟨-, -, -, -, -, removed, adapter⟩ := fields id
    exact adapter.symm.trans (h.hidden r' hr' (removed.trans hid))
  case clientSinks =>
    rw [e.sinks]
    intro k hk p hb
    obtain ⟨n, rnom, kk, adapter, hrnom, hkk, serve⟩ := h.clientSinks k hk p hb
    exact ⟨n, rnom, kk, adapter, hrnom, hkk, serves serve⟩
  case carrierSinks => rw [e.sinks]; exact h.carrierSinks
  case records =>
    rw [e.pool, e.sinks]
    intro n hn
    refine (h.records n hn).imp_left ?_
    rintro ⟨r, hr, vis, adapter⟩
    obtain ⟨r', hr', id⟩ := e.visible r hr vis
    obtain ⟨-, -, -, -, -, removed, adapter'⟩ := fields id
    exact ⟨r', hr', removed.trans vis, adapter'.trans adapter⟩
  case clientIn =>
    rw [e.clientIn]
    intro p tag
    rw [h.clientIn]
    constructor
    · rintro ⟨r, hr, vis, rfl, hb⟩
      obtain ⟨r', hr', id⟩ := e.visible r hr vis
      obtain ⟨tag, -, binding, -, -, removed, -⟩ := fields id
      exact ⟨r', hr', removed.trans vis, tag, binding.trans hb⟩
    · rintro ⟨r, hr, vis, rfl, hb⟩
      obtain ⟨r', hr', id⟩ := e.source hr
      obtain ⟨tag, -, binding, -, -, removed, -⟩ := fields id
      exact ⟨r', hr', removed.trans vis, tag, binding.trans hb⟩
  case clientEgr => rw [e.clientEgr, e.sinks]; exact h.clientEgr
  case carrierIn =>
    rw [e.carrierIn]
    intro p i tag
    rw [h.carrierIn]
    constructor
    · rintro ⟨r, hr, vis, rfl, first, hb, range⟩
      obtain ⟨r', hr', id⟩ := e.visible r hr vis
      obtain ⟨tag, cls, binding, -, -, removed, -⟩ := fields id
      exact ⟨r', hr', removed.trans vis, tag, first, binding.trans hb, by rwa [cls]⟩
    · rintro ⟨r, hr, vis, rfl, first, hb, range⟩
      obtain ⟨r', hr', id⟩ := e.source hr
      obtain ⟨tag, cls, binding, -, -, removed, -⟩ := fields id
      exact ⟨r', hr', removed.trans vis, tag, first, binding.trans hb, by rwa [cls]⟩
  case carrierEgr => rw [e.carrierEgr, e.sinks]; exact h.carrierEgr

theorem ownerLaw_of_store (h : OwnerLaw s) (e : t.store = s.store) : OwnerLaw t :=
  ownerLaw_of_tended h (.of_map (f := id) (fun _ => rfl) (by rw [e, List.map_id]))

/-- A rewrite of the sinks that leaves each order's identity. -/
theorem ownerLaw_mapSinks (h : OwnerLaw s) {f : Sink → Sink} (hf : MarksSink f) : OwnerLaw (mapSinks f s) := by
  have some_ : ∀ p : Sink → Prop, (∀ k, p (f k) ↔ p k) →
      ((∃ k ∈ s.store.sinks.map f, p k) ↔ ∃ k ∈ s.store.sinks, p k) := by
    intro p hp
    simp only [List.mem_map, exists_exists_and_eq_and, hp]
  constructor
  case sourceTags => exact h.sourceTags
  case sinkTags =>
    have tags : (s.store.sinks.map f).map (·.tag) = s.store.sinks.map (·.tag) := by
      rw [List.map_map]
      exact List.map_congr_left fun k _ => (hf k).tag
    exact tags ▸ h.sinkTags
  case sources => exact h.sources
  case hidden => exact h.hidden
  case clientSinks =>
    intro k' hk' p hb
    obtain ⟨k, hk, rfl⟩ := List.mem_map.1 hk'
    obtain ⟨tag, cls, binding, rnom, span, adapter⟩ := hf k
    obtain ⟨n, rn, kk, hn, hrn, hkk, serve⟩ := h.clientSinks k hk p (binding.symm.trans hb)
    exact ⟨n, rn, kk, adapter.trans hn, rnom.trans hrn, span.trans hkk, by rw [tag, cls]; exact serve⟩
  case carrierSinks =>
    intro k' hk' p first hb
    obtain ⟨k, hk, rfl⟩ := List.mem_map.1 hk'
    obtain ⟨-, -, binding, rnom, span, adapter⟩ := hf k
    obtain ⟨hn, hrn, hkk⟩ := h.carrierSinks k hk p first (binding.symm.trans hb)
    exact ⟨adapter.trans hn, rnom.trans hrn, span.trans hkk⟩
  case records =>
    intro n hn
    exact (h.records n hn).imp_right (some_ _ fun k => by rw [(hf k).adapter]).2
  case clientIn => exact h.clientIn
  case clientEgr =>
    intro p tag
    exact (h.clientEgr p tag).trans (some_ _ fun k => by rw [(hf k).tag, (hf k).binding]).symm
  case carrierIn => exact h.carrierIn
  case carrierEgr =>
    intro p i tag
    exact (h.carrierEgr p i tag).trans (some_ _ fun k => by rw [(hf k).tag, (hf k).binding, (hf k).cls]).symm

/-- A record after an arrival, a departure or a span end. -/
theorem ownerLaw_setAdapter (h : OwnerLaw s) {m : Fin 96} {a a' : Adapter} (ha : s.store.pool[m] = some a)
    (same : SameRecord a a') : OwnerLaw (setAdapter m (some a') s) :=
  { h with
    sources := fun r hr vis => by
      obtain ⟨n, hn, serve⟩ := h.sources r hr vis
      exact ⟨n, hn, serves_set ha same serve⟩
    clientSinks := fun k hk p hb => by
      obtain ⟨n, rnom, kk, hn, hrnom, hkk, serve⟩ := h.clientSinks k hk p hb
      exact ⟨n, rnom, kk, hn, hrnom, hkk, serves_set ha same serve⟩
    records := fun n hn => by
      refine h.records n fun free => hn ?_
      by_cases e : n = m
      · subst e
        rw [ha] at free
        cases free
      · exact (SourceChoice.getElem_set_ne _ _ e).trans free }

theorem ownerLaw_empty (e : t.store = OrderStore.empty) : OwnerLaw t := by
  have unnamed : ∀ x : Nat, (none : Option Nat) = some x ↔ False := fun _ => ⟨nofun, nofun⟩
  constructor
  all_goals rw [e]
  case sourceTags => exact List.nodup_nil
  case sinkTags => exact List.nodup_nil
  case sources => exact fun r hr => absurd hr List.not_mem_nil
  case hidden => exact fun r hr => absurd hr List.not_mem_nil
  case clientSinks => exact fun r hr => absurd hr List.not_mem_nil
  case carrierSinks => exact fun r hr => absurd hr List.not_mem_nil
  case records =>
    intro n hn
    exact absurd (Vector.getElem_replicate _) hn
  all_goals simp [OrderStore.empty]

end Sys2Proof.Owners
end

section
/-! PROOFS. Admission and removal keep orders, adapters and binding maps in agreement; with them every step does (O33). -/

namespace Sys2Proof.Owners

open Sys2Proof.Machine Sys2Proof.Safety Sys2Proof.Walk Sys2Proof.Stores

variable {s t : State} {b : Binding} {cls tag : Nat} {st : OrderStore}

/-! ### Admission -/

theorem bindPositions_leaves (d : Direction) (v : Option Nat) :
    (bindPositions d b cls v st).sources = st.sources ∧ (bindPositions d b cls v st).sinks = st.sinks ∧
      (bindPositions d b cls v st).tileMap = st.tileMap ∧ (bindPositions d b cls v st).queue = st.queue ∧
      (bindPositions d b cls v st).queueCounter = st.queueCounter := by
  unfold bindPositions
  split <;> exact ⟨rfl, rfl, rfl, rfl, rfl⟩

/-- A binding of one direction leaves the maps of the other. -/
theorem bindPositions_source_maps (v : Option Nat) :
    (bindPositions .source b cls v st).clientEgr = st.clientEgr ∧
      (bindPositions .source b cls v st).carrierEgr = st.carrierEgr := by
  cases b <;> exact ⟨rfl, rfl⟩

theorem bindPositions_sink_maps (v : Option Nat) :
    (bindPositions .sink b cls v st).clientIn = st.clientIn ∧
      (bindPositions .sink b cls v st).carrierIn = st.carrierIn := by
  cases b <;> exact ⟨rfl, rfl⟩

/-- A pool with one free record allocated serves whom it served. -/
theorem serves_allocated {n m : Fin 96} {x : Adapter} {kind : AdapterKind} {rnom k : Nat} (free : s.store.pool[n] = none)
    (e : t.store.pool = s.store.pool.set n (some x)) (h : Serves s m kind tag cls rnom k) :
    Serves t m kind tag cls rnom k := by
  refine serves_of_pool h ?_
  rw [e]
  exact SourceChoice.getElem_set_ne _ _ fun same => serves_occupied h (same ▸ free)

/-- A record that stands in the pool after one was allocated is that one or stood there before. -/
theorem occupied_allocated {n m : Fin 96} {x : Option Adapter} (e : t.store.pool = s.store.pool.set n x)
    (h : t.store.pool[m] ≠ none) : m = n ∨ s.store.pool[m] ≠ none := by
  by_cases same : m = n
  · exact .inl same
  · refine .inr fun free => h ?_
    rw [e]
    exact (SourceChoice.getElem_set_ne _ _ same).trans free

theorem ownerLaw_withSource {q : SourceRequest} {action : FailedAction} {standing : Standing} (h : OwnerLaw s)
    (ok : Admissible .source q.tag q.cls b s.store) :
    OwnerLaw { s with store := withSource q b action standing s.store } := by
  obtain ⟨e, -⟩ | ⟨kind, n, hkind, free, -, -, e⟩ := allocate_of_admissible ok (clampRnom q.cls q.rnom) (clampK q.k)
  · rw [adapterKind_source] at e
    cases e
  obtain rfl : kind = sourceKind b := Option.some.inj (hkind.symm.trans (adapterKind_source b))
  have client := fun p => bindPositions_client (b := b) (cls := q.cls) (st := { s.store with
    pool := s.store.pool.set n (some (newAdapter (sourceKind b) q.tag q.cls (clampRnom q.cls q.rnom) (clampK q.k)))
    freeStore := s.store.freeStore - Config.storePerClass * q.cls }) .source (some q.tag) p
  have carrier := fun p i => bindPositions_carrier (b := b) (cls := q.cls) (st := { s.store with
    pool := s.store.pool.set n (some (newAdapter (sourceKind b) q.tag q.cls (clampRnom q.cls q.rnom) (clampK q.k)))
    freeStore := s.store.freeStore - Config.storePerClass * q.cls }) .source (some q.tag) p i
  generalize ht : ({ s with store := withSource q b action standing s.store } : State) = t
  generalize hr : newSource q b action standing (some n) = r
  have sources : t.store.sources = s.store.sources ++ [r] := by
    rw [← ht, ← hr, withSource, e]
    exact congrArg (· ++ _) (bindPositions_leaves .source _).1
  have sinks : t.store.sinks = s.store.sinks := by
    rw [← ht, withSource, e]
    exact (bindPositions_leaves .source _).2.1
  have pool : t.store.pool = s.store.pool.set n
      (some (newAdapter (sourceKind b) q.tag q.cls (clampRnom q.cls q.rnom) (clampK q.k))) := by
    rw [← ht, withSource, e]
    exact (bindPositions_pool .source _ _ _ _).1
  have egress : t.store.clientEgr = s.store.clientEgr ∧ t.store.carrierEgr = s.store.carrierEgr := by
    rw [← ht, withSource, e]
    exact bindPositions_source_maps _
  have fresh : ∀ x ∈ s.store.sources, x.tag ≠ q.tag := by
    simpa [holdsTag] using ok.fresh
  have mem : ∀ p : Source → Prop, (∃ x ∈ t.store.sources, p x) ↔ (∃ x ∈ s.store.sources, p x) ∨ p r := by
    intro p
    simp only [sources, List.mem_append, List.mem_singleton, or_and_right, exists_or, exists_eq_left]
  constructor
  case sourceTags =>
    rw [sources, List.map_append, List.map_singleton, ← List.concat_eq_append, List.nodup_concat, ← hr]
    refine ⟨fun held => ?_, h.sourceTags⟩
    obtain ⟨x, hx, same⟩ := List.mem_map.1 held
    exact fresh x hx same
  case sinkTags => rw [sinks]; exact h.sinkTags
  case sources =>
    intro x hx vis
    rw [sources] at hx
    obtain hx | hx := List.mem_append.1 hx
    · obtain ⟨m, hm, serve⟩ := h.sources x hx vis
      exact ⟨m, hm, serves_allocated free pool serve⟩
    · rw [List.mem_singleton.1 hx, ← hr]
      exact ⟨n, rfl, _, by rw [pool]; exact Vector.getElem_set_self _, rfl, rfl, rfl, rfl, rfl⟩
  case hidden =>
    intro x hx hid
    rw [sources] at hx
    obtain hx | hx := List.mem_append.1 hx
    · exact h.hidden x hx hid
    · rw [List.mem_singleton.1 hx, ← hr] at hid
      cases hid
  case clientSinks =>
    rw [sinks]
    intro k hk p hb
    obtain ⟨m, rnom, kk, adapter, hrnom, hkk, serve⟩ := h.clientSinks k hk p hb
    exact ⟨m, rnom, kk, adapter, hrnom, hkk, serves_allocated free pool serve⟩
  case carrierSinks => rw [sinks]; exact h.carrierSinks
  case records =>
    rw [sinks]
    intro m hm
    rw [mem]
    obtain rfl | before := occupied_allocated pool hm
    · exact .inl (.inr (by rw [← hr]; exact ⟨rfl, rfl⟩))
    · exact (h.records m before).imp_left .inl
  case clientIn =>
    intro p x
    rw [mem, ← ht, withSource, e]
    refine (bound_iff (h.clientIn p) (client p).1 (client p).2 (client_free ok p) x).trans (or_congr_right ?_)
    rw [← hr]
    exact ⟨fun ⟨e, hb⟩ => ⟨rfl, e.symm, hb⟩, fun ⟨_, e, hb⟩ => ⟨e.symm, hb⟩⟩
  case clientEgr => rw [egress.1, sinks]; exact h.clientEgr
  case carrierIn =>
    intro p i x
    rw [mem, ← ht, withSource, e]
    refine (bound_iff (h.carrierIn p i) (carrier p i).1 (carrier p i).2 (carrier_free ok p i) x).trans (or_congr_right ?_)
    rw [← hr]
    exact ⟨fun ⟨e, hb⟩ => ⟨rfl, e.symm, hb⟩, fun ⟨_, e, hb⟩ => ⟨e.symm, hb⟩⟩
  case carrierEgr => rw [egress.2, sinks]; exact h.carrierEgr

/-- The adapter of an admitted sink order and the pool with it: none for a carrier sink. -/
theorem allocate_sink {q : SinkRequest} (ok : Admissible .sink q.tag q.cls b s.store) :
    (∃ p first, b = .carrier p first ∧
        allocate (adapterKind .sink b) q.tag q.cls (clampRnom q.cls q.rnom) (clampK q.k) s.store = (s.store, none)) ∨
      ∃ p n, b = .client p ∧ s.store.pool[n] = none ∧ (∀ m : Fin 96, m < n → s.store.pool[m] ≠ none) ∧
        allocate (adapterKind .sink b) q.tag q.cls (clampRnom q.cls q.rnom) (clampK q.k) s.store =
          ({ s.store with
              pool := s.store.pool.set n (some (newAdapter .clientSink q.tag q.cls (clampRnom q.cls q.rnom) (clampK q.k)))
              freeStore := s.store.freeStore - Config.storePerClass * q.cls }, some n) := by
  obtain ⟨none, e⟩ | ⟨kind, n, hkind, free, lowest, -, e⟩ :=
    allocate_of_admissible ok (clampRnom q.cls q.rnom) (clampK q.k)
  · cases b with
    | client p => cases none
    | carrier p first => exact .inl ⟨p, first, rfl, e⟩
  · cases b with
    | client p =>
      cases hkind
      exact .inr ⟨p, n, rfl, free, lowest, e⟩
    | carrier p first => cases hkind

/-- What an admission of a sink makes of the store but for pool and free store memory. -/
theorem withSink_fields {q : SinkRequest} {st : OrderStore} {n : Option (Fin 96)}
    (e : allocate (adapterKind .sink b) q.tag q.cls (clampRnom q.cls q.rnom) (clampK q.k) s.store = (st, n)) :
    (withSink q b s.store).sources = st.sources ∧ (withSink q b s.store).sinks = st.sinks ++ [newSink q b n] ∧
      (withSink q b s.store).pool = st.pool ∧ (withSink q b s.store).clientIn = st.clientIn ∧
      (withSink q b s.store).carrierIn = st.carrierIn ∧
      (withSink q b s.store).clientEgr = clientMap .sink (bindPositions .sink b q.cls (some q.tag) st) ∧
      (withSink q b s.store).carrierEgr = carrierMap .sink (bindPositions .sink b q.cls (some q.tag) st) := by
  rw [withSink, e]
  obtain ⟨sources, sinks, -⟩ := bindPositions_leaves (b := b) (cls := q.cls) (st := st) .sink (some q.tag)
  obtain ⟨clientIn, carrierIn⟩ := bindPositions_sink_maps (b := b) (cls := q.cls) (st := st) (some q.tag)
  exact ⟨sources, congrArg (· ++ _) sinks, (bindPositions_pool _ _ _ _ _).1, clientIn, carrierIn, rfl, rfl⟩

theorem ownerLaw_withSink {q : SinkRequest} (h : OwnerLaw s) (ok : Admissible .sink q.tag q.cls b s.store) :
    OwnerLaw { s with store := withSink q b s.store } := by
  have fresh : ∀ x ∈ s.store.sinks, x.tag ≠ q.tag := by
    simpa [holdsTag] using ok.fresh
  obtain ⟨st, n, e, maps, tables, sinkMaps, serve, occupied, mine⟩ : ∃ st n,
      allocate (adapterKind .sink b) q.tag q.cls (clampRnom q.cls q.rnom) (clampK q.k) s.store = (st, n) ∧
      (st.clientIn = s.store.clientIn ∧ st.carrierIn = s.store.carrierIn) ∧
      (st.sources = s.store.sources ∧ st.sinks = s.store.sinks) ∧
      (clientMap .sink st = clientMap .sink s.store ∧ carrierMap .sink st = carrierMap .sink s.store) ∧
      (∀ {m kind tag cls rnom k}, Serves s m kind tag cls rnom k → Serves { s with store := st } m kind tag cls rnom k) ∧
      (∀ m : Fin 96, st.pool[m] ≠ none → n = some m ∨ s.store.pool[m] ≠ none) ∧
      ((∃ p first, b = .carrier p first ∧ n = none) ∨ (∃ p m, b = .client p ∧ n = some m ∧
        Serves { s with store := st } m .clientSink q.tag q.cls (clampRnom q.cls q.rnom) (clampK q.k))) := by
    obtain ⟨p, first, hb, e⟩ | ⟨p, n, hb, free, -, e⟩ := allocate_sink ok
    · exact ⟨_, _, e, ⟨rfl, rfl⟩, ⟨rfl, rfl⟩, ⟨rfl, rfl⟩, id, fun _ => .inr, .inl ⟨p, first, hb, rfl⟩⟩
    · refine ⟨_, _, e, ⟨rfl, rfl⟩, ⟨rfl, rfl⟩, ⟨rfl, rfl⟩, serves_allocated free rfl, fun m hm => ?_,
        .inr ⟨p, n, hb, rfl, _, Vector.getElem_set_self _, rfl, rfl, rfl, rfl, rfl⟩⟩
      exact (occupied_allocated (t := { s with store := _ }) rfl hm).imp_left fun same => by rw [same]
  obtain ⟨hsources, hsinks, hpool, hclientIn, hcarrierIn, hclientEgr, hcarrierEgr⟩ := withSink_fields e
  have client := fun p => bindPositions_client (b := b) (cls := q.cls) (st := st) .sink (some q.tag) p
  have carrier := fun p i => bindPositions_carrier (b := b) (cls := q.cls) (st := st) .sink (some q.tag) p i
  have mem : ∀ p : Sink → Prop, (∃ x ∈ (withSink q b s.store).sinks, p x) ↔
      (∃ x ∈ s.store.sinks, p x) ∨ p (newSink q b n) := by
    intro p
    simp only [hsinks, tables.2, List.mem_append, List.mem_singleton, or_and_right, exists_or, exists_eq_left]
  have serves : ∀ {m kind tag cls rnom k}, Serves { s with store := st } m kind tag cls rnom k →
      Serves { s with store := withSink q b s.store } m kind tag cls rnom k := fun h =>
    serves_of_pool h (congrArg (·[_]) hpool)
  constructor
  case sourceTags => rw [hsources, tables.1]; exact h.sourceTags
  case sinkTags =>
    rw [hsinks, tables.2, List.map_append, List.map_singleton, ← List.concat_eq_append, List.nodup_concat]
    refine ⟨fun held => ?_, h.sinkTags⟩
    obtain ⟨x, hx, same⟩ := List.mem_map.1 held
    exact fresh x hx same
  case sources =>
    rw [hsources, tables.1]
    intro r hr vis
    obtain ⟨m, hm, g⟩ := h.sources r hr vis
    exact ⟨m, hm, serves (serve g)⟩
  case hidden => rw [hsources, tables.1]; exact h.hidden
  case clientSinks =>
    rw [hsinks, tables.2]
    intro k hk p hb
    obtain hk | hk := List.mem_append.1 hk
    · obtain ⟨m, rnom, kk, adapter, hrnom, hkk, g⟩ := h.clientSinks k hk p hb
      exact ⟨m, rnom, kk, adapter, hrnom, hkk, serves (serve g)⟩
    · rw [List.mem_singleton.1 hk] at hb ⊢
      obtain ⟨p', first, rfl, -⟩ | ⟨p', m, rfl, hn, g⟩ := mine
      · cases hb
      · exact ⟨m, _, _, hn, rfl, rfl, serves g⟩
  case carrierSinks =>
    rw [hsinks, tables.2]
    intro k hk p first hb
    obtain hk | hk := List.mem_append.1 hk
    · exact h.carrierSinks k hk p first hb
    · rw [List.mem_singleton.1 hk] at hb ⊢
      obtain ⟨p', first', rfl, hn⟩ | ⟨p', m, rfl, -⟩ := mine
      · exact ⟨hn, rfl, rfl⟩
      · cases hb
  case records =>
    rw [hpool, hsources, tables.1]
    intro m hm
    rw [mem]
    obtain same | before := occupied m hm
    · exact .inr (.inr same)
    · exact (h.records m before).imp_right .inl
  case clientIn => rw [hclientIn, hsources, tables.1, maps.1]; exact h.clientIn
  case clientEgr =>
    intro p x
    rw [mem, hclientEgr]
    refine (bound_iff (h.clientEgr p) (client p).1
      (fun no => ((client p).2 no).trans (congrArg (·[p]) sinkMaps.1)) (client_free ok p) x).trans (or_congr_right ?_)
    exact ⟨fun ⟨e, hb⟩ => ⟨e.symm, hb⟩, fun ⟨e, hb⟩ => ⟨e.symm, hb⟩⟩
  case carrierIn => rw [hcarrierIn, hsources, tables.1, maps.2]; exact h.carrierIn
  case carrierEgr =>
    intro p i x
    rw [mem, hcarrierEgr]
    refine (bound_iff (h.carrierEgr p i) (carrier p i).1
      (fun no => ((carrier p i).2 no).trans (congrArg (·[p][i]) sinkMaps.2)) (carrier_free ok p i) x).trans (or_congr_right ?_)
    exact ⟨fun ⟨e, hb⟩ => ⟨e.symm, hb⟩, fun ⟨e, hb⟩ => ⟨e.symm, hb⟩⟩

end Sys2Proof.Owners
end

section
/-! PROOFS. Removal keeps orders, adapters and binding maps in agreement; with admission and the other writes every step does
(O33). -/

namespace Sys2Proof.Owners

open Sys2Proof.Machine Sys2Proof.Safety Sys2Proof.Walk Sys2Proof.Stores

variable {s t : State} {b : Binding} {cls tag : Nat} {st : OrderStore}

/-! ### Removal -/

/-- What is left of the source table when one order is removed (R16 to R18). -/
theorem retireOrDelete_sources (r : Source) (s : State) :
    ((retireOrDelete r s).store.sources.map (·.tag)).Sublist (s.store.sources.map (·.tag)) ∧
      (∀ x, (x ∈ (retireOrDelete r s).store.sources ∧ x.removed = false) ↔
        x ∈ s.store.sources ∧ x.removed = false ∧ x.tag ≠ r.tag) ∧
      (∀ x ∈ (retireOrDelete r s).store.sources, x.removed = true → x.adapter = none ∨ x ∈ s.store.sources) := by
  have deleted : ∀ q, let t : State := { s with store := { s.store with
        sources := s.store.sources.filter (·.tag ≠ r.tag), queue := q } }
      (t.store.sources.map (·.tag)).Sublist (s.store.sources.map (·.tag)) ∧
      (∀ x, (x ∈ t.store.sources ∧ x.removed = false) ↔ x ∈ s.store.sources ∧ x.removed = false ∧ x.tag ≠ r.tag) ∧
      (∀ x ∈ t.store.sources, x.removed = true → x.adapter = none ∨ x ∈ s.store.sources) := by
    refine fun q => ⟨List.filter_sublist.map _, fun x => ?_, fun x hx _ => .inr (List.mem_of_mem_filter hx)⟩
    simp only [List.mem_filter, decide_eq_true_eq]
    tauto
  have retired : let t := updateSource r.tag Source.retired s
      (t.store.sources.map (·.tag)).Sublist (s.store.sources.map (·.tag)) ∧
      (∀ x, (x ∈ t.store.sources ∧ x.removed = false) ↔ x ∈ s.store.sources ∧ x.removed = false ∧ x.tag ≠ r.tag) ∧
      (∀ x ∈ t.store.sources, x.removed = true → x.adapter = none ∨ x ∈ s.store.sources) := by
    refine ⟨by rw [updateSource_tags r.tag Source.retired (fun _ => rfl)], fun x => ⟨?_, ?_⟩, fun x hx _ => ?_⟩
    · rintro ⟨hx, vis⟩
      obtain ⟨e, he, rfl⟩ := List.mem_map.1 hx
      split at vis
      · cases vis
      · rename_i other
        rw [if_neg other]
        exact ⟨he, vis, other⟩
    · rintro ⟨hx, vis, other⟩
      exact ⟨List.mem_map.2 ⟨x, hx, if_neg other⟩, vis⟩
    · obtain ⟨e, he, rfl⟩ := List.mem_map.1 hx
      split
      · exact .inl rfl
      · exact .inr he
  unfold retireOrDelete
  split
  · exact deleted _
  · exact deleted _
  · exact retired
  · exact retired

theorem retireOrDelete_store (r : Source) (s : State) : (retireOrDelete r s).store = { s.store with
    sources := (retireOrDelete r s).store.sources, queue := (retireOrDelete r s).store.queue } := by
  unfold retireOrDelete
  split <;> rfl

/-- The pool after the adapter of a removed order is freed. -/
theorem freedStore_pool {d : Direction} {n : Fin 96} {a : Adapter} (ha : st.pool[n] = some a) :
    (freedStore d b cls (some n) st).pool = st.pool.set n none ∧
      freedStore d b cls (some n) st = { bindPositions d b cls none st with
        pool := st.pool.set n none, freeStore := st.freeStore + Config.storePerClass * a.cls } := by
  obtain ⟨pool, free⟩ := bindPositions_pool d b cls none st
  have e : freedStore d b cls (some n) st = { bindPositions d b cls none st with
      pool := st.pool.set n none, freeStore := st.freeStore + Config.storePerClass * a.cls } := by
    unfold freedStore freeAdapter freeRecordOf
    simp only [pool, free, ha]
  exact ⟨by rw [e], e⟩

/-- A removal frees positions and an adapter before it touches the tables. -/
theorem freedStore_tables (d : Direction) (n : Option (Fin 96)) :
    (freedStore d b cls n st).sources = st.sources ∧ (freedStore d b cls n st).sinks = st.sinks := by
  obtain ⟨sources, sinks, -⟩ := bindPositions_leaves (b := b) (cls := cls) (st := st) d none
  unfold freedStore freeAdapter
  split
  · exact ⟨sources, sinks⟩
  · rw [freeRecordOf_eq]
    exact ⟨sources, sinks⟩

/-- A pool with a record freed that serves another order. -/
theorem serves_freed {n m : Fin 96} {kind kind' : AdapterKind} {tag' cls' rnom k rnom' k' : Nat}
    (e : t.store.pool = s.store.pool.set n none) (gone : Serves s n kind tag cls rnom k)
    (h : Serves s m kind' tag' cls' rnom' k') (other : kind' ≠ kind ∨ tag' ≠ tag) : Serves t m kind' tag' cls' rnom' k' := by
  refine serves_of_pool h ?_
  rw [e]
  refine SourceChoice.getElem_set_ne _ _ fun same => ?_
  subst same
  obtain ⟨hkind, htag⟩ := serves_same h gone
  exact other.elim (· hkind) (· htag)

theorem ownerLaw_removeSource {r : Source} (h : OwnerLaw s) (hv : visibleSource s.store tag = some r) :
    OwnerLaw (removeSource r s) := by
  obtain ⟨hr, -, vis⟩ := visibleSource_some hv
  obtain ⟨n, hn, gone⟩ := h.sources r hr vis
  obtain ⟨a, ha, -⟩ := id gone
  have only : ∀ x ∈ s.store.sources, x.tag = r.tag → x = r := fun x hx same =>
    List.inj_on_of_nodup_map h.sourceTags hx hr same
  obtain ⟨hpool, freed⟩ := freedStore_pool (d := .source) (b := r.binding) (cls := r.cls) ha
  have client := fun p => bindPositions_client (b := r.binding) (cls := r.cls) (st := s.store) .source none p
  have carrier := fun p i => bindPositions_carrier (b := r.binding) (cls := r.cls) (st := s.store) .source none p i
  obtain ⟨egrClient, egrCarrier⟩ := bindPositions_source_maps (b := r.binding) (cls := r.cls) (st := s.store) none
  obtain ⟨hsources, hsinks, -⟩ := bindPositions_leaves (b := r.binding) (cls := r.cls) (st := s.store) .source none
  generalize hu : ({ s with
    store := freedStore .source r.binding r.cls r.adapter s.store, report := dropItem .source r.tag s.report } : State) = u
  have ht : removeSource r s = retireOrDelete r u := by rw [← hu]; rfl
  have ustore : u.store = _ := (congrArg State.store hu).symm.trans ((congrArg (freedStore _ _ _ · _) hn).trans freed)
  have usources : u.store.sources = s.store.sources := by rw [ustore]; exact hsources
  obtain ⟨tags, visible, hidden⟩ := retireOrDelete_sources r u
  have tstore := retireOrDelete_store r u
  rw [← ht] at tags visible hidden tstore
  rw [usources] at tags visible hidden
  have pool : (removeSource r s).store.pool = s.store.pool.set n none := by rw [tstore, ustore]
  have sinks : (removeSource r s).store.sinks = s.store.sinks := by rw [tstore, ustore]; exact hsinks
  have inClient : (removeSource r s).store.clientIn =
      clientMap .source (bindPositions .source r.binding r.cls none s.store) := by rw [tstore, ustore]; rfl
  have inCarrier : (removeSource r s).store.carrierIn =
      carrierMap .source (bindPositions .source r.binding r.cls none s.store) := by rw [tstore, ustore]; rfl
  have stay : ∀ p : Source → Prop, (∃ x ∈ (removeSource r s).store.sources, x.removed = false ∧ p x) ↔
      ∃ x ∈ s.store.sources, x.removed = false ∧ x.tag ≠ r.tag ∧ p x := by
    intro p
    constructor
    · rintro ⟨x, hx, vis, hp⟩
      obtain ⟨hx, vis, other⟩ := (visible x).1 ⟨hx, vis⟩
      exact ⟨x, hx, vis, other, hp⟩
    · rintro ⟨x, hx, vis, other, hp⟩
      obtain ⟨hx, vis⟩ := (visible x).2 ⟨hx, vis, other⟩
      exact ⟨x, hx, vis, hp⟩
  have named : ∀ p : Source → Prop, (∃ x ∈ s.store.sources, x.removed = false ∧ x.tag = r.tag ∧ p x) ↔ p r := by
    intro p
    constructor
    · rintro ⟨x, hx, -, same, hp⟩
      exact only x hx same ▸ hp
    · exact fun hp => ⟨r, hr, vis, rfl, hp⟩
  have others : ∀ (p : Source → Prop) (x : Nat),
      ((∃ e ∈ s.store.sources, e.removed = false ∧ e.tag = x ∧ p e) ∧ x ≠ r.tag) ↔
        ∃ e ∈ (removeSource r s).store.sources, e.removed = false ∧ e.tag = x ∧ p e := by
    intro p x
    rw [stay]
    constructor
    · rintro ⟨⟨e, he, vis, rfl, hp⟩, other⟩
      exact ⟨e, he, vis, other, rfl, hp⟩
    · rintro ⟨e, he, vis, other, rfl, hp⟩
      exact ⟨⟨e, he, vis, rfl, hp⟩, other⟩
  constructor
  case sourceTags => exact h.sourceTags.sublist tags
  case sinkTags => rw [sinks]; exact h.sinkTags
  case sources =>
    intro x hx vis
    obtain ⟨hx, vis, other⟩ := (visible x).1 ⟨hx, vis⟩
    obtain ⟨m, hm, serve⟩ := h.sources x hx vis
    exact ⟨m, hm, serves_freed pool gone serve (.inr other)⟩
  case hidden =>
    intro x hx hid
    exact (hidden x hx hid).elim id fun hx => h.hidden x hx hid
  case clientSinks =>
    rw [sinks]
    intro k hk p hb
    obtain ⟨m, rnom, kk, adapter, hrnom, hkk, serve⟩ := h.clientSinks k hk p hb
    exact ⟨m, rnom, kk, adapter, hrnom, hkk, serves_freed pool gone serve (.inl (sourceKind_ne_clientSink _).symm)⟩
  case carrierSinks => rw [sinks]; exact h.carrierSinks
  case records =>
    rw [sinks]
    intro m hm
    obtain rfl | before := occupied_allocated pool hm
    · rw [pool] at hm
      exact absurd (Vector.getElem_set_self _) hm
    · refine (h.records m before).imp_left ?_
      rintro ⟨x, hx, hvis, hxm⟩
      refine (stay _).2 ⟨x, hx, hvis, fun same => ?_, hxm⟩
      obtain rfl := only x hx same
      obtain rfl : n = m := Option.some.inj (hn.symm.trans hxm)
      rw [pool] at hm
      exact hm (Vector.getElem_set_self _)
  case clientIn =>
    intro p x
    rw [inClient]
    exact (freed_iff (h.clientIn p) (client p).1 (client p).2 (named _) x).trans (others _ x)
  case clientEgr =>
    rw [sinks, tstore, ustore]
    exact egrClient ▸ h.clientEgr
  case carrierIn =>
    intro p i x
    rw [inCarrier]
    exact (freed_iff (h.carrierIn p i) (carrier p i).1 (carrier p i).2 (named _) x).trans (others _ x)
  case carrierEgr =>
    rw [sinks, tstore, ustore]
    exact egrCarrier ▸ h.carrierEgr

theorem ownerLaw_removeSink {k : Sink} (h : OwnerLaw s) (hf : findSink s.store tag = some k) :
    OwnerLaw (removeSink k s) := by
  obtain ⟨hk, -⟩ := findSink_some hf
  have only : ∀ x ∈ s.store.sinks, x.tag = k.tag → x = k := fun x hx same =>
    List.inj_on_of_nodup_map h.sinkTags hx hk same
  have client := fun p => bindPositions_client (b := k.binding) (cls := k.cls) (st := s.store) .sink none p
  have carrier := fun p i => bindPositions_carrier (b := k.binding) (cls := k.cls) (st := s.store) .sink none p i
  obtain ⟨inClient, inCarrier⟩ := bindPositions_sink_maps (b := k.binding) (cls := k.cls) (st := s.store) none
  obtain ⟨hsources, hsinks, -⟩ := bindPositions_leaves (b := k.binding) (cls := k.cls) (st := s.store) .sink none
  have filtered : (removeSink k s).store.sinks = s.store.sinks.filter (·.tag ≠ k.tag) :=
    congrArg (List.filter _) (freedStore_tables .sink k.adapter).2
  have others : ∀ (p : Sink → Prop) (x : Nat),
      ((∃ e ∈ s.store.sinks, e.tag = x ∧ p e) ∧ x ≠ k.tag) ↔
        ∃ e ∈ (removeSink k s).store.sinks, e.tag = x ∧ p e := by
    intro p x
    have left : ∀ e, e ∈ (removeSink k s).store.sinks ↔ e ∈ s.store.sinks ∧ e.tag ≠ k.tag := fun e => by
      rw [filtered, List.mem_filter, decide_eq_true_eq]
    simp only [left]
    constructor
    · rintro ⟨⟨e, he, rfl, hp⟩, other⟩
      exact ⟨e, ⟨he, other⟩, rfl, hp⟩
    · rintro ⟨e, ⟨he, other⟩, rfl, hp⟩
      exact ⟨⟨e, he, rfl, hp⟩, other⟩
  have named : ∀ p : Sink → Prop, (∃ x ∈ s.store.sinks, x.tag = k.tag ∧ p x) ↔ p k := by
    intro p
    constructor
    · rintro ⟨x, hx, same, hp⟩
      exact only x hx same ▸ hp
    · exact fun hp => ⟨k, hk, rfl, hp⟩
  obtain ⟨pool, free, e, serve, occupied⟩ : ∃ pool free,
      freedStore .sink k.binding k.cls k.adapter s.store =
        { bindPositions .sink k.binding k.cls none s.store with pool := pool, freeStore := free } ∧
      (∀ {t : State} {m kind tag cls rnom kk}, t.store.pool = pool → Serves s m kind tag cls rnom kk →
        (kind ≠ .clientSink ∨ tag ≠ k.tag) → Serves t m kind tag cls rnom kk) ∧
      (∀ m : Fin 96, pool[m] ≠ none → s.store.pool[m] ≠ none ∧ k.adapter ≠ some m) := by
    cases hb : k.binding with
    | client p =>
      obtain ⟨n, rnom, kk, hn, -, -, gone⟩ := h.clientSinks k hk p hb
      obtain ⟨a, ha, -⟩ := id gone
      rw [hn]
      refine ⟨_, _, (freedStore_pool ha).2, fun e g other => serves_freed e gone g other, fun m hm => ?_⟩
      obtain rfl | before := occupied_allocated (t := { s with store := { s.store with pool := _ } }) rfl hm
      · exact absurd (Vector.getElem_set_self _) hm
      · refine ⟨before, fun same => ?_⟩
        cases same
        exact hm (Vector.getElem_set_self _)
    | carrier p first =>
      obtain ⟨hn, -⟩ := h.carrierSinks k hk p first hb
      rw [hn]
      refine ⟨s.store.pool, s.store.freeStore, ?_, fun e g _ => serves_of_pool g (by rw [e]), fun m hm => ⟨hm, nofun⟩⟩
      obtain ⟨hpool, hfree⟩ := bindPositions_pool .sink (.carrier p first) k.cls none s.store
      unfold freedStore freeAdapter
      rw [← hpool, ← hfree]
  have tstore : (removeSink k s).store = { freedStore .sink k.binding k.cls k.adapter s.store with
      sinks := (removeSink k s).store.sinks } := rfl
  rw [e] at tstore
  have hpool : (removeSink k s).store.pool = pool := by rw [tstore]
  have sources : (removeSink k s).store.sources = s.store.sources := by rw [tstore]; exact hsources
  have egrClient : (removeSink k s).store.clientEgr =
      clientMap .sink (bindPositions .sink k.binding k.cls none s.store) := by rw [tstore]; rfl
  have egrCarrier : (removeSink k s).store.carrierEgr =
      carrierMap .sink (bindPositions .sink k.binding k.cls none s.store) := by rw [tstore]; rfl
  have sub : ∀ x ∈ (removeSink k s).store.sinks, x ∈ s.store.sinks ∧ x.tag ≠ k.tag := by
    intro x hx
    obtain ⟨⟨e, he, -, rfl⟩, other⟩ := (others (x = ·) x.tag).2 ⟨x, hx, rfl, rfl⟩
    exact ⟨he, other⟩
  constructor
  case sourceTags => rw [sources]; exact h.sourceTags
  case sinkTags =>
    refine h.sinkTags.sublist ?_
    rw [filtered]
    exact List.filter_sublist.map _
  case sources =>
    rw [sources]
    intro x hx vis
    obtain ⟨m, hm, g⟩ := h.sources x hx vis
    exact ⟨m, hm, serve hpool g (.inl (sourceKind_ne_clientSink _))⟩
  case hidden => rw [sources]; exact h.hidden
  case clientSinks =>
    intro x hx p hb
    obtain ⟨hx, other⟩ := sub x hx
    obtain ⟨m, rnom, kk, adapter, hrnom, hkk, g⟩ := h.clientSinks x hx p hb
    exact ⟨m, rnom, kk, adapter, hrnom, hkk, serve hpool g (.inr other)⟩
  case carrierSinks =>
    intro x hx
    exact h.carrierSinks x (sub x hx).1
  case records =>
    rw [sources, hpool]
    intro m hm
    obtain ⟨before, mine⟩ := occupied m hm
    refine (h.records m before).imp_right ?_
    rintro ⟨x, hx, adapter⟩
    obtain ⟨y, hy, -, hp⟩ := (others (·.adapter = some m) x.tag).1
      ⟨⟨x, hx, rfl, adapter⟩, fun same => mine (only x hx same ▸ adapter)⟩
    exact ⟨y, hy, hp⟩
  case clientIn => rw [sources, tstore]; exact inClient ▸ h.clientIn
  case clientEgr =>
    intro p x
    rw [egrClient]
    exact (freed_iff (h.clientEgr p) (client p).1 (client p).2 (named _) x).trans (others _ x)
  case carrierIn => rw [sources, tstore]; exact inCarrier ▸ h.carrierIn
  case carrierEgr =>
    intro p i x
    rw [egrCarrier]
    exact (freed_iff (h.carrierEgr p i) (carrier p i).1 (carrier p i).2 (named _) x).trans (others _ x)

/-! ### Every step -/

theorem kept_ownerLaw : Kept OwnerLaw where
  alike h a := ownerLaw_of_store h a.store
  store := {
    evalSource := fun tag s h => ownerLaw_of_tended h (evalSource_tended tag s)
    sources := fun hf s h => ownerLaw_of_tended h (.of_map (marksSource_idOf hf) rfl)
    sinks := fun hf s h => ownerLaw_mapSinks h hf
    record := fun ha hs h => ownerLaw_setAdapter h ha (sameRecord_of_step hs)
    pass := fun h => ownerLaw_of_tended h (placementPass_tended h.sourceTags)
    empty := fun _ => ownerLaw_empty rfl
    admitSource := fun {q b action standing s} _ ok h => by
      refine ownerLaw_of_store ?_ (Placement.createSourceItem_store _ _)
      exact ownerLaw_of_tended (ownerLaw_withSource h (refusal_eq_none_iff.1 ok)) (evalSource_tended q.tag _)
    admitSink := fun {q b s} _ ok h => by
      refine ownerLaw_of_store ?_ (Placement.createSinkItem_store _ _)
      exact ownerLaw_mapSinks (s := { s with store := withSink q b s.store }) (ownerLaw_withSink h (refusal_eq_none_iff.1 ok))
        ((marksSink_evaluate { s with store := withSink q b s.store } true).update q.tag)
    removeSource := fun hv h => ownerLaw_removeSource h hv
    removeSink := fun hf h => ownerLaw_removeSink h hf }
  view := .of_view fun e _ _ h => ownerLaw_of_store h e
  ports := .of_ports fun e _ _ h => ownerLaw_of_store h e

/-! ### The sink table -/

theorem sinkTable_congr (h : SinkTable s) (e : t.store.sinks = s.store.sinks) : SinkTable t :=
  ⟨by rw [e]; exact h.tags, by rw [e]; exact h.range⟩

theorem sinkTable_mapSinks (h : SinkTable s) {f : Sink → Sink} (hf : MarksSink f) : SinkTable (mapSinks f s) := by
  refine ⟨?_, fun k' hk' => ?_⟩
  · have tags : (s.store.sinks.map f).map (·.tag) = s.store.sinks.map (·.tag) := by
      rw [List.map_map]
      exact List.map_congr_left fun k _ => (hf k).tag
    exact tags ▸ h.tags
  · obtain ⟨k, hk, rfl⟩ := List.mem_map.1 hk'
    rw [(hf k).tag, (hf k).cls]
    exact h.range k hk

/-- An allocation leaves the order tables. -/
theorem allocate_sinks (kind : Option AdapterKind) (tag cls rnom k : Nat) (st : OrderStore) :
    (allocate kind tag cls rnom k st).1.sinks = st.sinks := by
  unfold allocate
  split <;> rfl

theorem sinkTable_withSink {q : SinkRequest} (h : SinkTable s) (ok : Admissible .sink q.tag q.cls b s.store) :
    SinkTable { s with store := withSink q b s.store } := by
  obtain ⟨st, n, e⟩ : ∃ st n, allocate (adapterKind .sink b) q.tag q.cls (clampRnom q.cls q.rnom) (clampK q.k) s.store =
      (st, n) := ⟨_, _, rfl⟩
  obtain ⟨-, hsinks, -⟩ := withSink_fields e
  have fresh : ∀ x ∈ s.store.sinks, x.tag ≠ q.tag := by
    simpa [holdsTag] using ok.fresh
  have tables := allocate_sinks (adapterKind .sink b) q.tag q.cls (clampRnom q.cls q.rnom) (clampK q.k) s.store
  rw [e] at tables
  rw [tables] at hsinks
  refine ⟨?_, ?_⟩
  · rw [hsinks, List.map_append, List.map_singleton, ← List.concat_eq_append, List.nodup_concat]
    refine ⟨fun held => ?_, h.tags⟩
    obtain ⟨x, hx, same⟩ := List.mem_map.1 held
    exact fresh x hx same
  · rw [hsinks]
    intro k hk
    obtain hk | hk := List.mem_append.1 hk
    · exact h.range k hk
    · rw [List.mem_singleton.1 hk]
      exact ⟨ok.tagged, ok.classed⟩

theorem kept_sinkTable : Kept SinkTable where
  alike h a := sinkTable_congr h (by rw [a.store])
  store := {
    evalSource := fun tag s h => sinkTable_congr h (evalSource_tended tag s).sinks
    sources := fun _ s h => sinkTable_congr h rfl
    sinks := fun hf _ h => sinkTable_mapSinks h hf
    record := fun _ _ h => sinkTable_congr h rfl
    pass := fun h => sinkTable_congr h (placementPass_adapters _).sinks
    empty := fun _ => ⟨List.nodup_nil, fun k hk => absurd hk List.not_mem_nil⟩
    admitSource := fun {q b action standing s} _ _ h => by
      have admitted := (evalSource_tended q.tag { s with store := withSource q b action standing s.store }).sinks
      refine sinkTable_congr h ((congrArg OrderStore.sinks (Placement.createSourceItem_store _ _)).trans (admitted.trans ?_))
      exact (bindPositions_leaves .source (some q.tag)).2.1.trans (allocate_sinks _ _ _ _ _ _)
    admitSink := fun {q b s} _ ok h => sinkTable_congr
      (sinkTable_mapSinks (sinkTable_withSink h (refusal_eq_none_iff.1 ok))
        ((marksSink_evaluate { s with store := withSink q b s.store } true).update q.tag))
      (congrArg OrderStore.sinks (Placement.createSinkItem_store _ _))
    removeSource := fun {r _ s} _ h => by
      refine sinkTable_congr h ?_
      rw [show (removeSource r s).store.sinks = _ from congrArg OrderStore.sinks (retireOrDelete_store r _)]
      exact (freedStore_tables .source r.adapter).2
    removeSink := fun {k _ s} _ h => by
      have filtered : (removeSink k s).store.sinks = s.store.sinks.filter (·.tag ≠ k.tag) :=
        congrArg (List.filter _) (freedStore_tables .sink k.adapter).2
      exact ⟨by rw [filtered]; exact h.tags.sublist (List.filter_sublist.map _),
        fun x hx => h.range x (List.mem_of_mem_filter (filtered ▸ hx))⟩ }
  view := .of_view fun e _ _ h => sinkTable_congr h (by rw [e])
  ports := .of_ports fun e _ _ h => sinkTable_congr h (by rw [e])

/-- Settles O33. -/
theorem everyStepKeepsTheOwnerLaw : Obligations.EveryStepKeepsTheOwnerLaw :=
  ⟨fun _ _ h hstep => kept_ownerLaw.step (fun _ _ h => ownerLaw_of_store h rfl) h hstep,
    fun _ _ h hstep => kept_sinkTable.step (fun _ _ h => sinkTable_congr h rfl) h hstep⟩

end Sys2Proof.Owners
end

section
/-! PROOFS. The placement queue (R67, O45): an append that keeps the order of priority and entry number, the renumbering, and the
walk through the writes of the order store. -/

namespace Sys2Proof.Queue

open Sys2Proof.Machine Sys2Proof.Safety Sys2Proof.Walk Sys2Proof.Stores Sys2Proof.Placement

variable {s t : State} {r : Source} {tag : Nat}

/-! ### Lists in order of priority and number -/

/-- `x` comes before `y` by priority and number. -/
def Ahead (pr num : Nat → Nat) (x y : Nat) : Prop := pr y < pr x ∨ (pr y = pr x ∧ num x < num y)

/-- An entry of the highest number is appended behind those of its priority. -/
theorem ahead_insert {pr num : Nat → Nat} {l : List Nat} (h : l.Pairwise (Ahead pr num)) (last : ∀ x ∈ l, num x < num tag) :
    (l.filter (fun x => pr tag ≤ pr x) ++ tag :: l.filter (fun x => pr x < pr tag)).Pairwise (Ahead pr num) := by
  refine List.pairwise_append.2 ⟨h.filter _, List.pairwise_cons.2 ⟨fun y hy => ?_, h.filter _⟩, fun x hx y hy => ?_⟩
  · exact .inl (by simpa using (List.mem_filter.1 hy).2)
  · obtain ⟨hx, high⟩ := List.mem_filter.1 hx
    have high : pr tag ≤ pr x := by simpa using high
    obtain same | hy := List.mem_cons.1 hy
    · rw [same]
      obtain lt | eq := Nat.lt_or_eq_of_le high
      · exact .inl lt
      · exact .inr ⟨eq, last x hx⟩
    · have low : pr y < pr tag := by simpa using (List.mem_filter.1 hy).2
      exact .inl (low.trans_le high)

/-- A list in order of priority falls into its part at or above a priority and its part below. -/
theorem filter_append_filter {pr num : Nat → Nat} {l : List Nat} (h : l.Pairwise (Ahead pr num)) (p : Nat) :
    l.filter (fun x => p ≤ pr x) ++ l.filter (fun x => pr x < p) = l := by
  induction l with
  | nil => rfl
  | cons x l ih =>
    obtain ⟨first, h⟩ := List.pairwise_cons.1 h
    by_cases high : p ≤ pr x
    · rw [List.filter_cons_of_pos (by simpa using high), List.filter_cons_of_neg (by simpa using high), List.cons_append,
        ih h]
    · have low : ∀ y ∈ x :: l, pr y < p := by
        intro y hy
        obtain rfl | hy := List.mem_cons.1 hy
        · exact Nat.not_le.1 high
        · have := first y hy
          unfold Ahead at this
          omega
      rw [List.filter_eq_nil_iff.2 fun y hy => by simpa using low y hy,
        List.filter_eq_self.2 fun y hy => by simpa using low y hy, List.nil_append]

/-- The places of a list without repetition rise. -/
theorem idxOf_pairwise {l : List Nat} (h : l.Nodup) : l.Pairwise fun x y => l.idxOf x < l.idxOf y := by
  rw [List.pairwise_iff_getElem]
  intro i j hi hj lt
  rwa [h.idxOf_getElem i hi, h.idxOf_getElem j hj]

/-! ### The queue by tags -/

/-- The entry number that the table holds of a tag. -/
def numberOf (st : OrderStore) (tag : Nat) : Nat := ((st.sources.find? (·.tag = tag)).bind (·.entryNo)).getD 0

theorem find?_tag {l : List Source} (tags : (l.map (·.tag)).Nodup) (hr : r ∈ l) : l.find? (·.tag = r.tag) = some r := by
  obtain ⟨e, he⟩ := Option.isSome_iff_exists.1 (List.find?_isSome.2 ⟨r, hr, by simp⟩ : (l.find? (·.tag = r.tag)).isSome)
  rw [he, List.inj_on_of_nodup_map tags (List.mem_of_find?_eq_some he) hr (by simpa using List.find?_some he)]

theorem priorityOf_of_mem {st : OrderStore} (tags : (st.sources.map (·.tag)).Nodup) (hr : r ∈ st.sources) :
    priorityOf st r.tag = r.priority := by
  unfold priorityOf
  rw [find?_tag tags hr]

theorem numberOf_of_mem {st : OrderStore} (tags : (st.sources.map (·.tag)).Nodup) (hr : r ∈ st.sources) :
    numberOf st r.tag = r.entryNo.getD 0 := by
  unfold numberOf
  rw [find?_tag tags hr]
  rfl

/-- What the law of the queue takes from the first law: the tags are unique and the queue names the QUEUED orders. -/
structure QueueTable (s : State) : Prop where
  tags : (s.store.sources.map (·.tag)).Nodup
  queue : s.store.queue.Nodup
  queued : ∀ tag, tag ∈ s.store.queue ↔ ∃ r ∈ s.store.sources, r.tag = tag ∧ r.state = .queued

theorem queueTable_of_tileLaw (h : TileLaw s) : QueueTable s := ⟨h.tags, h.queue, h.queued⟩

/-- The law of the queue with priority and number read by tag. -/
structure TagLaw (s : State) : Prop where
  ordered : s.store.queue.Pairwise (Ahead (priorityOf s.store) (numberOf s.store))
  numbered : ∀ r ∈ s.store.sources, r.state = .queued → ∃ n, r.entryNo = some n ∧ n < s.store.queueCounter

theorem queueLaw_iff (tile : QueueTable s) : QueueLaw s ↔ TagLaw s := by
  constructor
  · intro h
    refine ⟨h.ordered.imp_of_mem fun {x y} hx hy before => ?_, h.numbered⟩
    obtain ⟨r, hr, rfl, -⟩ := (tile.queued x).1 hx
    obtain ⟨q, hq, rfl, -⟩ := (tile.queued y).1 hy
    obtain ⟨m, n, hm, hn, lt⟩ := before r hr q hq rfl rfl
    unfold Ahead
    rw [priorityOf_of_mem tile.tags hr, priorityOf_of_mem tile.tags hq, numberOf_of_mem tile.tags hr,
      numberOf_of_mem tile.tags hq, hm, hn]
    exact lt
  · intro h
    refine ⟨h.ordered.imp_of_mem fun {x y} hx hy before r hr q hq hrx hqy => ?_, h.numbered⟩
    have queued : ∀ {e : Source} {x}, e ∈ s.store.sources → e.tag = x → x ∈ s.store.queue → e.state = .queued := by
      intro e x he hex hx
      obtain ⟨e', he', same, st⟩ := (tile.queued x).1 hx
      rwa [List.inj_on_of_nodup_map tile.tags he he' (hex.trans same.symm)]
    obtain ⟨m, hm, -⟩ := h.numbered r hr (queued hr hrx hx)
    obtain ⟨n, hn, -⟩ := h.numbered q hq (queued hq hqy hy)
    subst hrx hqy
    unfold Ahead at before
    rw [priorityOf_of_mem tile.tags hr, priorityOf_of_mem tile.tags hq, numberOf_of_mem tile.tags hr,
      numberOf_of_mem tile.tags hq, hm, hn] at before
    exact ⟨m, n, hm, hn, before⟩

/-- Every entry of the queue is numbered below the counter. -/
theorem numberOf_lt (tile : QueueTable s) (h : TagLaw s) {x : Nat} (hx : x ∈ s.store.queue) :
    numberOf s.store x < s.store.queueCounter := by
  obtain ⟨r, hr, rfl, st⟩ := (tile.queued x).1 hx
  obtain ⟨n, hn, lt⟩ := h.numbered r hr st
  rwa [numberOf_of_mem tile.tags hr, hn]

/-! ### An append -/

/-- A source order after it enters the queue. -/
def entered (n : Nat) (r : Source) : Source := { r with state := .queued, entryNo := some n }

/-- The queue with a tag behind the entries of its priority or a higher one, and before the others. -/
def appended (st : OrderStore) (tag p : Nat) : List Nat :=
  st.queue.filter (fun e => p ≤ priorityOf st e) ++ tag :: st.queue.filter (fun e => priorityOf st e < p)

theorem priorityOf_update (st : OrderStore) (tag : Nat) {f : Source → Source} (hf : ∀ r, (f r).tag = r.tag)
    (hp : ∀ r, (f r).priority = r.priority) (x : Nat) :
    priorityOf { st with sources := st.sources.map fun r => if r.tag = tag then f r else r } x = priorityOf st x := by
  unfold priorityOf
  have keeps : ∀ r : Source, (if r.tag = tag then f r else r).tag = r.tag := by
    intro r
    split
    · exact hf r
    · rfl
  simp only [List.find?_map, Function.comp_def, keeps]
  cases st.sources.find? fun r => decide (r.tag = x) with
  | none => rfl
  | some r =>
    simp only [Option.map_some]
    split
    · exact hp r
    · rfl

theorem queueInsert_update {n : Nat} (tags : (s.store.sources.map (·.tag)).Nodup) (hr : r ∈ s.store.sources) :
    queueInsert (updateSource r.tag (entered n) s).store r.tag = appended s.store r.tag r.priority := by
  have same : ∀ x, priorityOf (updateSource r.tag (entered n) s).store x = priorityOf s.store x :=
    priorityOf_update s.store r.tag (f := entered n) (fun _ => rfl) (fun _ => rfl)
  unfold queueInsert appended
  simp only [same, priorityOf_of_mem tags hr]
  rfl

/-- The append alone, without the renumbering. -/
def entering (r : Source) (s : State) : State := { s with store := { s.store with
  sources := s.store.sources.map fun e => if e.tag = r.tag then entered s.store.queueCounter r else e
  queue := appended s.store r.tag r.priority
  queueCounter := s.store.queueCounter + 1 } }

theorem enqueue_eq (tags : (s.store.sources.map (·.tag)).Nodup) (hr : r ∈ s.store.sources) :
    enqueue r.tag s = if s.store.queueCounter = 4294967295 then renumber r.tag (entering r s) else entering r s := by
  have state : ({ updateSource r.tag (entered s.store.queueCounter) s with store :=
      { (updateSource r.tag (entered s.store.queueCounter) s).store with
        queue := queueInsert (updateSource r.tag (entered s.store.queueCounter) s).store r.tag
        queueCounter := s.store.queueCounter + 1 } } : State) = entering r s := by
    rw [queueInsert_update tags hr]
    unfold updateSource entering
    rw [map_tag_eq tags hr (entered s.store.queueCounter)]
  unfold enqueue
  dsimp only
  exact congrArg (fun u => if s.store.queueCounter = 4294967295 then renumber r.tag u else u) state

theorem entering_tags (r : Source) (s : State) :
    (entering r s).store.sources.map (·.tag) = s.store.sources.map (·.tag) := by
  simp only [entering, List.map_map]
  refine List.map_congr_left fun e _ => ?_
  simp only [Function.comp]
  split
  · exact Eq.symm ‹_›
  · rfl

theorem entered_mem (hr : r ∈ s.store.sources) : entered s.store.queueCounter r ∈ (entering r s).store.sources :=
  List.mem_map.2 ⟨r, hr, if_pos rfl⟩

theorem entering_mem {e : Source} (he : e ∈ s.store.sources) (other : e.tag ≠ r.tag) : e ∈ (entering r s).store.sources :=
  List.mem_map.2 ⟨e, he, if_neg other⟩

/-- The entries behind one that is appended were all in the queue. -/
theorem not_queued (tile : QueueTable s) (hr : r ∈ s.store.sources) (hst : r.state = .dormant) : r.tag ∉ s.store.queue := by
  intro hq
  obtain ⟨e, he, same, st⟩ := (tile.queued r.tag).1 hq
  rw [List.inj_on_of_nodup_map tile.tags he hr same, hst] at st
  cases st

theorem entering_priorityOf (tags : (s.store.sources.map (·.tag)).Nodup) (hr : r ∈ s.store.sources) (x : Nat) :
    priorityOf (entering r s).store x = priorityOf s.store x := by
  refine Eq.trans ?_ (priorityOf_update s.store r.tag (f := entered s.store.queueCounter) (fun _ => rfl) (fun _ => rfl) x)
  unfold entering priorityOf
  rw [map_tag_eq tags hr (entered s.store.queueCounter)]

theorem entering_numberOf (tile : QueueTable s) (hr : r ∈ s.store.sources) (hst : r.state = .dormant) {x : Nat}
    (hx : x ∈ s.store.queue) : numberOf (entering r s).store x = numberOf s.store x := by
  obtain ⟨e, he, rfl, -⟩ := (tile.queued x).1 hx
  have other : e.tag ≠ r.tag := fun same => not_queued tile hr hst (same ▸ hx)
  have tags := tile.tags
  rw [← entering_tags r s] at tags
  rw [numberOf_of_mem tags (entering_mem he other), numberOf_of_mem tile.tags he]

theorem entering_number (tile : QueueTable s) (hr : r ∈ s.store.sources) :
    numberOf (entering r s).store r.tag = s.store.queueCounter := by
  have tags := tile.tags
  rw [← entering_tags r s] at tags
  exact numberOf_of_mem tags (entered_mem hr)

theorem appended_ordered {num : Nat → Nat} (tile : QueueTable s) (hr : r ∈ s.store.sources)
    (ordered : s.store.queue.Pairwise (Ahead (priorityOf s.store) num))
    (last : ∀ x ∈ s.store.queue, num x < num r.tag) :
    (appended s.store r.tag r.priority).Pairwise (Ahead (priorityOf s.store) num) := by
  have inserted := ahead_insert ordered last
  rw [priorityOf_of_mem tile.tags hr] at inserted
  exact inserted

theorem entering_tagLaw (tile : QueueTable s) (h : TagLaw s) (hr : r ∈ s.store.sources) (hst : r.state = .dormant) :
    TagLaw (entering r s) := by
  constructor
  · have order : s.store.queue.Pairwise (Ahead (priorityOf s.store) (numberOf (entering r s).store)) := by
      refine h.ordered.imp_of_mem fun {x y} hx hy before => ?_
      unfold Ahead at *
      rwa [entering_numberOf tile hr hst hx, entering_numberOf tile hr hst hy]
    have appended := appended_ordered tile hr order fun x hx => by
      rw [entering_numberOf tile hr hst hx, entering_number tile hr]
      exact numberOf_lt tile h hx
    refine appended.imp fun {x y} before => ?_
    unfold Ahead at *
    rwa [entering_priorityOf tile.tags hr, entering_priorityOf tile.tags hr]
  · intro e he st
    obtain ⟨e', he', rfl⟩ := List.mem_map.1 he
    split
    · exact ⟨_, rfl, Nat.lt_succ_self _⟩
    · rename_i other
      rw [if_neg other] at st
      obtain ⟨n, hn, lt⟩ := h.numbered e' he' st
      exact ⟨n, hn, lt.trans (Nat.lt_succ_self _)⟩

/-! ### The renumbering -/

/-- The order of the renumbering: the queue as it was with the new entry last. -/
theorem renumber_order (tile : QueueTable s) (h : TagLaw s) (hr : r ∈ s.store.sources) (hst : r.state = .dormant) :
    (entering r s).store.queue.filter (· ≠ r.tag) = s.store.queue := by
  have fresh := not_queued tile hr hst
  have stay : ∀ p : Nat → Bool, (s.store.queue.filter p).filter (· ≠ r.tag) = s.store.queue.filter p := fun p =>
    List.filter_eq_self.2 fun x hx => by
      have hx := List.mem_of_mem_filter hx
      simpa using fun e : x = r.tag => fresh (e ▸ hx)
  have cut := filter_append_filter h.ordered r.priority
  simp only [entering, appended, List.filter_append, stay]
  rw [List.filter_cons_of_neg (by simp), stay, cut]

theorem renumbered_mem {e : Source} (he : e ∈ (renumber r.tag (entering r s)).store.sources) :
    ∃ e' ∈ (entering r s).store.sources, e.tag = e'.tag ∧ e.priority = e'.priority ∧ e.state = e'.state ∧
      (e'.tag ∈ (entering r s).store.queue.filter (· ≠ r.tag) ++ [r.tag] →
        e.entryNo = some (((entering r s).store.queue.filter (· ≠ r.tag) ++ [r.tag]).idxOf e'.tag)) := by
  obtain ⟨e', he', rfl⟩ := List.mem_map.1 he
  refine ⟨e', he', ?_⟩
  split
  · exact ⟨rfl, rfl, rfl, fun _ => rfl⟩
  · exact ⟨rfl, rfl, rfl, fun mem => absurd mem ‹_›⟩

/-- The number of an entry after the renumbering is its place. -/
theorem renumbered_number (tile : QueueTable s) (h : TagLaw s) (hr : r ∈ s.store.sources) (hst : r.state = .dormant)
    {e : Source} (he : e ∈ (renumber r.tag (entering r s)).store.sources) (mem : e.tag ∈ s.store.queue ++ [r.tag]) :
    e.entryNo = some ((s.store.queue ++ [r.tag]).idxOf e.tag) := by
  obtain ⟨e', -, tag, -, -, number⟩ := renumbered_mem he
  rw [renumber_order tile h hr hst, ← tag] at number
  exact number mem

/-- A law of the queue follows from the order of its entries' priorities and numbers, record by record. -/
theorem renumbered_queueLaw (tile : QueueTable s) (h : TagLaw s) (hr : r ∈ s.store.sources) (hst : r.state = .dormant) :
    QueueLaw (renumber r.tag (entering r s)) := by
  have fresh := not_queued tile hr hst
  have nodup : (s.store.queue ++ [r.tag]).Nodup := by
    rw [← List.concat_eq_append, List.nodup_concat]
    exact ⟨fresh, tile.queue⟩
  have places : s.store.queue.Pairwise fun x y =>
      (s.store.queue ++ [r.tag]).idxOf x < (s.store.queue ++ [r.tag]).idxOf y :=
    (List.pairwise_append.1 (idxOf_pairwise nodup)).1
  have last : ∀ x ∈ s.store.queue, (s.store.queue ++ [r.tag]).idxOf x < (s.store.queue ++ [r.tag]).idxOf r.tag :=
    fun x hx => (List.pairwise_append.1 (idxOf_pairwise nodup)).2.2 x hx r.tag (List.mem_singleton.2 rfl)
  have order : s.store.queue.Pairwise (Ahead (priorityOf s.store) ((s.store.queue ++ [r.tag]).idxOf ·)) := by
    exact (h.ordered.and places).imp fun ⟨before, lt⟩ => before.imp_right fun ⟨eq, _⟩ => ⟨eq, lt⟩
  have known : ∀ {e}, e ∈ (renumber r.tag (entering r s)).store.sources → e.priority = priorityOf s.store e.tag := by
    intro e he
    obtain ⟨e', he', tag, priority, -⟩ := renumbered_mem he
    have tags := tile.tags
    rw [← entering_tags r s] at tags
    rw [tag, priority, ← entering_priorityOf tile.tags hr, priorityOf_of_mem tags he']
  have mem : ∀ {x}, x ∈ appended s.store r.tag r.priority → x ∈ s.store.queue ++ [r.tag] := by
    intro x hx
    obtain hx | hx := List.mem_append.1 hx
    · exact List.mem_append_left _ (List.mem_of_mem_filter hx)
    · obtain rfl | hx := List.mem_cons.1 hx
      · exact List.mem_append_right _ (List.mem_singleton.2 rfl)
      · exact List.mem_append_left _ (List.mem_of_mem_filter hx)
  constructor
  · refine (appended_ordered tile hr order last).imp_of_mem fun {x y} hx hy before e he f hf hex hfy => ?_
    subst hex hfy
    refine ⟨_, _, renumbered_number tile h hr hst he (mem hx), renumbered_number tile h hr hst hf (mem hy), ?_⟩
    rw [known he, known hf]
    exact before
  · intro e he st
    have inside : e.tag ∈ s.store.queue ++ [r.tag] := by
      obtain ⟨e', he', tag, -, state, -⟩ := renumbered_mem he
      rw [tag]
      obtain ⟨e'', he'', rfl⟩ := List.mem_map.1 he'
      split
      · exact List.mem_append_right _ (List.mem_singleton.2 rfl)
      · rename_i other
        refine List.mem_append_left _ ((tile.queued _).2 ⟨e'', he'', rfl, ?_⟩)
        rw [if_neg other] at state
        exact state.symm.trans st
    refine ⟨_, renumbered_number tile h hr hst he inside, ?_⟩
    have count : (renumber r.tag (entering r s)).store.queueCounter = (s.store.queue ++ [r.tag]).length :=
      congrArg (fun l : List Nat => (l ++ [r.tag]).length) (renumber_order tile h hr hst)
    rw [count]
    exact List.idxOf_lt_length_of_mem inside

theorem enqueue_queueLaw (tile : QueueTable s) (h : QueueLaw s) (hr : r ∈ s.store.sources) (hst : r.state = .dormant)
    (after : QueueTable (enqueue r.tag s)) : QueueLaw (enqueue r.tag s) := by
  have tag := (queueLaw_iff tile).1 h
  rw [enqueue_eq tile.tags hr] at after ⊢
  split
  · exact renumbered_queueLaw tile tag hr hst
  · rename_i more
    rw [if_neg more] at after
    exact (queueLaw_iff after).2 (entering_tagLaw tile tag hr hst)

end Sys2Proof.Queue
end

section
/-! PROOFS. Every step keeps the order of the placement queue, and what an append makes of the queue (R67, O45). -/

namespace Sys2Proof.Queue

open Sys2Proof.Machine Sys2Proof.Safety Sys2Proof.Walk Sys2Proof.Stores Sys2Proof.Placement

variable {s t : State} {r : Source} {tag : Nat}

/-! ### Writes that append nothing -/

/-- The fields of a source order that the law of the queue reads, against the record before. -/
structure SameEntry (r' r : Source) : Prop where
  tag : r'.tag = r.tag
  priority : r'.priority = r.priority
  number : r'.entryNo = r.entryNo
  queued : r.state = .queued → r'.state = .queued

/-- No entry is added, and the records of those that stay, and of the QUEUED orders, are as they were. -/
theorem queueLaw_mono (h : QueueLaw s) (queue : t.store.queue.Sublist s.store.queue)
    (counter : t.store.queueCounter = s.store.queueCounter)
    (records : ∀ r ∈ t.store.sources, r.tag ∈ t.store.queue ∨ r.state = .queued → ∃ r' ∈ s.store.sources, SameEntry r' r) :
    QueueLaw t := by
  constructor
  · refine (h.ordered.sublist queue).imp_of_mem fun {x y} hx hy before r hr q hq hrx hqy => ?_
    obtain ⟨r', hr', same⟩ := records r hr (.inl (hrx ▸ hx))
    obtain ⟨q', hq', same'⟩ := records q hq (.inl (hqy ▸ hy))
    rw [← same.number, ← same.priority, ← same'.number, ← same'.priority]
    exact before r' hr' q' hq' (same.tag.trans hrx) (same'.tag.trans hqy)
  · intro r hr st
    obtain ⟨r', hr', same⟩ := records r hr (.inr st)
    rw [counter, ← same.number]
    exact h.numbered r' hr' (same.queued st)

theorem queueLaw_map (h : QueueLaw s) {f : Source → Source} (sources : t.store.sources = s.store.sources.map f)
    (queue : t.store.queue = s.store.queue) (counter : t.store.queueCounter = s.store.queueCounter)
    (hf : ∀ r, SameEntry r (f r)) : QueueLaw t := by
  refine queueLaw_mono h (by rw [queue]) counter fun r hr _ => ?_
  rw [sources] at hr
  obtain ⟨r', hr', rfl⟩ := List.mem_map.1 hr
  exact ⟨r', hr', hf r'⟩

theorem queueLaw_congr (h : QueueLaw s) (sources : t.store.sources = s.store.sources)
    (queue : t.store.queue = s.store.queue) (counter : t.store.queueCounter = s.store.queueCounter) : QueueLaw t :=
  queueLaw_map (f := id) h (by rw [sources, List.map_id]) queue counter fun _ => ⟨rfl, rfl, rfl, id⟩

theorem queueLaw_updateSource (h : QueueLaw s) (tag : Nat) {f : Source → Source} (hf : ∀ r, SameEntry r (f r)) :
    QueueLaw (updateSource tag f s) := by
  refine queueLaw_map (f := fun r => if r.tag = tag then f r else r) h rfl rfl rfl fun r => ?_
  split
  · exact hf r
  · exact ⟨rfl, rfl, rfl, id⟩

/-- An order leaves the queue, whatever becomes of its record but QUEUED. -/
theorem queueLaw_leave (h : QueueLaw s) {f : Source → Source} (hf : ∀ r, (f r).tag = r.tag) (out : ∀ r, (f r).state ≠ .queued)
    (sources : t.store.sources = s.store.sources.map fun r => if r.tag = tag then f r else r)
    (queue : t.store.queue = s.store.queue.filter (· ≠ tag)) (counter : t.store.queueCounter = s.store.queueCounter) :
    QueueLaw t := by
  refine queueLaw_mono h (by rw [queue]; exact List.filter_sublist) counter fun r hr inside => ?_
  rw [sources] at hr
  obtain ⟨r', hr', rfl⟩ := List.mem_map.1 hr
  split at inside
  · rename_i same
    refine absurd (inside.resolve_right (out r')) fun held => ?_
    rw [queue, hf, same] at held
    simp at held
  · rename_i other
    rw [if_neg other]
    exact ⟨r', hr', rfl, rfl, rfl, id⟩

theorem dequeue_queueLaw (h : QueueLaw s) (tag : Nat) : QueueLaw (dequeue tag s) :=
  queueLaw_leave h (f := fun r => { r with state := .dormant, entryNo := none }) (fun _ => rfl) (fun _ => nofun) rfl rfl rfl

/-! ### Evaluations and the round-start pass -/

/-- An update of one order that leaves its tag, and whether it is QUEUED. -/
theorem queueTable_updateSource (h : QueueTable s) (tag : Nat) {f : Source → Source} (hf : ∀ r, (f r).tag = r.tag)
    (queued : ∀ r ∈ s.store.sources, r.tag = tag → ((f r).state = .queued ↔ r.state = .queued)) :
    QueueTable (updateSource tag f s) := by
  refine ⟨by rw [updateSource_tags tag f hf]; exact h.tags, h.queue, fun x => (h.queued x).trans ?_⟩
  have keeps : ∀ r ∈ s.store.sources, (if r.tag = tag then f r else r).tag = r.tag ∧
      ((if r.tag = tag then f r else r).state = .queued ↔ r.state = .queued) := by
    intro r hr
    split
    · exact ⟨hf r, queued r hr ‹_›⟩
    · exact ⟨rfl, Iff.rfl⟩
  constructor
  · rintro ⟨r, hr, rfl, st⟩
    exact ⟨_, List.mem_map_of_mem hr, (keeps r hr).1, (keeps r hr).2.2 st⟩
  · rintro ⟨r', hr', rfl, st⟩
    obtain ⟨r, hr, rfl⟩ := List.mem_map.1 hr'
    exact ⟨r, hr, (keeps r hr).1.symm, (keeps r hr).2.1 st⟩

theorem evalSource_queueLaw (tile : QueueTable s) (h : QueueLaw s) (tag : Nat) (after : QueueTable (evalSource tag s)) :
    QueueLaw (evalSource tag s) := by
  unfold evalSource at after ⊢
  split at after
  · exact h
  · rename_i r hv
    obtain ⟨hr, rfl, -⟩ := visibleSource_some hv
    have judged := queueLaw_updateSource (f := fun e => { e with mismatch := otherWantStands s.view e.tag e.cls }) h r.tag
      fun _ => ⟨rfl, rfl, rfl, id⟩
    have judgedTile := queueTable_updateSource (f := fun e => { e with mismatch := otherWantStands s.view e.tag e.cls }) tile
      r.tag (fun _ => rfl) fun _ _ _ => Iff.rfl
    dsimp only at after ⊢
    split at after
    · rename_i hst _
      exact enqueue_queueLaw (r := { r with mismatch := otherWantStands s.view r.tag r.cls }) judgedTile judged
        (List.mem_map.2 ⟨r, hr, if_pos rfl⟩) hst after
    · exact dequeue_queueLaw judged r.tag
    · exact queueLaw_updateSource (f := fun e => { e with releaseCount := 0 }) judged r.tag fun _ => ⟨rfl, rfl, rfl, id⟩
    · exact judged

/-- The laws of tiles and queue together. -/
def Ordered (s : State) : Prop := TileLaw s ∧ QueueLaw s

theorem freeRecord_ordered (h : Ordered s) (hr : r ∈ s.store.sources) (hst : r.state = .retiring) :
    Ordered (freeRecord s r) := by
  obtain ⟨tile, queue⟩ := h
  have after := freeRecord_placementLaw (placementLaw_none_iff.2 tile) hr hst
  refine ⟨placementLaw_none_iff.1 after, ?_⟩
  have unqueued : r.tag ∉ s.store.queue := fun held => by
    obtain ⟨e, he, same, st⟩ := (tile.queued r.tag).1 held
    rw [List.inj_on_of_nodup_map tile.tags he hr same, hst] at st
    cases st
  unfold freeRecord at after ⊢
  dsimp only at after ⊢
  split
  · exact queueLaw_mono queue (List.Sublist.refl _) rfl fun e he _ => ⟨e, List.mem_of_mem_filter he, rfl, rfl, rfl, id⟩
  · rename_i vis
    rw [if_neg vis] at after
    have dormant : QueueLaw (updateSource r.tag (fun r => { r with state := .dormant, firstTile := none, omitted := false })
        { s with store := { s.store with tileMap := setRange s.store.tileMap (r.firstTile.getD 160) r.cls none } }) := by
      refine queueLaw_leave (tag := r.tag) queue (f := fun r => { r with state := .dormant, firstTile := none, omitted := false })
        (fun _ => rfl) (fun _ => nofun) rfl ?_ rfl
      exact (List.filter_eq_self.2 fun x hx => by simpa using fun e : x = r.tag => unqueued (e ▸ hx)).symm
    refine evalSource_queueLaw ?_ dormant r.tag (queueTable_of_tileLaw (placementLaw_none_iff.1 after))
    refine queueTable_updateSource (s := { s with store := { s.store with
      tileMap := setRange s.store.tileMap (r.firstTile.getD 160) r.cls none } }) (queueTable_of_tileLaw tile |> fun t =>
        ⟨t.tags, t.queue, t.queued⟩) r.tag (fun _ => rfl) fun e he same => ?_
    rw [List.inj_on_of_nodup_map tile.tags he hr same, hst]
    exact iff_of_false nofun nofun

theorem evalSource_ordered (h : Ordered s) (tag : Nat) : Ordered (evalSource tag s) := by
  have after := placementLaw_none_iff.1 (evalSource_keeps (placementLaw_none_iff.2 h.1) tag)
  exact ⟨after, evalSource_queueLaw (queueTable_of_tileLaw h.1) h.2 tag (queueTable_of_tileLaw after)⟩

theorem freeRecords_ordered (rs : List Source) (hn : (rs.map (·.tag)).Nodup) (h : Ordered s)
    (hr : ∀ r ∈ rs, Holds s r ∧ r.state = .retiring) : Ordered (rs.foldl freeRecord s) := by
  induction rs generalizing s with
  | nil => exact h
  | cons r rs ih =>
    obtain ⟨fresh, hn⟩ := List.nodup_cons.1 hn
    obtain ⟨⟨n, mem⟩, hst⟩ := hr r List.mem_cons_self
    refine ih hn (freeRecord_ordered (r := { r with entryNo := n }) h mem hst) fun e he => ?_
    obtain ⟨hold, hst⟩ := hr e (List.mem_cons_of_mem _ he)
    exact ⟨freeRecord_holds hold fun ht => fresh (List.mem_map.2 ⟨e, he, ht⟩), hst⟩

theorem freeingStep_ordered (h : Ordered s) : Ordered (freeingStep s) := by
  have perm := List.perm_insertionSort (fun a b : Source => a.firstTile.getD 160 ≤ b.firstTile.getD 160)
    (s.store.sources.filter fun r => r.state = .retiring && r.omitted)
  refine freeRecords_ordered _ ?_ h fun r hr => ?_
  · rw [(perm.map _).nodup_iff]
    exact h.1.tags.sublist (List.filter_sublist.map _)
  · obtain ⟨hr, retiring⟩ := List.mem_filter.1 (perm.mem_iff.1 hr)
    exact ⟨holds_of_mem hr, by simpa using (Bool.and_eq_true_iff.1 retiring).1⟩

theorem countRelease_entry (view : Vector LaneView 9) (r : Source) : SameEntry r (countRelease view r) := by
  unfold countRelease
  split
  · rename_i offered
    split
    · exact ⟨rfl, rfl, rfl, id⟩
    · split
      · exact ⟨rfl, rfl, rfl, nofun⟩
      · exact ⟨rfl, rfl, rfl, id⟩
  · exact ⟨rfl, rfl, rfl, id⟩

theorem placeOne_queueLaw (h : QueueLaw s) (tag : Nat) : QueueLaw (placeOne s tag) := by
  unfold placeOne
  split
  · exact h
  · split
    · rename_i first _
      exact queueLaw_leave h (f := fun r => { r with
        state := .offered, firstTile := some first, entryNo := none, releaseCount := 0, passedOver := 0, blocked := false })
        (fun _ => rfl) (fun _ => nofun) rfl rfl rfl
    · exact queueLaw_updateSource (f := fun r => { r with
        passedOver := min 3 (r.passedOver + 1), blocked := r.blocked || 3 ≤ r.passedOver + 1 }) h tag
        fun _ => ⟨rfl, rfl, rfl, id⟩

theorem placementPass_ordered (h : Ordered s) : Ordered (placementPass s) := by
  have freed := (freeingStep_ordered h).2
  have released : QueueLaw (releaseStep (freeingStep s)) :=
    queueLaw_map freed rfl rfl rfl (countRelease_entry (freeingStep s).view)
  refine ⟨placementLaw_none_iff.1 (placementPass_placementLaw (placementLaw_none_iff.2 h.1)), ?_⟩
  unfold placementPass placementStep
  split
  · exact List.foldlRecOn _ _ released fun _ h tag _ => placeOne_queueLaw h tag
  · exact released

/-! ### Admission, removal, and the walk -/

theorem withSource_fields {q : SourceRequest} {b : Binding} {action : FailedAction} {standing : Standing} {st : OrderStore} :
    ∃ n, (withSource q b action standing st).sources = st.sources ++ [newSource q b action standing n] ∧
      (withSource q b action standing st).tileMap = st.tileMap ∧ (withSource q b action standing st).queue = st.queue ∧
      (withSource q b action standing st).queueCounter = st.queueCounter := by
  obtain ⟨sources, -, tileMap, queue, counter⟩ := Owners.bindPositions_leaves (b := b) (cls := q.cls)
    (st := (allocate (adapterKind .source b) q.tag q.cls (clampRnom q.cls q.rnom) (clampK q.k) st).1) .source (some q.tag)
  obtain ⟨as, am, aq⟩ := allocate_placement (adapterKind .source b) q.tag q.cls (clampRnom q.cls q.rnom) (clampK q.k) st
  have ac : (allocate (adapterKind .source b) q.tag q.cls (clampRnom q.cls q.rnom) (clampK q.k) st).1.queueCounter =
      st.queueCounter := by
    unfold allocate
    split <;> rfl
  exact ⟨_, congrArg (· ++ _) (sources.trans as), tileMap.trans am, queue.trans aq, counter.trans ac⟩

theorem withSource_ordered {q : SourceRequest} {b : Binding} {action : FailedAction} {standing : Standing} (h : Ordered s)
    (ok : Admissible .source q.tag q.cls b s.store) : Ordered { s with store := withSource q b action standing s.store } := by
  obtain ⟨n, sources, tileMap, queue, counter⟩ := withSource_fields (q := q) (b := b) (action := action)
    (standing := standing) (st := s.store)
  have fresh : q.tag ∉ s.store.sources.map (·.tag) := by
    simpa [holdsTag] using ok.fresh
  refine ⟨placementLaw_none_iff.1 ((placementLaw_none_iff.2 h.1).insert (r := newSource q b action standing n) sources tileMap
    queue fresh ok.classed rfl rfl rfl), queueLaw_mono h.2 (by rw [queue]) counter fun r hr inside => ?_⟩
  obtain hr | hr := List.mem_append.1 (sources ▸ hr)
  · exact ⟨r, hr, rfl, rfl, rfl, id⟩
  · rw [List.mem_singleton.1 hr] at inside
    obtain held | st := inside
    · obtain ⟨e, he, same, -⟩ := (h.1.queued _).1 (queue ▸ held)
      exact absurd (List.mem_map.2 ⟨e, he, same⟩) fresh
    · cases st

theorem freedStore_queue {d : Direction} {b : Binding} {cls : Nat} {n : Option (Fin 96)} {st : OrderStore} :
    (freedStore d b cls n st).queue = st.queue ∧ (freedStore d b cls n st).queueCounter = st.queueCounter := by
  obtain ⟨-, -, -, queue, counter⟩ := Owners.bindPositions_leaves (b := b) (cls := cls) (st := st) d none
  unfold freedStore freeAdapter
  split
  · exact ⟨queue, counter⟩
  · rw [freeRecordOf_eq]
    exact ⟨queue, counter⟩

theorem removeSource_queueLaw (h : QueueLaw s) (r : Source) : QueueLaw (removeSource r s) := by
  obtain ⟨sources, -⟩ := Owners.freedStore_tables (b := r.binding) (cls := r.cls) (st := s.store) .source r.adapter
  obtain ⟨queue, counter⟩ := freedStore_queue (d := .source) (b := r.binding) (cls := r.cls) (n := r.adapter) (st := s.store)
  have freed : QueueLaw { s with
      store := freedStore .source r.binding r.cls r.adapter s.store, report := dropItem .source r.tag s.report } :=
    queueLaw_congr h sources queue counter
  have deleted := fun q (hq : q.Sublist (freedStore .source r.binding r.cls r.adapter s.store).queue) => queueLaw_mono
    (t := { s with
      store := { freedStore .source r.binding r.cls r.adapter s.store with
        sources := (freedStore .source r.binding r.cls r.adapter s.store).sources.filter (·.tag ≠ r.tag), queue := q }
      report := dropItem .source r.tag s.report }) freed hq rfl
    fun e he _ => ⟨e, List.mem_of_mem_filter he, rfl, rfl, rfl, id⟩
  unfold removeSource retireOrDelete
  split
  · exact deleted _ List.filter_sublist
  · exact deleted _ List.filter_sublist
  · exact queueLaw_updateSource (f := Source.retired) freed r.tag fun _ => ⟨rfl, rfl, rfl, nofun⟩
  · exact queueLaw_updateSource (f := Source.retired) freed r.tag fun _ => ⟨rfl, rfl, rfl, nofun⟩

end Sys2Proof.Queue
end

section
/-! PROOFS. The walk for the laws of tiles and queue together, and what an append makes of the queue (R67, O45). -/

namespace Sys2Proof.Queue

open Sys2Proof.Machine Sys2Proof.Safety Sys2Proof.Walk Sys2Proof.Stores Sys2Proof.Placement

variable {s t : State} {r : Source} {tag : Nat}

theorem ordered_congr (h : Ordered s) (sources : t.store.sources = s.store.sources)
    (tileMap : t.store.tileMap = s.store.tileMap) (queue : t.store.queue = s.store.queue)
    (counter : t.store.queueCounter = s.store.queueCounter) : Ordered t :=
  ⟨placementLaw_none_iff.1 ((placementLaw_none_iff.2 h.1).congr sources tileMap queue),
    queueLaw_congr h.2 sources queue counter⟩

theorem ordered_of_store (h : Ordered s) (e : t.store = s.store) : Ordered t :=
  ordered_congr h (by rw [e]) (by rw [e]) (by rw [e]) (by rw [e])

/-- Marks on the sources move no order and no entry. -/
theorem ordered_mapSources (h : Ordered s) {f : Source → Source} (hf : MarksSource f) : Ordered (mapSources f s) := by
  refine ⟨placementLaw_none_iff.1 ((placementLaw_none_iff.2 h.1).map f rfl rfl rfl fun r _ => ?_),
    queueLaw_map h.2 rfl rfl rfl fun r => ?_⟩
  · rw [hf r]
    exact ⟨rfl, rfl, rfl, rfl, Iff.rfl, id, nofun⟩
  · rw [hf r]
    exact ⟨rfl, rfl, rfl, id⟩

theorem ordered_empty (e : s.store = OrderStore.empty) : Ordered s := by
  refine ⟨placementLaw_none_iff.1 (PlacementLaw.empty e), ?_, ?_⟩
  · rw [e]
    exact .nil
  · rw [e]
    exact fun r hr => absurd hr List.not_mem_nil

theorem admitSink_ordered {q : SinkRequest} {b : Binding} (h : Ordered s) : Ordered (admitSink q b s) := by
  refine ⟨placementLaw_none_iff.1 (admitSink_placementLaw q b (placementLaw_none_iff.2 h.1)), ?_⟩
  obtain ⟨sources, -, -, queue, counter⟩ := Owners.bindPositions_leaves (b := b) (cls := q.cls)
    (st := (allocate (adapterKind .sink b) q.tag q.cls (clampRnom q.cls q.rnom) (clampK q.k) s.store).1) .sink (some q.tag)
  obtain ⟨as, -, aq⟩ := allocate_placement (adapterKind .sink b) q.tag q.cls (clampRnom q.cls q.rnom) (clampK q.k) s.store
  have ac : (allocate (adapterKind .sink b) q.tag q.cls (clampRnom q.cls q.rnom) (clampK q.k) s.store).1.queueCounter =
      s.store.queueCounter := by
    unfold allocate
    split <;> rfl
  have item := createSinkItem_store q.tag (evalSink true { s with store := withSink q b s.store } q.tag)
  refine queueLaw_congr h.2 ?_ ?_ ?_
  · exact (congrArg OrderStore.sources item).trans (sources.trans as)
  · exact (congrArg OrderStore.queue item).trans (queue.trans aq)
  · exact (congrArg OrderStore.queueCounter item).trans (counter.trans ac)

theorem removeSource_ordered (h : Ordered s) (hv : visibleSource s.store tag = some r) : Ordered (removeSource r s) := by
  obtain ⟨hr, -, -⟩ := visibleSource_some hv
  obtain ⟨fs, fm, fq⟩ := freeAdapter_placement r.adapter (bindPositions .source r.binding r.cls none s.store)
  obtain ⟨bs, bm, bq⟩ := bindPositions_placement .source r.binding r.cls none s.store
  refine ⟨placementLaw_none_iff.1 (retireOrDelete_placementLaw
    ((placementLaw_none_iff.2 h.1).congr (fs.trans bs) (fm.trans bm) (fq.trans bq)) ?_), removeSource_queueLaw h.2 r⟩
  exact (fs.trans bs) ▸ hr

theorem removeSink_ordered (h : Ordered s) (k : Sink) : Ordered (removeSink k s) := by
  obtain ⟨fs, fm, fq⟩ := freeAdapter_placement k.adapter (bindPositions .sink k.binding k.cls none s.store)
  obtain ⟨bs, bm, bq⟩ := bindPositions_placement .sink k.binding k.cls none s.store
  exact ordered_congr h (fs.trans bs) (fm.trans bm) (fq.trans bq)
    (freedStore_queue (d := .sink) (b := k.binding) (cls := k.cls) (n := k.adapter)).2

theorem kept_ordered : Kept Ordered where
  alike h a := ordered_of_store h a.store
  store := {
    evalSource := fun tag _ h => evalSource_ordered h tag
    sources := fun hf _ h => ordered_mapSources h hf
    sinks := fun _ _ h => ordered_congr h rfl rfl rfl rfl
    record := fun _ _ h => ordered_congr h rfl rfl rfl rfl
    pass := placementPass_ordered
    empty := fun _ => ordered_empty rfl
    admitSource := fun {q _ _ _ _} _ ok h => ordered_of_store
      (evalSource_ordered (withSource_ordered h (refusal_eq_none_iff.1 ok)) q.tag) (createSourceItem_store _ _)
    admitSink := fun _ _ h => admitSink_ordered h
    removeSource := fun hv h => removeSource_ordered h hv
    removeSink := fun {k _ _} _ h => removeSink_ordered h k }
  view := .of_view fun e _ _ h => ordered_of_store h e
  ports := .of_ports fun e _ _ h => ordered_of_store h e

/-! ### Entry numbers -/

theorem enqueue_below (tile : TileLaw s) (hr : r ∈ s.store.sources) (below : s.store.queueCounter ≠ 4294967295) :
    enqueue r.tag s = entering r s := by
  rw [enqueue_eq tile.tags hr, if_neg below]

theorem enqueue_top (tile : TileLaw s) (hr : r ∈ s.store.sources) (top : s.store.queueCounter = 4294967295) :
    enqueue r.tag s = renumber r.tag (entering r s) := by
  rw [enqueue_eq tile.tags hr, if_pos top]

/-- The renumbering gives the entries their places in the queue as it was, and the new one the place behind them. -/
theorem renumbered_entries (tile : TileLaw s) (h : QueueLaw s) (hr : r ∈ s.store.sources) (hst : r.state = .dormant) :
    (renumber r.tag (entering r s)).store.queueCounter = s.store.queue.length + 1 ∧
      (∀ q ∈ (renumber r.tag (entering r s)).store.sources, q.tag = r.tag → q.entryNo = some s.store.queue.length) ∧
      ∀ i x : Nat, s.store.queue[i]? = some x → ∀ q ∈ (renumber r.tag (entering r s)).store.sources, q.tag = x →
        q.entryNo = some i := by
  have table := queueTable_of_tileLaw tile
  have law := (queueLaw_iff table).1 h
  have fresh := not_queued table hr hst
  refine ⟨?_, fun q hq same => ?_, fun i x hi q hq same => ?_⟩
  · have count := congrArg (fun l : List Nat => (l ++ [r.tag]).length) (renumber_order table law hr hst)
    exact count.trans List.length_append
  · rw [renumbered_number table law hr hst hq (by simp [same]), same, List.idxOf_append_of_notMem fresh]
    simp
  · obtain ⟨lt, here⟩ := List.getElem?_eq_some_iff.1 hi
    have held : x ∈ s.store.queue := here ▸ List.getElem_mem lt
    rw [renumbered_number table law hr hst hq (by simp [same, held]), same, List.idxOf_append_of_mem held, ← here,
      tile.queue.idxOf_getElem i lt]

/-- Settles O45. -/
theorem queueKeepsPriorityOrder : Obligations.QueueKeepsPriorityOrder := by
  refine ⟨fun s t tile queue hstep => (kept_ordered.step (fun _ _ h => ordered_of_store h rfl) ⟨tile, queue⟩ hstep).2, ?_⟩
  intro s tag r tile queue hv hst
  obtain ⟨hr, rfl, -⟩ := visibleSource_some hv
  refine ⟨fun below => enqueue_below tile hr below, fun top => ?_⟩
  rw [enqueue_top tile hr top]
  exact ⟨rfl, renumbered_entries tile queue hr hst⟩

end Sys2Proof.Queue
end

section
/-! PROOFS. The eleventh law of the device (R160 to R162, O8): what leaves the Timing Unit's view alone, the judgement of one
lane, the work of a round start, and the walk through the commands; and what the law says of the own level (O11). -/

namespace Sys2Proof.TimingWalk

open Sys2Proof.Machine Sys2Proof.Safety Sys2Proof.SourceChoice Sys2Proof.Rejudgement

variable {s t u : State} {l : Fin 9}

/-! ### Changes that the law does not see -/

/-- Receivers and Timing Unit are the same in what the law reads: of a receiver its state and, for a peer, its heard header. -/
structure Clocked (s t : State) : Prop where
  cold : t.station.state = .cold → s.station.state = .cold
  number : t.station.number = s.station.number
  states : ∀ l : Fin 9, t.lanes[l].state = s.lanes[l].state
  heard : ∀ l : Fin 9, l ≠ s.station.number → t.lanes[l].heard = s.lanes[l].heard
  records : t.timing.lanes = s.timing.lanes
  selected : t.timing.selected = s.timing.selected
  level : t.timing.level = s.timing.level
  ref : t.timing.refState = s.timing.refState

theorem Clocked.of_timed (h : TimedAlike s t) : Clocked s t := by
  refine ⟨fun c => ?_, ?_, fun l => ?_, fun l _ => ?_, ?_, ?_, ?_, ?_⟩
  · rwa [← h.station]
  · rw [h.station]
  · rw [h.receivers]
  · rw [h.receivers]
  · rw [h.timing]
  · rw [h.timing]
  · rw [h.timing]
  · rw [h.timing]

/-- A lane's conditions read the station's number, the receiver's state and heard header and the aligned rounds. -/
theorem laneQualifies_clocked (number : t.station.number = s.station.number)
    (state : t.lanes[l].state = s.lanes[l].state) (heard : l ≠ s.station.number → t.lanes[l].heard = s.lanes[l].heard)
    (rounds : t.timing.lanes[l].alignedRounds = s.timing.lanes[l].alignedRounds) : laneQualifies t l = laneQualifies s l := by
  unfold laneQualifies
  rw [number, state, rounds]
  by_cases own : l = s.station.number
  · simp [own]
  · rw [heard own]

theorem qualified_ne_own (h : TimingLaw s) (q : s.timing.lanes[l].qualified = true) : l ≠ s.station.number := by
  rw [h.judged] at q
  simp only [laneQualifies, Bool.and_eq_true, decide_eq_true_eq] at q
  exact q.1.1.1

theorem timingLaw_of_clocked (h : TimingLaw s) (c : Clocked s t) : TimingLaw t := by
  refine ⟨fun cold l => (c.states l).trans (h.cold (c.cold cold) l), fun l => ?_, ?_⟩
  · rw [laneQualifies_clocked c.number (c.states l) (c.heard l) (by rw [c.records]), c.records]
    exact h.judged l
  · have follows := h.follows
    unfold followsOf at follows ⊢
    rw [c.selected, c.level, c.ref, c.records]
    cases source : s.timing.selected with
    | ref => rwa [source] at follows
    | free => rwa [source] at follows
    | lane m =>
      rw [source] at follows
      refine ⟨follows.1, ?_⟩
      unfold heardLevel
      rw [c.heard m (qualified_ne_own h follows.1)]
      exact follows.2

theorem timingLaw_of_timed (h : TimingLaw s) (e : TimedAlike s t) : TimingLaw t := timingLaw_of_clocked h (.of_timed e)

theorem timingLaw_finish (h : TimingLaw t) (s : State) : TimingLaw (finish s t) := timingLaw_of_timed h (.finish s t)

/-! ### The judgement of one lane -/

/-- What a source that a re-evaluation chose says of the level under it. -/
theorem followsOf_chosen (selected : u.timing.selected = (chooseSource u).1)
    (level : u.timing.level = levelUnder u u.timing.selected) : followsOf u := by
  unfold followsOf
  obtain ⟨ref, c⟩ | ⟨-, l, c, q, -⟩ | ⟨-, c, -⟩ := chooseSource_cases u
  · rw [selected, c] at level ⊢
    exact ⟨ref, level⟩
  · rw [selected, c] at level ⊢
    exact ⟨q, level⟩
  · rw [selected, c] at level ⊢
    exact level

/-- The receiver of lane `l` alone has changed, and the lane has been judged. -/
theorem timingLaw_of_rejudged (h : TimingLaw s) (station : u.station = s.station)
    (receivers : ∀ m : Fin 9, m ≠ l → u.lanes[m] = s.lanes[m]) (cold : s.station.state ≠ .cold) (r : Rejudged l s u) :
    TimingLaw u := by
  refine ⟨fun c => absurd (station ▸ c) cold, fun m => ?_, ?_⟩
  · by_cases same : m = l
    · rw [same, r.flag]
    · rw [r.others m same, h.judged m]
      exact (laneQualifies_clocked (by rw [station]) (by rw [receivers m same]) (fun _ => by rw [receivers m same])
        (by rw [r.others m same])).symm
  · by_cases stays : u.timing.selected = s.timing.selected
    · have timing := r.same stays
      have follows := h.follows
      unfold followsOf at follows ⊢
      rw [stays] at timing ⊢
      cases source : s.timing.selected with
      | ref =>
        rw [source] at follows timing
        rw [timing]
        exact follows
      | free =>
        rw [source] at follows timing
        rw [timing]
        exact follows
      | lane m =>
        rw [source] at follows timing
        by_cases same : m = l
        · subst same
          have flag : u.timing.lanes[m].qualified = true := by
            by_cases kept : u.timing.lanes[m].qualified = s.timing.lanes[m].qualified
            · rw [kept]
              exact follows.1
            · have chosen := r.chosen kept
              rw [stays, source] at chosen
              obtain ⟨-, c⟩ | ⟨-, b, c, q, -⟩ | ⟨-, c, -⟩ := chooseSource_cases u
              · rw [c] at chosen
                cases chosen
              · rw [c] at chosen
                cases chosen
                exact q
              · rw [c] at chosen
                cases chosen
          have aligned : u.lanes[m].state = .aligned := by
            have conditions := r.flag.symm.trans flag
            simp only [laneQualifies, Bool.and_eq_true, decide_eq_true_eq] at conditions
            exact conditions.1.1.2
          refine ⟨flag, ?_⟩
          have level := congrArg TimingUnit.level timing
          rw [level]
          exact if_pos ⟨rfl, aligned⟩
        · refine ⟨by rw [r.others m same]; exact follows.1, ?_⟩
          have level := congrArg TimingUnit.level timing
          rw [level, receivers m same]
          refine (if_neg fun both => same ?_).trans follows.2
          exact TimeSource.lane.inj both.1
    · have moved := r.moved stays
      have selected := congrArg TimingUnit.selected moved
      have level := congrArg TimingUnit.level moved
      refine followsOf_chosen selected (level.trans ?_)
      rw [selected]
      exact chooseSource_snd u

theorem setLane_receivers (l : Fin 9) (x : LaneRx) (s : State) {m : Fin 9} (other : m ≠ l) :
    (setLane l x s).lanes[m] = s.lanes[m] := getElem_set_ne _ _ other

/-- A receiver that keeps its state and heard header, or is not ALIGNED before and after. -/
theorem timingLaw_setLane (h : TimingLaw s) (cold : s.station.state ≠ .cold) {x : LaneRx}
    (quiet : (x.state = s.lanes[l].state ∧ x.heard = s.lanes[l].heard) ∨ (x.state ≠ .aligned ∧ s.lanes[l].state ≠ .aligned)) :
    TimingLaw (setLane l x s) := by
  have here : (setLane l x s).lanes[l] = x := setLane_same l x s
  have unqualified : ∀ {u : State}, u.lanes[l].state ≠ .aligned → laneQualifies u l = false := fun out => by
    simp [laneQualifies, out, -Fin.getElem_fin]
  have same : laneQualifies (setLane l x s) l = laneQualifies s l := by
    obtain ⟨state, heard⟩ | ⟨after, before⟩ := quiet
    · exact laneQualifies_clocked rfl (by rw [here, state]) (fun _ => by rw [here, heard]) rfl
    · rw [unqualified (by rwa [here]), unqualified before]
  refine ⟨fun c => absurd c cold, fun m => ?_, ?_⟩
  · by_cases e : m = l
    · rw [e, same]
      exact h.judged l
    · rw [laneQualifies_clocked (s := s) (t := setLane l x s) rfl (by rw [setLane_receivers l x s e]) (fun _ => by rw [setLane_receivers l x s e])
        rfl]
      exact h.judged m
  · have follows := h.follows
    unfold followsOf at follows ⊢
    change match s.timing.selected with | .ref => _ | .free => _ | .lane m => _
    cases source : s.timing.selected with
    | ref => rwa [source] at follows
    | free => rwa [source] at follows
    | lane m =>
      rw [source] at follows
      refine ⟨follows.1, ?_⟩
      by_cases e : m = l
      · subst e
        obtain ⟨-, heard⟩ | ⟨-, before⟩ := quiet
        · have level := follows.2
          unfold heardLevel at level ⊢
          rw [here, heard]
          exact level
        · have q := follows.1
          rw [h.judged, unqualified before] at q
          cases q
      · rw [setLane_receivers l x s e]
        exact follows.2

/-- A lane that leaves ALIGNED (R40, R159). -/
theorem timingLaw_exit (h : TimingLaw s) (cold : s.station.state ≠ .cold) {x : LaneRx} (out : x.state ≠ .aligned)
    (same : TimedAlike (setLane l x s) t) : TimingLaw (exitAligned l t) := by
  have exited : t.lanes[l].state ≠ .aligned := by
    rw [same.receivers, setLane_same]
    exact out
  have after := exitAligned_timed l t
  have receivers : (exitAligned l t).lanes = (setLane l x s).lanes := by
    rw [after.receivers, timingExit_onlyTiming]
    exact same.receivers
  refine timingLaw_of_rejudged (l := l) h ?_ (fun m other => ?_) cold
    (rejudged_congr (rejudged_timingExit exited) same.timing.symm after)
  · rw [after.station, timingExit_onlyTiming]
    exact same.station
  · rw [receivers]
    exact setLane_receivers l x s other

/-- A header of a lane, whatever it makes of the receiver that stays ALIGNED, is judged at the Timing Unit (R160, R162). -/
theorem timingLaw_goodHeader (h : TimingLaw s) (cold : s.station.state ≠ .cold) {x : LaneRx} (aligned : x.state = .aligned)
    (after : TimedAlike (timingHeader l (setLane l x s)) t) : TimingLaw t := by
  have here : (setLane l x s).lanes[l].state = .aligned := by
    rw [setLane_same]
    exact aligned
  refine timingLaw_of_rejudged (l := l) h ?_ (fun m other => ?_) cold (rejudged_congr (rejudged_timingHeader here) rfl after)
  · rw [after.station, timingHeader_onlyTiming]
    rfl
  · rw [after.receivers, timingHeader_onlyTiming]
    exact setLane_receivers l x s other

/-- A lane that enters ALIGNED (R33, R159). -/
theorem timingLaw_entry (h : TimingLaw s) (cold : s.station.state ≠ .cold) {x : LaneRx} (aligned : x.state = .aligned)
    (after : TimedAlike (timingHeader l (timingEntry l (setLane l x s))) t) : TimingLaw t := by
  have here : (setLane l x s).lanes[l].state = .aligned := by
    rw [setLane_same]
    exact aligned
  refine timingLaw_of_rejudged (l := l) h ?_ (fun m other => ?_) cold (rejudged_congr (rejudged_entry here) rfl after)
  · rw [after.station, timingHeader_onlyTiming]
    rfl
  · rw [after.receivers, timingHeader_onlyTiming]
    exact setLane_receivers l x s other

/-! ### Markers, headers and windows -/

theorem timingLaw_marker (h : TimingLaw s) (cold : s.station.state ≠ .cold) (l : Fin 9) (t : Nat) :
    TimingLaw (laneMarker l t s) := by
  have timed : TimingLaw (atTime t s) := timingLaw_of_timed h ⟨rfl, rfl, rfl⟩
  have exits : TimingLaw (exitAligned l (setLane l (startAligning t s.lanes[l]) (atTime t s))) :=
    timingLaw_exit (x := startAligning t s.lanes[l]) timed cold nofun ⟨rfl, rfl, rfl⟩
  unfold laneMarker
  dsimp only
  split
  · rename_i state
    exact timingLaw_setLane timed cold (.inr ⟨nofun, fun e => nomatch state.symm.trans e⟩)
  · rename_i state
    exact timingLaw_setLane timed cold (.inr ⟨nofun, fun e => nomatch state.symm.trans e⟩)
  · rename_i state
    have aligning : (alignMarker t s.lanes[l]).state ≠ .aligned := by
      unfold alignMarker
      split
      · nofun
      · split
        · exact fun e => nomatch state.symm.trans e
        · nofun
    exact timingLaw_setLane timed cold (.inr ⟨aligning, fun e => nomatch state.symm.trans e⟩)
  · split
    · exact exits
    · split
      · exact exits
      · rename_i held _ _
        have kept : (alignedMarker held t s.lanes[l]).state = s.lanes[l].state ∧
            (alignedMarker held t s.lanes[l]).heard = s.lanes[l].heard := by
          unfold alignedMarker trackMarker
          dsimp only
          split
          · split
            · exact ⟨rfl, rfl⟩
            · split
              · exact ⟨rfl, rfl⟩
              · split <;> exact ⟨rfl, rfl⟩
          · exact ⟨rfl, rfl⟩
        exact timingLaw_setLane timed cold (.inl kept)

theorem timingLaw_header (h : TimingLaw s) (cold : s.station.state ≠ .cold) (l : Fin 9) (words : List Word)
    (tiles : List Tile) : TimingLaw (laneHeader l words tiles s) := by
  unfold laneHeader
  dsimp only
  split
  · split
    · rename_i state
      have out : s.lanes[l].state ≠ .aligned := fun e => nomatch state.symm.trans e
      unfold aligningHeader
      split
      · exact timingLaw_setLane h cold (.inr ⟨out, out⟩)
      · split
        · exact timingLaw_entry (x := enterAligned _ _ _ _) h cold rfl (Headers.passHeader_timed l _ _ _ _)
        · exact timingLaw_setLane h cold (.inr ⟨out, out⟩)
    · rename_i state
      have passed := Headers.passHeader_timed l (heardOf words) (slotsOf words)
        (epochChanged s.lanes[l].heard (heardOf words).epoch) (setLane l (goodHeader (heardOf words) tiles s.lanes[l]) s)
      have after : TimingLaw (passHeader l (heardOf words) (slotsOf words)
          (epochChanged s.lanes[l].heard (heardOf words).epoch) (setLane l (goodHeader (heardOf words) tiles s.lanes[l]) s)) :=
        timingLaw_goodHeader (x := goodHeader (heardOf words) tiles s.lanes[l]) h cold state passed
      unfold alignedHeader
      dsimp only
      split
      · refine timingLaw_exit (x := misplugged (heardOf words) s.lanes[l]) after ?_ nofun ⟨rfl, rfl, rfl⟩
        rw [passed.station, timingHeader_onlyTiming]
        exact cold
      · exact after
    · exact h
    · exact h
  · have kept : (badHeader tiles s.lanes[l]).state = s.lanes[l].state ∧ (badHeader tiles s.lanes[l]).heard = s.lanes[l].heard := by
      unfold badHeader
      split <;> exact ⟨rfl, rfl⟩
    exact timingLaw_setLane h cold (.inl kept)

theorem checkedWindow_keeps (x : LaneRx) : (checkedWindow x).state = x.state ∧ (checkedWindow x).heard = x.heard := by
  unfold checkedWindow nextWindow
  dsimp only
  split <;> exact ⟨rfl, rfl⟩

theorem timingLaw_window (h : TimingLaw s) (cold : s.station.state ≠ .cold) (l : Fin 9) : TimingLaw (windowCheck l s) := by
  have checked := checkedWindow_keeps s.lanes[l]
  unfold windowCheck
  dsimp only
  split
  · exact h
  · exact h
  · rename_i state
    have out : s.lanes[l].state ≠ .aligned := fun e => nomatch state.symm.trans e
    refine timingLaw_setLane h cold (.inr ⟨?_, out⟩)
    split
    · nofun
    · rw [checked.1]
      exact out
  · have unheard : TimedAlike (setLane l (checkedWindow s.lanes[l]) s)
        (if s.lanes[l].windowHeader then setLane l (checkedWindow s.lanes[l]) s
          else event (viewUnheard l) (setLane l (checkedWindow s.lanes[l]) s)) := by
      split
      · exact ⟨rfl, rfl, rfl⟩
      · exact (TimedAlike.of_view (viewUnheard_onlyView l _)).trans (.noted _ _)
    have after := timingLaw_of_timed (timingLaw_setLane h cold (.inl checked)) unheard
    split
    · refine timingLaw_exit (x := lostLane (checkedWindow s.lanes[l])) after ?_ nofun ⟨rfl, rfl, rfl⟩
      rw [unheard.station]
      exact cold
    · exact after

/-! ### The work of a round start, REF and the boundary -/

/-- A row of judgements that ends where it began leaves the level, and one that does not takes the level with it. -/
theorem followsOf_review (h : TimingLaw s) (receivers : u.lanes = s.lanes) (selected : u.timing.selected = (chooseSource u).1)
    (follows : Follows s u) : followsOf u := by
  refine followsOf_chosen selected ?_
  obtain unmoved | moved := follows
  · have same := congrArg TimingUnit.selected unmoved
    have level := congrArg TimingUnit.level unmoved
    have before := h.follows
    unfold followsOf at before
    rw [level, same]
    cases source : s.timing.selected with
    | ref =>
      rw [source] at before
      exact before.2
    | free =>
      rw [source] at before
      exact before
    | lane l =>
      rw [source] at before
      unfold levelUnder
      rw [receivers]
      exact before.2
  · exact congrArg TimingUnit.level moved

theorem countLanes_frame (s : State) : (countLanes s).station = s.station ∧ (countLanes s).lanes = s.lanes := ⟨rfl, rfl⟩

/-- After the judgements every flag agrees with its conditions. -/
theorem reviewed_judged (s : State) (l : Fin 9) : (reviewed s).timing.lanes[l].qualified = laneQualifies (reviewed s) l := by
  have only := reviewed_onlyTiming s
  have record := reviewed_lane s l
  generalize reviewed s = u at only record
  have conditions : laneQualifies u l = laneQualifies (countLanes s) l := by
    refine laneQualifies_congr ?_ ?_ ?_
    · rw [only, (countLanes_frame s).1]
    · rw [only, (countLanes_frame s).2]
    · rw [record, judged]
  rw [record, conditions, judged]

theorem timingLaw_reviewed (h : TimingLaw s) : TimingLaw (reviewed s) := by
  have only := reviewed_onlyTiming s
  have flags := reviewed_judged s
  have selected := reviewed_selected s
  have follows := reviewed_follows s
  generalize reviewed s = u at only flags selected follows
  have station : u.station = s.station := by rw [only]
  have receivers : u.lanes = s.lanes := by rw [only]
  refine ⟨fun c l => ?_, flags, followsOf_review h receivers selected follows⟩
  rw [receivers]
  exact h.cold (station ▸ c) l

theorem timingLaw_timingWork (h : TimingLaw s) : TimingLaw (timingWork s) := by
  have law := timingLaw_reviewed h
  rw [timingWork_eq]
  generalize reviewed s = u at law
  exact timingLaw_of_clocked law ⟨id, rfl, fun _ => rfl, fun _ _ => rfl, rfl, rfl, rfl, rfl⟩

end Sys2Proof.TimingWalk
end

section
/-! PROOFS. Every step keeps the eleventh law (O8), and what it says of the own level (O11). -/

namespace Sys2Proof.TimingWalk

open Sys2Proof.Machine Sys2Proof.Safety Sys2Proof.SourceChoice Sys2Proof.Rejudgement

variable {s t u : State} {l : Fin 9}

/-! ### REF, the join and the boundary -/

/-- A change of the REF record that leaves lanes, selection and level re-evaluates the selection when it takes or gives the
qualification (R158, R161). -/
theorem timingLaw_refStep (h : TimingLaw s) {u : TimingUnit} (lanes : u.lanes = s.timing.lanes)
    (selected : u.selected = s.timing.selected) (level : u.level = s.timing.level) : TimingLaw (refStep u s) := by
  have judged : ∀ l : Fin 9, u.lanes[l].qualified = laneQualifies { s with timing := u } l := by
    intro l
    rw [laneQualifies_clocked (s := s) (t := { s with timing := u }) rfl rfl (fun _ => rfl)
      (congrArg (fun v : Vector LaneTiming 9 => v[l].alignedRounds) lanes), lanes]
    exact h.judged l
  have follows := h.follows
  unfold followsOf at follows
  rw [← selected, ← level, ← lanes] at follows
  have stays : decide (u.refState = .qualified) = decide (s.timing.refState = .qualified) →
      TimingLaw { s with timing := u } := by
    intro same
    refine ⟨h.cold, judged, ?_⟩
    unfold followsOf
    change match u.selected with | .ref => _ | .free => _ | .lane l => _
    cases source : u.selected with
    | ref =>
      rw [source] at follows
      exact ⟨(decide_eq_decide.1 same).2 follows.1, follows.2⟩
    | free =>
      rw [source] at follows
      exact follows
    | lane l =>
      rw [source] at follows
      exact follows
  unfold refStep
  dsimp only
  split
  · have station := reselect_station { s with timing := u }
    have receivers := reselect_receivers { s with timing := u }
    refine ⟨fun c l => ?_, fun l => ?_, ?_⟩
    · rw [receivers]
      rw [station] at c
      exact h.cold c l
    · rw [laneQualifies_congr station receivers (by rw [reselect_lanes]), reselect_lanes]
      exact judged l
    · by_cases same : (chooseSource { s with timing := u }).1 = u.selected
      · rw [reselect_eq_self same]
        refine followsOf_chosen same.symm ?_
        change u.level = levelUnder { s with timing := u } u.selected
        cases source : u.selected with
        | ref =>
          rw [source] at follows
          exact follows.2
        | free =>
          rw [source] at follows
          exact follows
        | lane l =>
          rw [source] at follows
          exact follows.2
      · rw [reselect_eq_change same]
        exact followsOf_chosen rfl (chooseSource_snd _)
  · rename_i same
    exact stays (not_not.1 same)

theorem pulse_keeps (t : Nat) (u : TimingUnit) :
    (pulse t u).lanes = u.lanes ∧ (pulse t u).selected = u.selected ∧ (pulse t u).level = u.level := by
  unfold pulse
  split
  · exact ⟨rfl, rfl, rfl⟩
  · split
    · exact ⟨rfl, rfl, rfl⟩
    · split <;> exact ⟨rfl, rfl, rfl⟩
  · split <;> exact ⟨rfl, rfl, rfl⟩

theorem refMiss_keeps (u : TimingUnit) :
    (refMiss u).lanes = u.lanes ∧ (refMiss u).selected = u.selected ∧ (refMiss u).level = u.level := by
  unfold refMiss
  split
  · exact ⟨rfl, rfl, rfl⟩
  · exact ⟨rfl, rfl, rfl⟩
  · split <;> exact ⟨rfl, rfl, rfl⟩

theorem timingLaw_pulse (h : TimingLaw s) (t : Nat) : TimingLaw (refStep (pulse t s.timing) (atTime t s)) := by
  obtain ⟨lanes, selected, level⟩ := pulse_keeps t s.timing
  exact timingLaw_refStep (s := atTime t s) (timingLaw_of_timed h ⟨rfl, rfl, rfl⟩) lanes selected level

theorem timingLaw_refMiss (h : TimingLaw s) : TimingLaw (refStep (refMiss s.timing) s) := by
  obtain ⟨lanes, selected, level⟩ := refMiss_keeps s.timing
  exact timingLaw_refStep h lanes selected level

theorem joinWork_clocked (s : State) : Clocked s (joinWork s) := by
  unfold joinWork
  split
  · dsimp only
    split
    · exact ⟨nofun, rfl, fun _ => rfl, fun _ _ => rfl, rfl, rfl, rfl, rfl⟩
    · exact ⟨id, rfl, fun _ => rfl, fun _ _ => rfl, rfl, rfl, rfl, rfl⟩
  · exact .of_timed ⟨rfl, rfl, rfl⟩

theorem moved_lane (len : Nat) (s : State) (l : Fin 9) :
    (moveBoundary len s).lanes[l].state = s.lanes[l].state ∧ (moveBoundary len s).lanes[l].heard = s.lanes[l].heard := by
  simp only [moveBoundary, Fin.getElem_fin, Vector.getElem_mapIdx]
  split
  · exact ⟨rfl, rfl⟩
  · unfold stepWindow
    split <;> exact ⟨rfl, rfl⟩

theorem beginFrame_clocked (s : State) : Clocked s (beginFrame s) :=
  ⟨id, rfl, fun l => (moved_lane _ s l).1, fun l _ => (moved_lane _ s l).2, rfl, rfl, rfl, rfl⟩

/-- The own lane's receiver is no source. -/
theorem loopbackFrame_clocked (s : State) : Clocked s (loopbackFrame s) := by
  unfold loopbackFrame
  split
  · exact .of_timed ⟨rfl, rfl, rfl⟩
  · refine ⟨id, rfl, fun l => ?_, fun l other => ?_, rfl, rfl, rfl, rfl⟩
    · by_cases own : l = s.station.number
      · rw [own, setLane_same]
        rfl
      · rw [setLane_receivers _ _ _ own]
    · rw [setLane_receivers _ _ _ other]

/-! ### Own frames and rounds -/

theorem claimWork_timed (s : State) : TimedAlike s (claimWork s) := by
  rw [Walk.claimWork_carriers]
  exact ⟨rfl, rfl, rfl⟩

theorem timingLaw_roundWork (h : TimingLaw s) (k : RoundWork) : TimingLaw (roundWork k s) := by
  cases k with
  | pass => exact timingLaw_of_timed h (.of_orders (placementPass_onlyStore s).orders)
  | snapshot => exact timingLaw_of_timed h ⟨rfl, rfl, rfl⟩
  | wtr => exact timingLaw_of_timed h ⟨rfl, rfl, rfl⟩
  | timing => exact timingLaw_timingWork h
  | join => exact timingLaw_of_clocked h (joinWork_clocked s)
  | lighting => exact timingLaw_of_timed (timingLaw_of_timed (t := lightingFirst s) h ⟨rfl, rfl, rfl⟩) (claimWork_timed _)
  | claim => exact timingLaw_of_timed h (claimWork_timed s)
  | degraded => exact timingLaw_of_timed h ⟨rfl, rfl, rfl⟩

theorem timingLaw_takeDue (h : TimingLaw s) (k : RoundWork) : TimingLaw (takeDue k s) := by
  unfold takeDue
  split
  · have begun : TimingLaw { s with tx := { s.tx with due := s.tx.due.filter (· ≠ k) } } :=
      timingLaw_of_timed h ⟨rfl, rfl, rfl⟩
    exact timingLaw_of_timed (timingLaw_roundWork begun k) (.noted _ _)
  · exact h

theorem timingLaw_takeWork (h : TimingLaw s) (k : RoundWork) : TimingLaw (takeWork s k) := by
  unfold takeWork
  split
  · exact timingLaw_takeDue (timingLaw_takeDue h .pass) .snapshot
  · exact timingLaw_takeDue h k

theorem timingLaw_takeWorks (ks : List RoundWork) (h : TimingLaw s) : TimingLaw (ks.foldl takeWork s) :=
  List.foldlRecOn _ _ h fun _ h k _ => timingLaw_takeWork h k

theorem timingLaw_roundStart (order : List RoundWork) (h : TimingLaw s) : TimingLaw (roundStart order s) := by
  unfold roundStart
  split
  · exact timingLaw_takeWorks _ (timingLaw_of_timed (timingLaw_takeWorks _ h) ⟨rfl, rfl, rfl⟩)
  · exact h

theorem readAndDeliver_timed (s : State) : TimedAlike s (readAndDeliver s) := by
  have delivered := foldl_onlyStore deliver deliver_onlyStore (s.store.sinks.map fun k => (k, sinkRead s.lanes k)) s
  exact (TimedAlike.of_orders delivered.orders).trans ⟨rfl, rfl, rfl⟩

theorem sendLane_timed (groups : List Group) (s : State) : TimedAlike s (sendLane groups s) := by
  unfold sendLane
  dsimp only
  split <;> exact ⟨rfl, rfl, rfl⟩

theorem frameBody_clocked (groups : List Group) (h : TimingLaw s) : TimingLaw (frameBody groups s) := by
  have sent := timingLaw_of_timed h (sendLane_timed groups s)
  have heard := timingLaw_of_clocked sent (loopbackFrame_clocked _)
  have read := timingLaw_of_timed heard ((readAndDeliver_timed _).trans (.noted (loopbackFrame (sendLane groups s)) _))
  exact timingLaw_of_timed read ((TimedAlike.of_view (viewHeader_onlyView _ _ _ _ _)).trans (.noted _ _))

theorem timingLaw_frameStart (leave : List RoundWork) (leaveSpans : List (Fin 96)) (h : TimingLaw s) :
    TimingLaw (frameStart leave leaveSpans s) := by
  have ite : ∀ {c : Prop} [Decidable c] {u v : State}, TimingLaw u → TimingLaw v → TimingLaw (if c then u else v) := by
    intro c _ u v hu hv
    split
    · exact hu
    · exact hv
  have left : TimingLaw (if s.tx.boundary then s else s.tx.due.foldl takeWork s) := ite h (timingLaw_takeWorks _ h)
  have started := fun s (h : TimingLaw s) => ite (c := s.tx.frame = 15 ∧ s.tx.boundary = false)
    (timingLaw_roundStart (boundaryOrder leave) h) h
  have passed := fun s (h : TimingLaw s) => ite (c := .pass ∈ leave) h (timingLaw_takeWork h .pass)
  unfold frameStart
  refine timingLaw_takeWorks _ (frameBody_clocked _ (timingLaw_takeWork ?_ _))
  have begun := timingLaw_of_clocked (passed _ (started _ left)) (beginFrame_clocked _)
  exact timingLaw_of_timed begun ((TimedAlike.of_orders (sourceDepartures_onlyOrders leaveSpans _)).trans (.noted _ _))

theorem departSink_timed (leaveSpans : List (Fin 96)) (s : State) (tag : Nat) : TimedAlike s (departSink leaveSpans s tag) := by
  have same : TimedAlike s s := ⟨rfl, rfl, rfl⟩
  unfold departSink
  split
  · exact same
  · split
    · rename_i n port _ _
      have ended : TimedAlike s (spanEndOf n s) := .of_orders (spanEndOf_onlyOrders n s)
      dsimp only
      split
      · exact ended
      · rename_i a _
        have departed := fun pins => ended.trans (u := { setAdapter n (some a.depart.adapter) (spanEndOf n s) with
          pins := pins }) ⟨rfl, rfl, rfl⟩
        split
        · exact departed _
        · exact (departed _).trans (.of_orders (spanEndOf_onlyOrders n _))
    · exact same

theorem timingLaw_sinkDepartures (leaveSpans : List (Fin 96)) (h : TimingLaw s) : TimingLaw (sinkDepartures leaveSpans s) :=
  List.foldlRecOn _ _ h fun s h tag _ => timingLaw_of_timed h (departSink_timed leaveSpans s tag)

/-! ### Restarts -/

theorem timingLaw_coldStart (cause : RestartCause) (s : State) : TimingLaw (coldStart cause s) := by
  have absent : ∀ l : Fin 9, (coldStart cause s).lanes[l].state = .absent := fun l => by
    simp [coldStart, State.reset, LaneRx.cold]
  refine ⟨fun _ => absent, fun l => ?_, rfl⟩
  have unqualified : laneQualifies (coldStart cause s) l = false := by
    simp [laneQualifies, absent l, -Fin.getElem_fin]
  rw [unqualified]
  simp [coldStart, State.reset, TimingUnit.cold]

theorem retakeSnapshots_timed (s : State) : TimedAlike s (retakeSnapshots s) :=
  ⟨retakeSnapshots_timing s, retakeSnapshots_lanes s, retakeSnapshots_station s⟩

/-- COLD ends with no lane qualified: no lane was ALIGNED, and the own lane is none of the sources. -/
theorem timingLaw_coldEnd (h : TimingLaw s) (cold : s.station.state = .cold) (straps : Straps) :
    TimingLaw (coldEnd straps s) := by
  have unaligned : ∀ l : Fin 9, laneQualifies s l = false := fun l => by
    simp [laneQualifies, h.cold cold l, -Fin.getElem_fin]
  have unflagged : ∀ l : Fin 9, s.timing.lanes[l].qualified = false := fun l => (h.judged l).trans (unaligned l)
  have begun : TimingLaw (setLane (strapped straps s.station).number LaneRx.own
      { s with station := strapped straps s.station }) := by
    refine ⟨nofun, fun l => (unflagged l).trans (Eq.symm ?_), ?_⟩
    · by_cases own : l = (strapped straps s.station).number
      · simp [laneQualifies, own]
      · have absent : (setLane (strapped straps s.station).number LaneRx.own
            { s with station := strapped straps s.station }).lanes[l].state = .absent := by
          rw [setLane_receivers _ _ _ own]
          exact h.cold cold l
        simp [laneQualifies, absent, -Fin.getElem_fin]
    · have follows := h.follows
      unfold followsOf at follows ⊢
      change match s.timing.selected with | .ref => _ | .free => _ | .lane l => _
      cases source : s.timing.selected with
      | ref => rwa [source] at follows
      | free => rwa [source] at follows
      | lane l =>
        rw [source] at follows
        exact absurd ((unflagged l).symm.trans follows.1) Bool.false_ne_true
  exact timingLaw_of_timed (frameBody_clocked [] begun) (retakeSnapshots_timed _)

theorem restartEngine_clocked (s : State) : Clocked s (restartEngine s) :=
  ⟨nofun, rfl, fun _ => rfl, fun _ _ => rfl, rfl, rfl, rfl, rfl⟩

/-! ### Orders, reads and ports -/

theorem createSourceItem_timed (tag : Nat) (s : State) : TimedAlike s (createSourceItem tag s) := by
  unfold createSourceItem
  split <;> exact ⟨rfl, rfl, rfl⟩

theorem createSinkItem_timed (tag : Nat) (s : State) : TimedAlike s (createSinkItem tag s) := by
  unfold createSinkItem
  split <;> exact ⟨rfl, rfl, rfl⟩

theorem placeSource_timed (q : SourceRequest) (s : State) : TimedAlike s (placeSource q s).2 := by
  unfold placeSource
  split
  · split
    · exact ⟨rfl, rfl, rfl⟩
    · have admitted : ∀ st : OrderStore, TimedAlike s (evalSource q.tag { s with store := st }) := fun st =>
        TimedAlike.trans (t := { s with store := st }) ⟨rfl, rfl, rfl⟩ (.of_orders (evalSource_onlyStore q.tag _).orders)
      exact (admitted _).trans (createSourceItem_timed q.tag _)
  · exact ⟨rfl, rfl, rfl⟩

theorem placeSink_timed (q : SinkRequest) (s : State) : TimedAlike s (placeSink q s).2 := by
  unfold placeSink
  split
  · split
    · exact ⟨rfl, rfl, rfl⟩
    · have admitted : ∀ st : OrderStore, TimedAlike s (evalSink true { s with store := st } q.tag) := fun _ => ⟨rfl, rfl, rfl⟩
      exact (admitted _).trans (createSinkItem_timed q.tag _)
  · exact ⟨rfl, rfl, rfl⟩

theorem spanEndAt_timed (n : Option (Fin 96)) (s : State) : TimedAlike s (spanEndAt n s) :=
  .of_orders (spanEndAt_onlyOrders n s)

theorem removeOrder_timed (direction tag : Nat) (s : State) : TimedAlike s (removeOrder direction tag s).2 := by
  unfold removeOrder
  split
  · exact ⟨rfl, rfl, rfl⟩
  · have completed : TimedAlike s (completeSource tag s) := spanEndAt_timed _ s
    dsimp only
    split
    · exact completed
    · refine completed.trans ?_
      unfold removeSource retireOrDelete
      split <;> exact ⟨rfl, rfl, rfl⟩
  · have completed : TimedAlike s (completeSink tag s) := spanEndAt_timed _ s
    dsimp only
    split
    · exact completed
    · exact completed.trans ⟨rfl, rfl, rfl⟩

theorem restate_timed (tag : Nat) (s : State) : TimedAlike s (restate tag s).2 := by
  unfold restate
  split
  · exact ⟨rfl, rfl, rfl⟩
  · dsimp only
    split
    · exact TimedAlike.trans (t := updateSource tag (fun r => { r with latch := false, faultCount := 0 }) s) ⟨rfl, rfl, rfl⟩
        (.of_orders (evalSource_onlyStore tag _).orders)
    · exact ⟨rfl, rfl, rfl⟩

theorem light_timed (port : Nat) (s : State) : TimedAlike s (light port s).2 := by
  unfold light
  split <;> exact ⟨rfl, rfl, rfl⟩

theorem darken_timed (port : Nat) (s : State) : TimedAlike s (darken port s).2 := by
  unfold darken
  split <;> exact ⟨rfl, rfl, rfl⟩

theorem setAttention_timed (mask enable : Nat) (s : State) : TimedAlike s (setAttention mask enable s).2 := by
  unfold setAttention
  split <;> exact ⟨rfl, rfl, rfl⟩

theorem readOrder_timed (direction tag : Nat) (s : State) : TimedAlike s (readOrder direction tag s) := by
  unfold readOrder
  split
  · exact ⟨rfl, rfl, rfl⟩
  · split <;> exact ⟨rfl, rfl, rfl⟩
  · split <;> exact ⟨rfl, rfl, rfl⟩

theorem readLane_timed (lane : Nat) (s : State) : TimedAlike s (readLane lane s) := by
  unfold readLane
  split <;> exact ⟨rfl, rfl, rfl⟩

theorem readCarrier_timed (port : Nat) (s : State) : TimedAlike s (readCarrier port s) := by
  unfold readCarrier
  split <;> exact ⟨rfl, rfl, rfl⟩

theorem releaseHold_timed (s : State) : TimedAlike s (releaseHold s) := by
  unfold releaseHold
  split
  · exact TimedAlike.trans (t := setHold false s) ⟨rfl, rfl, rfl⟩ (.of_orders (evalEverySink_onlyStore _).orders)
  · exact ⟨rfl, rfl, rfl⟩

theorem windowMissed_timed (p : Fin 4) (s : State) : TimedAlike s (windowMissed p s) := by
  unfold windowMissed
  dsimp only
  split <;> exact ⟨rfl, rfl, rfl⟩

theorem extractFor_timed (p : Fin 4) (tiles : List Tile) (s : State) (tag : Nat) : TimedAlike s (extractFor p tiles s tag) := by
  have marked : ∀ i, TimedAlike s (updateSource tag (fun r => { r with ingress := i }) s) := fun _ => ⟨rfl, rfl, rfl⟩
  unfold extractFor
  split
  · exact ⟨rfl, rfl, rfl⟩
  · split
    · exact ⟨rfl, rfl, rfl⟩
    · split
      · split
        · dsimp only
          split
          · exact (marked _).trans (.of_orders (arriveAt_onlyStore _ _ _).orders)
          · exact marked _
        · exact marked _
      · exact ⟨rfl, rfl, rfl⟩

theorem timingLaw_farEndFrame (h : TimingLaw s) (p : Fin 4) (f : EndedFrame) : TimingLaw (farEndFrame p f s) :=
  List.foldlRecOn _ _ (timingLaw_of_timed h ⟨rfl, rfl, rfl⟩) fun s h tag _ =>
    timingLaw_of_timed h (extractFor_timed p f.tiles s tag)

/-! ### The commands -/

theorem timingLaw_guarded {c : Prop} [Decidable c] (h : TimingLaw s) (ht : c → TimingLaw t) :
    TimingLaw (if c then Machine.finish s t else s) := by
  split
  · exact timingLaw_finish (ht ‹_›) s
  · exact h

theorem timingLaw_request {code : Byte} {len : Option Nat} {x : Transfer} {body : List Byte → State → State}
    (h : TimingLaw s) (hb : ∀ ps s, TimingLaw s → TimingLaw (body ps s)) : TimingLaw (request code len x body s) := by
  have out : TimingLaw (shifted x.spoiled (transferSize x) s) := timingLaw_of_timed h ⟨rfl, rfl, rfl⟩
  have answered : ∀ st, TimingLaw (respond code.toNat st [] (shifted x.spoiled (transferSize x) s)) :=
    fun _ => timingLaw_of_timed h ⟨rfl, rfl, rfl⟩
  unfold request
  refine timingLaw_finish ?_ s
  split
  · exact out
  · split
    · exact answered _
    · split
      · exact answered _
      · split
        · exact hb _ _ out
        · exact answered _

/-- A request whose body is seen by no part of the Timing Unit. -/
theorem timingLaw_plain {code : Byte} {len : Option Nat} {x : Transfer} {body : List Byte → State → State}
    (h : TimingLaw s) (hb : ∀ ps s, TimedAlike s (body ps s)) : TimingLaw (request code len x body s) :=
  timingLaw_request h fun ps s h => timingLaw_of_timed h (hb ps s)

theorem not_cold_of_peerLane (h : peerLane l s = true) : s.station.state ≠ .cold := by
  simp only [peerLane, running, Bool.and_eq_true, decide_eq_true_eq] at h
  exact h.1

open Walk (NextHas nextHas_next) in
theorem exec_timingLaw (i : Instr) (h : TimingLaw s) : NextHas TimingLaw (exec i s) := by
  have peer : ∀ {l : Fin 9} {b : Bool}, (peerLane l s && b) = true → s.station.state ≠ .cold := fun e =>
    not_cold_of_peerLane (Bool.and_eq_true_iff.1 e).1
  cases i with
  | nop x => exact nextHas_next (timingLaw_plain h fun _ _ => ⟨rfl, rfl, rfl⟩)
  | placeSource x => exact nextHas_next (timingLaw_plain h fun _ s => (placeSource_timed _ s).trans ⟨rfl, rfl, rfl⟩)
  | placeSink x => exact nextHas_next (timingLaw_plain h fun _ s => (placeSink_timed _ s).trans ⟨rfl, rfl, rfl⟩)
  | remove x => exact nextHas_next (timingLaw_plain h fun _ s => (removeOrder_timed _ _ s).trans ⟨rfl, rfl, rfl⟩)
  | restate x => exact nextHas_next (timingLaw_plain h fun _ s => (restate_timed _ s).trans ⟨rfl, rfl, rfl⟩)
  | light x => exact nextHas_next (timingLaw_plain h fun _ s => (light_timed _ s).trans ⟨rfl, rfl, rfl⟩)
  | darken x => exact nextHas_next (timingLaw_plain h fun _ s => (darken_timed _ s).trans ⟨rfl, rfl, rfl⟩)
  | readOrder x => exact nextHas_next (timingLaw_plain h fun _ s => readOrder_timed _ _ s)
  | readChanges x => exact nextHas_next (timingLaw_plain h fun _ _ => ⟨rfl, rfl, rfl⟩)
  | readLane x => exact nextHas_next (timingLaw_plain h fun _ s => readLane_timed _ s)
  | readCarrier x => exact nextHas_next (timingLaw_plain h fun _ s => readCarrier_timed _ s)
  | readStation x => exact nextHas_next (timingLaw_plain h fun _ _ => ⟨rfl, rfl, rfl⟩)
  | setAttention x => exact nextHas_next (timingLaw_plain h fun _ s => (setAttention_timed _ _ s).trans ⟨rfl, rfl, rfl⟩)
  | restartEngine x =>
    exact nextHas_next (timingLaw_request h fun _ s h => timingLaw_of_timed
      (timingLaw_of_clocked h (restartEngine_clocked s)) ⟨rfl, rfl, rfl⟩)
  | undefinedCommandCode code x =>
    refine nextHas_next ?_
    split
    · exact timingLaw_plain h fun _ _ => ⟨rfl, rfl, rfl⟩
    · exact h
  | transferIncomplete bytes spoiled =>
    exact nextHas_next (timingLaw_guarded h fun _ => timingLaw_of_timed h ⟨rfl, rfl, rfl⟩)
  | powerUp => exact nextHas_next (timingLaw_finish (timingLaw_coldStart .power s) s)
  | resetAsserted => exact nextHas_next (timingLaw_guarded h fun _ => timingLaw_coldStart .pin s)
  | coldStartEnd straps =>
    refine nextHas_next ?_
    split
    · exact h
    · rename_i cold
      refine timingLaw_finish (timingLaw_coldEnd h ?_ straps) s
      simpa [running] using cold
  | holdAsserted => exact nextHas_next (timingLaw_finish (timingLaw_of_timed (t := setHold true s) h ⟨rfl, rfl, rfl⟩) s)
  | holdReleased => exact nextHas_next (timingLaw_finish (timingLaw_of_timed h (releaseHold_timed s)) s)
  | clientIngressBurst port blocks =>
    refine nextHas_next ?_
    split
    · split
      · exact h
      · exact timingLaw_finish (timingLaw_of_timed h (.of_orders (arriveAt_onlyStore _ _ s).orders)) s
    · exact h
  | ownFrameStart leave leaveSpans => exact nextHas_next (timingLaw_guarded h fun _ => timingLaw_frameStart leave leaveSpans h)
  | clientSinkDeparture leaveSpans =>
    exact nextHas_next (timingLaw_guarded h fun _ =>
      timingLaw_sinkDepartures leaveSpans (timingLaw_of_timed h ⟨rfl, rfl, rfl⟩))
  | spanEnd n =>
    exact nextHas_next (timingLaw_guarded h fun _ => timingLaw_of_timed h (.of_orders (spanEndOf_onlyOrders n s)))
  | ownRoundStart order => exact nextHas_next (timingLaw_finish (timingLaw_roundStart order h) s)
  | releaseCountExpiry tag =>
    refine nextHas_next ?_
    split
    · exact h
    · exact timingLaw_guarded h fun _ => timingLaw_takeWork h .pass
  | wtrExpiry tag =>
    refine nextHas_next ?_
    split
    · exact h
    · exact timingLaw_guarded h fun _ => timingLaw_takeWork h .wtr
  | staggerExpiry port => exact nextHas_next (timingLaw_guarded h fun _ => timingLaw_of_timed h ⟨rfl, rfl, rfl⟩)
  | claimRoundEnd port => exact nextHas_next (timingLaw_guarded h fun _ => timingLaw_of_timed h ⟨rfl, rfl, rfl⟩)
  | join => exact nextHas_next (timingLaw_guarded h fun _ => timingLaw_takeWork h .join)
  | laneMarkerArrival lane t =>
    exact nextHas_next (timingLaw_guarded h fun e => timingLaw_marker h (not_cold_of_peerLane e) lane t)
  | trackingMove lane t => exact nextHas_next (timingLaw_guarded h fun e => timingLaw_marker h (peer e) lane t)
  | laneHeaderReceived lane words tiles =>
    exact nextHas_next (timingLaw_guarded h fun e => timingLaw_header h (not_cold_of_peerLane e) lane words tiles)
  | staleManifestClear lane cause =>
    refine nextHas_next (timingLaw_guarded h fun e => ?_)
    cases cause with
    | header words tiles => exact timingLaw_header h (peer e) lane words tiles
    | unheard => exact timingLaw_window h (peer e) lane
  | markerWindowCheck lane =>
    exact nextHas_next (timingLaw_guarded h fun e => timingLaw_window h (not_cold_of_peerLane e) lane)
  | missedMarkerLimit lane => exact nextHas_next (timingLaw_guarded h fun e => timingLaw_window h (peer e) lane)
  | carrierMarkerArrival port t => exact nextHas_next (timingLaw_guarded h fun _ => timingLaw_of_timed h ⟨rfl, rfl, rfl⟩)
  | carrierSyncEntry port t => exact nextHas_next (timingLaw_guarded h fun _ => timingLaw_of_timed h ⟨rfl, rfl, rfl⟩)
  | carrierWindowClose port => exact nextHas_next (timingLaw_guarded h fun _ => timingLaw_of_timed h (windowMissed_timed port s))
  | carrierSyncLoss port => exact nextHas_next (timingLaw_guarded h fun _ => timingLaw_of_timed h (windowMissed_timed port s))
  | farEndFrameEnd port frame => exact nextHas_next (timingLaw_guarded h fun _ => timingLaw_farEndFrame h port frame)
  | refPulse t => exact nextHas_next (timingLaw_guarded h fun _ => timingLaw_pulse h t)
  | refQualified t => exact nextHas_next (timingLaw_guarded h fun _ => timingLaw_pulse h t)
  | refWindowClose => exact nextHas_next (timingLaw_guarded h fun _ => timingLaw_refMiss h)
  | refDisqualified => exact nextHas_next (timingLaw_guarded h fun _ => timingLaw_refMiss h)

/-- Settles O8: every change of a receiver or of the REF record comes with the judgement it calls for. -/
theorem everyStepKeepsTheTimingLaw : Obligations.EveryStepKeepsTheTimingLaw := by
  intro s t h hstep
  unfold step at hstep
  split at hstep
  · cases hstep
    exact h
  · rename_i c rest _
    exact exec_timingLaw (s := { s with pending := rest }) c (timingLaw_of_timed h ⟨rfl, rfl, rfl⟩) t hstep

/-- Settles O11. -/
theorem ownLevelIsOneMoreThanTheFollowedLane : Obligations.OwnLevelIsOneMoreThanTheFollowedLane := by
  intro s h
  have lane : ∀ l : Fin 9, s.timing.selected = .lane l → l ≠ s.station.number ∧ s.lanes[l].state = .aligned ∧
      ∃ x, s.lanes[l].heard = some x ∧ x.source ≠ s.station.number.val ∧ s.timing.level = x.level + 1 ∧ 1 ≤ x.level ∧
        x.level ≤ 13 := by
    intro l source
    have follows := h.follows
    unfold followsOf at follows
    rw [source] at follows
    obtain ⟨q, level⟩ := follows
    rw [h.judged] at q
    cases heard : s.lanes[l].heard with
    | none => simp [laneQualifies, heard, -Fin.getElem_fin] at q
    | some x =>
      obtain ⟨own, aligned, -, ⟨low, high⟩, -, names, -⟩ := (laneQualifies_iff heard).1 q
      unfold heardLevel at level
      rw [heard] at level
      exact ⟨own, aligned, x, rfl, names, level, low, high⟩
  have bounds : 1 ≤ s.timing.level ∧ s.timing.level ≤ 14 := by
    have follows := h.follows
    unfold followsOf at follows
    cases source : s.timing.selected with
    | ref =>
      rw [source] at follows
      omega
    | free =>
      rw [source] at follows
      omega
    | lane l =>
      obtain ⟨-, -, x, -, -, level, low, high⟩ := lane l source
      omega
  refine ⟨bounds.1, bounds.2, fun l source => ?_⟩
  obtain ⟨own, aligned, x, heard, names, level, -⟩ := lane l source
  exact ⟨own, aligned, x, heard, names, level⟩

end Sys2Proof.TimingWalk
end

section
/-! PROOFS. Requests that execute nothing (R178 to R180): refused, discarded, NOP and incomplete transfers (O15, O16). -/

namespace Sys2Proof.Requests

open Sys2Proof.Machine Sys2Proof.Safety

variable {code : Byte} {len : Option Nat} {x : Transfer} {s : State} {body : List Byte → State → State}

/-- Every command of the table is one transfer through the envelope of a request, with its code and length. -/
theorem exec_commandTable {e : Byte × Nat × (Transfer → Instr)} (h : e ∈ commandTable) (x : Transfer) (s : State) :
    ∃ body, exec (e.2.2 x) s = .next (request e.1 (some e.2.1) x body s) := by
  simp only [commandTable, List.mem_cons, List.not_mem_nil, or_false] at h
  rcases h with rfl | rfl | rfl | rfl | rfl | rfl | rfl | rfl | rfl | rfl | rfl | rfl | rfl | rfl <;> exact ⟨_, rfl⟩

theorem exec_undefined (h : 13 < code.toNat) (x : Transfer) (s : State) :
    exec (.undefinedCommandCode code x) s = .next (request code none x (fun _ s => s) s) := by
  change execUndefinedCommandCode code x s = _
  unfold execUndefinedCommandCode
  rw [if_pos h]

/-- A transfer that leaves a refusal changes the slot and MSO alone. -/
theorem finish_refused (runs : s.station.state ≠ .cold) (whole : x.spoiled = none) (st : Status) :
    finish s (respond code.toNat st [] (shifted x.spoiled (transferSize x) s)) = onlyAnswered code st x s := by
  have port := respond_shifted_mport (code := code) (st := st) (payload := []) (x := x) runs
  rw [responseBytes_plain] at port
  rw [whole, onlyAnswered, ← port]
  exact finish_quiet rfl rfl rfl rfl rfl

/-- What a transfer of `n` bytes shifts out, and nothing else. -/
def shiftedOut (sent : List Byte) (n : Nat) (s : State) : State := { s with
  mport := { s.mport with mso := sent.take n ++ List.replicate (n - sent.length) 255 }
  report := attended s.station.state s.report }

theorem finish_shifted (spoiled : Option Nat) (n : Nat) (s : State) : finish s (shifted spoiled n s) =
    shiftedOut (if s.station.state = .cold ∨ spoiled ≠ none then s.mport.emptied.take (spoiled.getD 0) else s.mport.slot) n s := by
  have quiet : finish s (shifted spoiled n s) = { shifted spoiled n s with report := attended s.station.state s.report } :=
    finish_quiet rfl rfl rfl rfl rfl
  rw [quiet]
  unfold shifted shiftedOut shiftOut filler
  by_cases met : s.station.state = .cold ∨ spoiled ≠ none
  · simp [met, Option.isSome_iff_ne_none]
  · simp [met, Option.isSome_iff_ne_none]

theorem request_discarded (met : s.station.state = .cold ∨ x.spoiled ≠ none) :
    request code len x body s = shiftedOut (s.mport.emptied.take (x.spoiled.getD 0)) (transferSize x) s := by
  rw [request_spoiled met, finish_shifted, if_pos met]

/-- Settles O15: each command's transfer meets the envelope's checks before its body. -/
theorem refusedRequestsChangeOnlyTheSlot : Obligations.RefusedRequestsChangeOnlyTheSlot := by
  refine ⟨fun e he x s runs whole => ?_, fun code x s undefined runs whole => ?_, ?_⟩
  · obtain ⟨body, happens⟩ := exec_commandTable he x s
    refine ⟨fun bad => ?_, fun good other => ?_⟩
    · rw [happens, request_badSum runs whole bad, finish_refused runs whole]
    · rw [happens, request_badForm runs whole good fun e => other (Option.some.inj e).symm, finish_refused runs whole]
  · rw [exec_undefined undefined]
    refine ⟨fun bad => ?_, fun good => ?_⟩
    · rw [request_badSum runs whole bad, finish_refused runs whole]
    · rw [request_badForm (len := none) runs whole good (fun e => nomatch e), finish_refused runs whole]
  · rintro c x s sent n (⟨e, he, rfl⟩ | ⟨code, undefined, rfl⟩) met rfl rfl
    · obtain ⟨body, happens⟩ := exec_commandTable he x s
      rw [happens, request_discarded met]
      rfl
    · rw [exec_undefined undefined, request_discarded met]
      rfl

/-- Settles O16. -/
theorem nopAndIncompleteTransfersExecuteNothing : Obligations.NopAndIncompleteTransfersExecuteNothing := by
  refine ⟨fun x s accepted => congrArg _ (request_onlyAnswered accepted rfl), ?_⟩
  rintro bytes spoiled s sent incomplete rfl
  change execTransferIncomplete bytes spoiled s = _
  unfold execTransferIncomplete
  rw [if_pos incomplete, finish_shifted]
  rfl

end Sys2Proof.Requests
end

section
/-! PROOFS. The Report Unit at the end of a command (R183, R187): the comparison of each item, item by item; LIGHT and DARKEN (O25). -/

namespace Sys2Proof.Reports

open Sys2Proof.Machine Sys2Proof.Safety

variable {s t : State}

theorem note_flag {α : Type} [DecidableEq α] (it : Item α) (a b : α) : (it.note a b).flag = flagAfter it a b := by
  unfold Item.note flagAfter
  by_cases h : a ≠ b ∧ b ≠ it.snap
  · simp [h]
  · rw [if_neg h, ← Bool.decide_and, decide_eq_false h, Bool.or_false]

theorem noteChanges_sources (e : t.store.sources = s.store.sources) : (noteChanges s t).sources = t.report.sources :=
  (List.map_congr_left fun x _ => noteSource_same s t e x).trans (List.map_id _)

theorem noteChanges_sinks (e : t.store.sinks = s.store.sinks) : (noteChanges s t).sinks = t.report.sinks :=
  (List.map_congr_left fun x _ => noteSink_same s t e x).trans (List.map_id _)

theorem noteChanges_lane (s t : State) (l : Fin 9) : (noteChanges s t).lanes[l] =
    t.report.lanes[l].note (laneReport s.lanes[l]) (laneReport t.lanes[l]) := by
  simp [noteChanges]

theorem noteChanges_port (s t : State) (p : Fin 4) : (noteChanges s t).ports[p] =
    t.report.ports[p].note (portReport s.carriers.ports[p]) (portReport t.carriers.ports[p]) := by
  simp [noteChanges]

theorem noteChanges_lanes (e : t.lanes = s.lanes) : (noteChanges s t).lanes = t.report.lanes :=
  Vector.ext fun i h => (noteChanges_lane s t ⟨i, h⟩).trans (e ▸ note_same _ _)

theorem noteChanges_ports (e : t.carriers.ports = s.carriers.ports) : (noteChanges s t).ports = t.report.ports :=
  Vector.ext fun i h => (noteChanges_port s t ⟨i, h⟩).trans (e ▸ note_same _ _)

theorem noteChanges_station (e : stationReport t = stationReport s) : (noteChanges s t).station = t.report.station :=
  (congrArg (t.report.station.note (stationReport s)) e).trans (note_same _ _)

/-- The engine after a command that ends outside COLD: every item is compared, and ATTN follows its terms. -/
theorem finish_running (running : t.station.state ≠ .cold) (s : State) : finish s t =
    { t with report := attended t.station.state (noteChanges s t) } := by
  unfold finish noted
  rw [if_neg running]
  rfl

/-- A command ends in COLD without a comparison (R170, R189). -/
theorem finish_cold (cold : t.station.state = .cold) (s : State) : finish s t =
    { t with report := { t.report with attn := false } } := by
  unfold finish noted updateAttn attnLevel
  rw [if_pos cold, cold]
  rfl

/-- The report of a command that changes no order and no lane. -/
theorem finish_ports (running : t.station.state ≠ .cold) (sources : t.store.sources = s.store.sources)
    (sinks : t.store.sinks = s.store.sinks) (lanes : t.lanes = s.lanes) : finish s t = { t with report := { t.report with
      ports := (finish s t).report.ports, station := (finish s t).report.station, attn := (finish s t).report.attn } } := by
  have items : noteChanges s t = { t.report with ports := (noteChanges s t).ports, station := (noteChanges s t).station } :=
    calc noteChanges s t = { t.report with sources := (noteChanges s t).sources, sinks := (noteChanges s t).sinks
                                           lanes := (noteChanges s t).lanes, ports := (noteChanges s t).ports
                                           station := (noteChanges s t).station } := rfl
      _ = _ := by rw [noteChanges_sources sources, noteChanges_sinks sinks, noteChanges_lanes lanes]
  rw [finish_running running, items]
  rfl

theorem finish_port (running : t.station.state ≠ .cold) (p : Fin 4) : (finish s t).report.ports[p] =
    t.report.ports[p].note (portReport s.carriers.ports[p]) (portReport t.carriers.ports[p]) := by
  rw [finish_running running]
  exact noteChanges_port s t p

theorem finish_lane (running : t.station.state ≠ .cold) (l : Fin 9) : (finish s t).report.lanes[l] =
    t.report.lanes[l].note (laneReport s.lanes[l]) (laneReport t.lanes[l]) := by
  rw [finish_running running]
  exact noteChanges_lane s t l

theorem finish_stationItem (running : t.station.state ≠ .cold) : (finish s t).report.station =
    t.report.station.note (stationReport s) (stationReport t) := by
  rw [finish_running running]
  rfl

theorem stationReport_finish (s t : State) : stationReport (finish s t) = stationReport t := by
  unfold stationReport
  simp

end Sys2Proof.Reports
end

section
namespace Sys2Proof.Lighting

open Sys2Proof.Machine Sys2Proof.Safety Sys2Proof.Requests Sys2Proof.Reports

variable {s : State} {p : Fin 4} {x : Transfer} {y : CarrierPort}

theorem light_eq (p : Fin 4) (s : State) : light p.val s = (.done, setPort p (lightPort s.carriers.ports[p]) s) := dif_pos p.isLt

theorem darken_eq (p : Fin 4) (s : State) :
    darken p.val s = (.done, transmitterOff p (setPort p (darkenPort s.carriers.ports[p]) s)) := dif_pos p.isLt

theorem light_range {n : Nat} (h : 3 < n) (s : State) : light n s = (.range, s) := dif_neg (by omega)

theorem darken_range {n : Nat} (h : 3 < n) (s : State) : darken n s = (.range, s) := dif_neg (by omega)

/-- A state test that no port's change answers differently. -/
theorem any_set {α : Type} {n : Nat} (v : Vector α n) (i : Fin n) (x : α) {f : α → Bool} (e : f x = f v[i]) :
    (v.set i x).toList.any f = v.toList.any f := by
  rw [Bool.eq_iff_iff, List.any_eq_true, List.any_eq_true]
  simp only [Vector.mem_toList_iff, Vector.mem_iff_getElem]
  have same : ∀ (j : Nat) (hj : j < n), f (v.set i x)[j] = f v[j] := fun j hj => by
    rw [Vector.getElem_set]
    split
    · next h => subst h; exact e
    · rfl
  constructor
  · rintro ⟨_, ⟨j, hj, rfl⟩, h⟩
    exact ⟨_, ⟨j, hj, rfl⟩, same j hj ▸ h⟩
  · rintro ⟨_, ⟨j, hj, rfl⟩, h⟩
    exact ⟨_, ⟨j, hj, rfl⟩, (same j hj).trans h⟩

theorem announcement_set (ports : Vector CarrierPort 4) (p : Fin 4) (claiming : y.state = .claiming ↔ ports[p].state = .claiming)
    (lighting : y.state = .lighting ↔ ports[p].state = .lighting) : announcement (ports.set p y) = announcement ports := by
  unfold announcement
  rw [any_set ports p y (by simpa using claiming), any_set ports p y (by simpa using lighting)]

theorem lightPort_inactive (p : CarrierPort) :
    ((lightPort p).state = .claiming ↔ p.state = .claiming) ∧ ((lightPort p).state = .lighting ↔ p.state = .lighting) := by
  unfold lightPort
  split
  · next h => simp [h]
  · simp

theorem lightPort_eq (p : CarrierPort) :
    if p.state = .dark then lightPort p = { p with state := .waiting } else lightPort p = p := by
  unfold lightPort
  split <;> rfl

theorem darkenPort_eq (p : CarrierPort) :
    if p.state = .dark then darkenPort p = p else darkenPort p = { p with state := .dark, stagger := none } := by
  unfold darkenPort
  split <;> rfl

/-- The engine with one port changed and a response left. -/
theorem stationReport_setPort (h : y.state = .claiming ↔ s.carriers.ports[p].state = .claiming)
    (g : y.state = .lighting ↔ s.carriers.ports[p].state = .lighting) : stationReport (setPort p y s) = stationReport s := by
  unfold stationReport
  rw [setPort, announcement_set _ p h g]

/-- The engine before the comparison that ends a LIGHT. -/
def lightAnswered (x : Transfer) (p : Fin 4) (s : State) : State :=
  respond (5 : Byte).toNat .done [] (setPort p (lightPort s.carriers.ports[p]) (shifted none (transferSize x) s))

/-- The engine before the comparison that ends a DARKEN. -/
def darkenAnswered (x : Transfer) (p : Fin 4) (s : State) : State :=
  respond (6 : Byte).toNat .done []
    (transmitterOff p (setPort p (darkenPort s.carriers.ports[p]) (shifted none (transferSize x) s)))

theorem exec_light (accepted : Accepted 5 1 x s) (port : param x.params 0 = p.val) :
    exec (.light x) s = .next (finish s (lightAnswered x p s)) := by
  change Host.Outcome.next (request 5 (some 1) x _ s) = _
  rw [request_of_accepted accepted, answer, port, light_eq]
  rfl

theorem exec_darken (accepted : Accepted 6 1 x s) (port : param x.params 0 = p.val) :
    exec (.darken x) s = .next (finish s (darkenAnswered x p s)) := by
  change Host.Outcome.next (request 6 (some 1) x _ s) = _
  rw [request_of_accepted accepted, answer, port, darken_eq]
  rfl

/-- What the end of a command that moved one port leaves of the port items. -/
theorem port_items {u : State} (runs : u.station.state ≠ .cold) (ports : u.carriers.ports = s.carriers.ports.set p y)
    (items : u.report.ports = s.report.ports) :
    (∀ q : Fin 4, q ≠ p → (finish s u).report.ports[q] = s.report.ports[q]) ∧
      (finish s u).report.ports[p].snap = s.report.ports[p].snap ∧
      (finish s u).report.ports[p].flag = flagAfter s.report.ports[p] (portReport s.carriers.ports[p]) (portReport y) := by
  refine ⟨fun q other => ?_, ?_, ?_⟩
  · rw [finish_port runs, ports, items, SourceChoice.getElem_set_ne _ _ other, note_same]
  · rw [finish_port runs, note_snap, items]
  · rw [finish_port runs, note_flag, items, ports]
    exact congrArg (fun z => flagAfter _ _ (portReport z)) (Vector.getElem_set_self _)

/-- Settles O25: one port moves, and the comparison at the end of the command flags its item alone. -/
theorem lightAndDarkenMoveOnePort : Obligations.LightAndDarkenMoveOnePort := by
  refine ⟨fun x s p accepted port => ?_, fun x s p accepted port => ?_, fun x s beyond => ⟨fun accepted => ?_, fun accepted => ?_⟩⟩
  · have runs : (lightAnswered x p s).station.state ≠ .cold := accepted.runs
    have report : stationReport (lightAnswered x p s) = stationReport s :=
      stationReport_setPort (s := s) (lightPort_inactive _).1 (lightPort_inactive _).2
    have slot : (lightAnswered x p s).mport = portAfter (plainResponse 5 .done) x s := by
      rw [← responseBytes_plain]
      exact respond_shifted_mport (code := 5) accepted.runs
    have item : (finish s (lightAnswered x p s)).report.station = s.report.station := by
      rw [finish_stationItem runs, report, note_same]
      rfl
    refine ⟨_, _, exec_light accepted port, lightPort_eq _, ?_, port_items runs rfl rfl⟩
    refine (finish_ports (s := s) runs rfl rfl rfl).trans ?_
    rw [item, slot]
    rfl
  · have runs : (darkenAnswered x p s).station.state ≠ .cold := accepted.runs
    have slot : (darkenAnswered x p s).mport = portAfter (plainResponse 6 .done) x s := by
      rw [← responseBytes_plain]
      exact respond_shifted_mport (code := 6) accepted.runs
    obtain ⟨others, snap, flag⟩ := port_items (s := s) (u := darkenAnswered x p s) runs rfl rfl
    refine ⟨_, _, exec_darken accepted port, darkenPort_eq _, ?_, others, snap, flag, ?_, ?_⟩
    · refine (finish_ports (s := s) runs rfl rfl rfl).trans ?_
      rw [slot]
      rfl
    · rw [finish_stationItem runs, note_snap]
      rfl
    · rw [finish_stationItem runs, note_flag, stationReport_finish]
      rfl
  · exact congrArg _ (request_onlyAnswered accepted (by rw [answer, light_range beyond]; rfl))
  · exact congrArg _ (request_onlyAnswered accepted (by rw [answer, darken_range beyond]; rfl))

end Sys2Proof.Lighting
end

section
/-! PROOFS. Restarts (O26, O28) and the HOLD edges (O29). -/

namespace Sys2Proof.Restarts

open Sys2Proof.Machine Sys2Proof.Safety Sys2Proof.Requests Sys2Proof.Reports

variable {s t : State} {x : Transfer}

/-- A cold start leaves nothing to compare, and ATTN is off already. -/
theorem finish_coldStart (cause : RestartCause) (s before : State) :
    finish before (coldStart cause s) = coldStart cause s := finish_cold rfl before

theorem exec_powerUp (s : State) : exec .powerUp s = .next (coldStart .power s) :=
  congrArg Host.Outcome.next (finish_coldStart _ s s)

theorem exec_resetAsserted (running : s.station.state ≠ .cold) : exec .resetAsserted s = .next (coldStart .pin s) := by
  change Host.Outcome.next (if Machine.running s then _ else _) = _
  rw [if_pos (Arrival.running_iff.mpr running), finish_coldStart]

theorem exec_resetAsserted_cold (cold : s.station.state = .cold) : exec .resetAsserted s = .next s := by
  change Host.Outcome.next (if Machine.running s then _ else _) = _
  rw [if_neg fun running => Arrival.running_iff.mp running cold]

theorem getElem_replicate {α : Type} {n : Nat} (v : α) (i : Fin n) : (Vector.replicate n v)[i] = v := Vector.getElem_replicate ..

/-- Settles O26: each value is the one that the record of its block gives for a cold start. -/
theorem coldStartTakesColdValues : Obligations.ColdStartTakesColdValues := by
  refine ⟨fun s => ⟨_, exec_powerUp s, rfl, rfl, rfl, rfl⟩, fun s running => ⟨_, exec_resetAsserted running, rfl, rfl, rfl, rfl⟩,
    fun s => exec_resetAsserted_cold, fun s t started => ?_⟩
  obtain ⟨cause, rfl⟩ : ∃ cause, t = coldStart cause s := by
    rcases started with h | ⟨running, h⟩
    · exact ⟨_, (Host.Outcome.next.inj ((exec_powerUp s).symm.trans h)).symm⟩
    · exact ⟨_, (Host.Outcome.next.inj ((exec_resetAsserted running).symm.trans h)).symm⟩
  have lane (l : Fin 9) : (coldStart cause s).lanes[l] = LaneRx.cold := getElem_replicate _ l
  have view (l : Fin 9) : (coldStart cause s).view[l] = LaneView.cold := getElem_replicate _ l
  have port (p : Fin 4) : (coldStart cause s).carriers.ports[p] = CarrierPort.cold := getElem_replicate _ p
  refine ⟨⟨rfl, rfl, rfl, rfl, rfl, getElem_replicate _, getElem_replicate _,
      fun p => ⟨getElem_replicate _ p, getElem_replicate _ p⟩, fun p i => ⟨?_, ?_⟩⟩, rfl, fun l => ?_, fun l => ?_,
    ⟨rfl, rfl, rfl, rfl, rfl, rfl, rfl, rfl, rfl, rfl, getElem_replicate _⟩, fun p => ?_,
    fun i => ⟨getElem_replicate _ i, getElem_replicate _ i⟩,
    ⟨rfl, rfl, rfl, rfl, rfl, fun l => congrArg Item.flag (getElem_replicate _ l),
      fun p => congrArg Item.flag (getElem_replicate _ p), rfl⟩, rfl, rfl, getElem_replicate _, getElem_replicate _⟩
  · exact (congrArg (fun m : Vector (Option Nat) 40 => m[i]) (getElem_replicate _ p)).trans (getElem_replicate _ i)
  · exact (congrArg (fun m : Vector (Option Nat) 40 => m[i]) (getElem_replicate _ p)).trans (getElem_replicate _ i)
  · rw [lane]
    exact ⟨rfl, rfl, rfl, rfl, rfl, rfl, rfl, rfl, rfl, rfl, rfl, rfl, rfl, rfl⟩
  · rw [view]
    exact ⟨rfl, rfl, rfl, rfl, rfl, rfl⟩
  · rw [port]
    exact ⟨rfl, rfl, rfl, rfl, rfl, rfl, rfl, rfl, rfl, rfl⟩

/-! ### RESTART ENGINE -/

/-- The engine before the comparison that ends a RESTART ENGINE. -/
def restartAnswered (x : Transfer) (s : State) : State :=
  respond (13 : Byte).toNat .done [] (restartEngine (shifted none (transferSize x) s))

theorem exec_restartEngine (accepted : Accepted 13 0 x s) :
    exec (.restartEngine x) s = .next (finish s (restartAnswered x s)) :=
  congrArg Host.Outcome.next (request_of_accepted accepted _)

/-- An item whose snapshot was taken at the event is not flagged by it. -/
theorem note_taken {α : Type} [DecidableEq α] (it : Item α) (before : α) : it.note before it.snap = it :=
  if_neg fun h => h.2 rfl

theorem attnLevel_unflagged {st : StationState} {r : ReportUnit} (sources : r.sources = []) (sinks : r.sinks = [])
    (lanes : ∀ l : Fin 9, r.lanes[l].flag = false) (ports : ∀ p : Fin 4, r.ports[p].flag = false)
    (station : r.station.flag = false) : attnLevel st r = false := by
  have order : r.orderPending = false := by rw [ReportUnit.orderPending, sources, sinks]; rfl
  have lane : r.lanePending = false := List.any_eq_false.mpr fun it mem => by
    obtain ⟨i, h, rfl⟩ := Vector.mem_iff_getElem.mp (Vector.mem_toList_iff.mp mem)
    simpa using lanes ⟨i, h⟩
  have carrier : r.carrierPending = false := List.any_eq_false.mpr fun it mem => by
    obtain ⟨i, h, rfl⟩ := Vector.mem_iff_getElem.mp (Vector.mem_toList_iff.mp mem)
    simpa using ports ⟨i, h⟩
  simp [attnLevel, order, lane, carrier, station]

/-- What a RESTART ENGINE leaves in the Report Unit: the items of the shelf, taken as they stand. -/
theorem restart_items (x : Transfer) (s : State) :
    (finish s (restartAnswered x s)).report.sources = [] ∧ (finish s (restartAnswered x s)).report.sinks = [] ∧
    (∀ l : Fin 9, (finish s (restartAnswered x s)).report.lanes[l] = { snap := laneReport s.lanes[l], flag := false }) ∧
    (∀ p : Fin 4, (finish s (restartAnswered x s)).report.ports[p] = { snap := portReport s.carriers.ports[p], flag := false }) ∧
    (finish s (restartAnswered x s)).report.station = { snap := stationReport (restartAnswered x s), flag := false } := by
  have runs : (restartAnswered x s).station.state ≠ .cold := fun h => nomatch h
  refine ⟨?_, ?_, fun l => ?_, fun p => ?_, ?_⟩
  · rw [finish_running runs]
    rfl
  · rw [finish_running runs]
    rfl
  · rw [finish_lane runs]
    exact (note_same _ _).trans (Vector.getElem_map ..)
  · rw [finish_port runs]
    exact (note_same _ _).trans (Vector.getElem_map ..)
  · rw [finish_stationItem runs]
    exact note_taken _ _

theorem restart_attn (x : Transfer) (s : State) : (finish s (restartAnswered x s)).report.attn = false := by
  obtain ⟨sources, sinks, lanes, ports, station⟩ := restart_items x s
  have attn : (finish s (restartAnswered x s)).report.attn =
      attnLevel (finish s (restartAnswered x s)).station.state (finish s (restartAnswered x s)).report := rfl
  exact attn.trans (attnLevel_unflagged sources sinks (fun l => by rw [lanes]) (fun p => by rw [ports]) (by rw [station]))

/-- Settles O28. -/
theorem restartEngineKeepsTheShelf : Obligations.RestartEngineKeepsTheShelf := by
  intro x s accepted
  have runs : (restartAnswered x s).station.state ≠ .cold := fun h => nomatch h
  have slot : (restartAnswered x s).mport = portAfter (plainResponse 13 .done) x s := by
    rw [← responseBytes_plain]
    exact respond_shifted_mport (code := 13) accepted.runs
  obtain ⟨sources, sinks, lanes, ports, station⟩ := restart_items x s
  have store : (finish s (restartAnswered x s)).store = OrderStore.empty := finish_store ..
  refine ⟨_, exec_restartEngine accepted, ?_, fun p => ?_, ?_, ?_, ?_, ?_, ?_, fun n => ?_, fun i => ?_, fun p => ?_, fun p i => ?_,
    sources, sinks, restart_attn x s, lanes, ports, ?_, ?_⟩
  · rw [finish_running runs, ← slot]
    rfl
  · rw [finish_pins]
    refine (Vector.getElem_map ..).trans ?_
    change ClientEgress.drop s.pins.clientOut[p] = _
    cases s.pins.clientOut[p] <;> rfl
  all_goals try rw [store]
  · rfl
  · rfl
  · rfl
  · rfl
  · rfl
  · exact getElem_replicate _ n
  · exact getElem_replicate _ i
  · exact ⟨getElem_replicate _ p, getElem_replicate _ p⟩
  · exact ⟨(congrArg (fun m : Vector (Option Nat) 40 => m[i]) (getElem_replicate _ p)).trans (getElem_replicate _ i),
      (congrArg (fun m : Vector (Option Nat) 40 => m[i]) (getElem_replicate _ p)).trans (getElem_replicate _ i)⟩
  · rw [station, stationReport_finish]
  · rw [station]
    rfl

end Sys2Proof.Restarts
end

section
namespace Sys2Proof.Holding

open Sys2Proof.Machine Sys2Proof.Safety Sys2Proof.Reports Sys2Proof.Notices

variable {s t : State}

/-- Records taken one after another by their keys, each once. -/
theorem foldl_map_key {α : Type} (key : α → Nat) (f : α → α) (hf : ∀ x, key (f x) = key x) (keys : List Nat)
    (distinct : keys.Nodup) (l : List α) : keys.foldl (fun l n => l.map fun x => if key x = n then f x else x) l =
      l.map fun x => if key x ∈ keys then f x else x := by
  induction keys generalizing l with
  | nil => simp
  | cons n keys ih =>
    obtain ⟨fresh, distinct⟩ := List.nodup_cons.mp distinct
    rw [List.foldl_cons, ih distinct, List.map_map]
    refine List.map_congr_left fun x _ => ?_
    by_cases h : key x = n
    · simp only [Function.comp, h, if_true, hf, fresh, if_false, List.mem_cons, true_or]
    · simp only [Function.comp, h, if_false, List.mem_cons, false_or]

/-- The evaluation of one sink, without a judgement of its class-mismatch flag. -/
def evaluated (s : State) (k : Sink) : Sink := k.evaluate (candidates s k.tag k.cls) s.pins.hold

theorem foldl_evalSink_unjudged (tags : List Nat) (s : State) : tags.foldl (evalSink false) s = withSinks
    (tags.foldl (fun l n => l.map fun k => if k.tag = n then evaluated s k else k) s.store.sinks) s := by
  induction tags generalizing s with
  | nil => rfl
  | cons tag tags ih => exact (ih _).trans rfl

theorem evaluated_tag (s : State) (k : Sink) : (evaluated s k).tag = k.tag := by
  unfold evaluated
  rw [evaluate_keeps]

/-- The release of HOLD evaluates every sink once. -/
theorem evalEverySink_eq (tags : (s.store.sinks.map (·.tag)).Nodup) :
    evalEverySink s = withSinks (s.store.sinks.map (evaluated s)) s := by
  unfold evalEverySink
  rw [foldl_evalSink_unjudged, foldl_map_key _ _ (evaluated_tag s) _ tags]
  exact congrArg (withSinks · s) (List.map_congr_left fun k mem => if_pos (List.mem_map_of_mem mem))

theorem finish_hold_only (report : t.report = s.report) (only : t = { s with pins := t.pins }) : finish s t = { t with report := { s.report with
    station := (finish s t).report.station, attn := (finish s t).report.attn } } := by
  by_cases cold : t.station.state = .cold
  · rw [finish_cold cold, report]
  · have e := SourceChoice.finish_timing_only (s := s) cold (by rw [only]) (by rw [only]) (by rw [only])
    rwa [report] at e

/-- The report of a command that changes no source, no lane and no port. -/
theorem finish_sinks (running : t.station.state ≠ .cold) (sources : t.store.sources = s.store.sources)
    (lanes : t.lanes = s.lanes) (ports : t.carriers.ports = s.carriers.ports) : finish s t = { t with report := { t.report with
      sinks := (finish s t).report.sinks, station := (finish s t).report.station, attn := (finish s t).report.attn } } := by
  have items : noteChanges s t = { t.report with sinks := (noteChanges s t).sinks, station := (noteChanges s t).station } :=
    calc noteChanges s t = { t.report with sources := (noteChanges s t).sources, sinks := (noteChanges s t).sinks
                                           lanes := (noteChanges s t).lanes, ports := (noteChanges s t).ports
                                           station := (noteChanges s t).station } := rfl
      _ = _ := by rw [noteChanges_sources sources, noteChanges_lanes lanes, noteChanges_ports ports]
  rw [finish_running running, items]
  rfl

/-- Settles O29. -/
theorem holdEdgesEvaluateAtReleaseAlone : Obligations.HoldEdgesEvaluateAtReleaseAlone := by
  refine ⟨fun s => ⟨_, rfl, finish_hold_only rfl rfl⟩, fun s running table => ⟨_, rfl, ?_⟩, fun s cold => ⟨_, rfl, ?_⟩⟩
  · have released : releaseHold s = withSinks (s.store.sinks.map (evaluated (setHold false s))) (setHold false s) :=
      (if_pos (Arrival.running_iff.mpr running)).trans (evalEverySink_eq (s := setHold false s) table.tags)
    rw [released]
    exact finish_sinks (s := s) running rfl rfl rfl
  · have released : releaseHold s = setHold false s := if_neg fun running => Arrival.running_iff.mp running cold
    rw [released, finish_cold (t := setHold false s) cold s]
    rfl

end Sys2Proof.Holding
end

section
/-! PROOFS. In COLD nothing moves (O3). -/

namespace Sys2Proof.Cold

open Sys2Proof.Machine Sys2Proof.Safety Sys2Proof.Requests Sys2Proof.Reports Sys2Proof.Walk

variable {s t : State}

/-- What a command may leave in COLD: the HOLD level of its input, and on MSO the bytes of the slot that COLD emptied. -/
def ColdStep (s t : State) : Prop :=
  t = s ∨ ∃ (hold : Bool) (mso : List Byte),
    t = { s with
      report := { s.report with attn := false }
      mport := { s.mport with mso := mso }
      pins := { s.pins with hold := hold } } ∧
    (mso = s.mport.mso ∨ ∃ (before n : Nat), mso = (s.mport.emptied.take before).take n ++
      List.replicate (n - (s.mport.emptied.take before).length) 255)

theorem coldStep_ite {c : Prop} [Decidable c] (h : ¬ c) : ColdStep s (if c then t else s) := .inl (if_neg h)

theorem coldStep_hold (cold : s.station.state = .cold) (hold : Bool) : ColdStep s (finish s (setHold hold s)) :=
  .inr ⟨hold, s.mport.mso, finish_cold (t := setHold hold s) cold s, .inl rfl⟩

theorem coldStep_quiet (cold : s.station.state = .cold) : ColdStep s (finish s s) :=
  .inr ⟨s.pins.hold, s.mport.mso, finish_cold cold s, .inl rfl⟩

theorem coldStep_shifted (cold : s.station.state = .cold) (before n : Nat) :
    ColdStep s (shiftedOut (s.mport.emptied.take before) n s) := by
  refine .inr ⟨s.pins.hold, _, ?_, .inr ⟨before, n, rfl⟩⟩
  unfold shiftedOut attended attnLevel
  rw [cold]
  rfl

theorem coldStep_request {code : Byte} {len : Option Nat} {x : Transfer} {body : List Byte → State → State}
    (cold : s.station.state = .cold) : ColdStep s (request code len x body s) := by
  rw [request_discarded (.inl cold)]
  exact coldStep_shifted cold _ _

theorem not_running (cold : s.station.state = .cold) : running s = false := by simp [running, cold]

theorem not_peerLane (cold : s.station.state = .cold) (l : Fin 9) : peerLane l s = false := by simp [peerLane, running, cold]

theorem not_refTaken (cold : s.station.state = .cold) : refTaken s = false := by simp [refTaken, running, cold]

theorem exec_coldStep (c : Instr) (cold : s.station.state = .cold) (up : c ≠ .powerUp)
    (ends : ∀ straps, c ≠ .coldStartEnd straps) : NextHas (ColdStep s) (exec c s) := by
  have run := not_running cold
  have ref := not_refTaken cold
  have peer := not_peerLane cold
  cases c with
  | nop => exact nextHas_next (coldStep_request cold)
  | placeSource => exact nextHas_next (coldStep_request cold)
  | placeSink => exact nextHas_next (coldStep_request cold)
  | remove => exact nextHas_next (coldStep_request cold)
  | restate => exact nextHas_next (coldStep_request cold)
  | light => exact nextHas_next (coldStep_request cold)
  | darken => exact nextHas_next (coldStep_request cold)
  | readOrder => exact nextHas_next (coldStep_request cold)
  | readChanges => exact nextHas_next (coldStep_request cold)
  | readLane => exact nextHas_next (coldStep_request cold)
  | readCarrier => exact nextHas_next (coldStep_request cold)
  | readStation => exact nextHas_next (coldStep_request cold)
  | setAttention => exact nextHas_next (coldStep_request cold)
  | restartEngine => exact nextHas_next (coldStep_request cold)
  | undefinedCommandCode code x =>
    refine nextHas_next ?_
    split
    · exact coldStep_request cold
    · exact .inl rfl
  | transferIncomplete bytes spoiled =>
    refine nextHas_next ?_
    split
    · rw [finish_shifted, if_pos (.inl cold)]
      exact coldStep_shifted cold _ _
    · exact .inl rfl
  | powerUp => exact absurd rfl up
  | resetAsserted => exact nextHas_next (coldStep_ite (by simp [run]))
  | coldStartEnd straps => exact absurd rfl (ends straps)
  | holdAsserted => exact nextHas_next (coldStep_hold cold true)
  | holdReleased =>
    refine nextHas_next ?_
    rw [releaseHold, if_neg (by simp [run])]
    exact coldStep_hold cold false
  | clientIngressBurst => exact nextHas_next (.inl (if_neg (by simp [run])))
  | ownFrameStart => exact nextHas_next (coldStep_ite (by simp [run]))
  | clientSinkDeparture => exact nextHas_next (coldStep_ite (by simp [run]))
  | spanEnd => exact nextHas_next (coldStep_ite (by simp [run]))
  | ownRoundStart order =>
    refine nextHas_next ?_
    rw [roundStart, if_neg (by simp [run])]
    exact coldStep_quiet cold
  | releaseCountExpiry tag =>
    refine nextHas_next ?_
    split
    · exact .inl rfl
    · exact coldStep_ite (by simp [run])
  | wtrExpiry tag =>
    refine nextHas_next ?_
    split
    · exact .inl rfl
    · exact coldStep_ite (by simp [run])
  | staggerExpiry => exact nextHas_next (coldStep_ite (by simp [cold]))
  | claimRoundEnd => exact nextHas_next (coldStep_ite (by simp [cold]))
  | join => exact nextHas_next (coldStep_ite (by simp [cold]))
  | laneMarkerArrival => exact nextHas_next (coldStep_ite (by simp [peer]))
  | trackingMove => exact nextHas_next (coldStep_ite (by simp [peer]))
  | laneHeaderReceived => exact nextHas_next (coldStep_ite (by simp [peer]))
  | staleManifestClear => exact nextHas_next (coldStep_ite (by simp [peer]))
  | markerWindowCheck => exact nextHas_next (coldStep_ite (by simp [peer]))
  | missedMarkerLimit => exact nextHas_next (coldStep_ite (by simp [peer]))
  | carrierMarkerArrival => exact nextHas_next (coldStep_ite (by simp [run]))
  | carrierSyncEntry => exact nextHas_next (coldStep_ite (by simp [run]))
  | carrierWindowClose => exact nextHas_next (coldStep_ite (by simp [run]))
  | carrierSyncLoss => exact nextHas_next (coldStep_ite (by simp [run]))
  | farEndFrameEnd => exact nextHas_next (coldStep_ite (by simp [run]))
  | refPulse => exact nextHas_next (coldStep_ite (by simp [ref]))
  | refQualified => exact nextHas_next (coldStep_ite (by simp [ref]))
  | refWindowClose => exact nextHas_next (coldStep_ite (by simp [ref]))
  | refDisqualified => exact nextHas_next (coldStep_ite (by simp [ref]))

/-- Settles O3: in COLD a command idles, moves the HOLD level, or shifts out what COLD left of the slot. -/
theorem coldTakesNothing : Obligations.ColdTakesNothing := by
  intro c s t cold up ends happens
  rcases exec_coldStep c cold up ends t happens with rfl | ⟨hold, mso, rfl, bytes⟩
  · exact ⟨rfl, id, fun _ => rfl, .inl rfl⟩
  · refine ⟨rfl, fun h => (nomatch h), fun law => ?_, ?_⟩
    · have off : s.report.attn = false := law.trans (by rw [cold]; rfl)
      rw [← off]
    · rcases bytes with rfl | ⟨before, n, rfl⟩
      · exact .inl rfl
      · exact .inr ⟨before, n, _, rfl, rfl⟩

end Sys2Proof.Cold
end

section
/-! PROOFS. The own frame from its header on (R23 to R27, R42, R93 to R98), part by part; the end of a cold start (O27). -/

namespace Sys2Proof.Frames

open Sys2Proof.Machine Sys2Proof.Safety Sys2Proof.Notices

variable {s t : State} {groups : List Group}

theorem noted_report (s t : State) : noted s t = { t with report := (noted s t).report } := by
  unfold noted
  split <;> rfl

theorem noted_onlyView {u v : State} (h : OnlyView u v) (before : State) : noted before v = { u with
    store := (noted before v).store, view := (noted before v).view, report := (noted before v).report } := by
  rw [noted_store, noted_view]
  exact (noted_report before v).trans (congrArg (fun w : State => { w with report := (noted before v).report }) h)

/-! ### The own frame -/

/-- The snapshot a frame sends from: empty in a round whose frame 0 carries LISTEN (R44). -/
def snapshotSent (s : State) : List Entry :=
  if s.tx.frame = 0 ∧ s.station.state ≠ .joined then [] else s.tx.snapshot

def sentFrom (s : State) : State := { s with tx := { s.tx with snapshot := snapshotSent s } }

def frameSent (groups : List Group) (s : State) : LaneFrame where
  words := headerWords (ownHeard (sentFrom s)) (fragmentSlots (snapshotSent s) s.tx.frame)
  tiles := laneTiles groups s.tx.frameLen

theorem sendLane_eq (groups : List Group) (s : State) : sendLane groups s =
    { sentFrom s with pins := { s.pins with laneOut := some (frameSent groups s) } } := by
  unfold sendLane sentFrom frameSent sentFrom snapshotSent
  dsimp only
  split <;> rfl

/-- The own lane's receiver after its own frame. -/
def ownLane (groups : List Group) (s : State) : LaneRx :=
  ownReceiver (ownHeard (sentFrom s)) (laneTiles groups s.tx.frameLen) s.lanes[s.station.number]

/-! ### Reads and deliveries -/

/-- What each sink reads of the frame. -/
def reads (s : State) : List (Sink × Option (Quality × List Block)) := s.store.sinks.map fun k => (k, sinkRead s.lanes k)

/-- The frames of the carrier ports. -/
def carriersSent (s : State) : Vector (Option CarrierFrame) 4 := Vector.ofFn fun p : Fin 4 =>
  carrierSend s.station.number s.tx.frameLen
    ((((reads s).filterMap fun e => sinkGroup e.1 e.2).filter (·.1 = p)).map Prod.snd) p s.carriers.ports[p].state

/-- What the client ports send as the frame begins. -/
def clientsStart (s : State) : Vector ClientEgress 32 :=
  s.pins.clientOut.mapIdx fun i x => egressStart (s.store.clientEgr[i]?.getD none) x

theorem readAndDeliver_eq (s : State) : readAndDeliver s = { s with
    store := ((reads s).foldl deliver s).store
    pins := { s.pins with carrierOut := carriersSent s, clientOut := clientsStart s } } := by
  have delivered : (reads s).foldl deliver s = { s with store := ((reads s).foldl deliver s).store } :=
    foldl_onlyStore deliver deliver_onlyStore _ s
  change (fun d : State => { d with pins := { d.pins with
    carrierOut := carriersSent s
    clientOut := d.pins.clientOut.mapIdx fun i x => egressStart (s.store.clientEgr[i]?.getD none) x } })
      ((reads s).foldl deliver s) = _
  rw [delivered]
  rfl

/-! ### The frame and its header heard back -/

/-- The own frame is sent and stands in the own lane's alignment buffer. -/
def heardBack (groups : List Group) (s : State) : State := loopbackFrame (sendLane groups s)

theorem heardBack_eq (groups : List Group) (s : State) : heardBack groups s = { sentFrom s with
    lanes := s.lanes.set s.station.number (ownLane groups s)
    pins := { s.pins with laneOut := some (frameSent groups s) } } := by
  unfold heardBack
  rw [sendLane_eq]
  rfl

/-- The frame's reads have been delivered. -/
def readOut (groups : List Group) (s : State) : State := readAndDeliver (heardBack groups s)

/-- What the own header makes of the own lane's record: `old` is the header heard before it. -/
def ownRecord (old : Option Heard) (s : State) : LaneView × Bool :=
  s.view[s.station.number].header (ownHeard s) (fragmentSlots s.tx.snapshot s.tx.frame) (epochChanged old s.station.epoch)

theorem loopbackHeader_eq (old : Option Heard) (s : State) :
    loopbackHeader old s = setView s.station.number (ownRecord old s).1 (ownRecord old s).2 s := rfl

theorem ownRecord_noted (old : Option Heard) (s t : State) : ownRecord old (noted s t) = ownRecord old t := by
  rw [noted_report]
  rfl

theorem loopbackHeader_noted (old : Option Heard) (s t : State) :
    SeenAlike (loopbackHeader old t) (loopbackHeader old (noted s t)) := by
  rw [loopbackHeader_eq, loopbackHeader_eq, ownRecord_noted, noted_station]
  exact (SeenAlike.noted s t).setView _ _ _

theorem frameBody_seen (groups : List Group) (s : State) :
    SeenAlike (loopbackHeader s.lanes[s.station.number].heard (readOut groups s)) (frameBody groups s) :=
  (loopbackHeader_noted _ (heardBack groups s) _).trans (.noted _ _)

/-- The work of an own frame boundary from the header on: the notices of the own record move orders alone. -/
theorem frameBody_eq (groups : List Group) (s : State) : frameBody groups s = { readOut groups s with
    view := (readOut groups s).view.set s.station.number (ownRecord s.lanes[s.station.number].heard (readOut groups s)).1
    store := (loopbackHeader s.lanes[s.station.number].heard (readOut groups s)).store
    report := (frameBody groups s).report } := by
  have read : readOut groups s = { heardBack groups s with store := (readOut groups s).store, pins := (readOut groups s).pins } := by
    unfold readOut
    rw [readAndDeliver_eq]
  have station : (readOut groups s).station = s.station := by rw [read, heardBack_eq]; rfl
  have seen := frameBody_seen groups s
  have only : frameBody groups s = { noted (heardBack groups s) (readOut groups s) with
      store := (frameBody groups s).store, view := (frameBody groups s).view, report := (frameBody groups s).report } :=
    noted_onlyView (viewHeader_onlyView _ _ _ _ _) _
  have view := seen.view
  rw [loopbackHeader_eq, setView_view, station] at view
  rw [← view, ← seen.store]
  refine only.trans ?_
  rw [noted_report]

theorem onlyView_report {u v : State} (h : OnlyView u v) : v.report = u.report := by rw [h]

theorem noteChanges_enable (s t : State) : (noted s t).report.enable = t.report.enable := by
  unfold noted
  split <;> rfl

theorem frameBody_enable (groups : List Group) (s : State) : (frameBody groups s).report.enable = s.report.enable := by
  have headed : (frameBody groups s).report.enable = (noted (heardBack groups s) (readOut groups s)).report.enable :=
    (noteChanges_enable _ _).trans (congrArg ReportUnit.enable
      (onlyView_report (viewHeader_onlyView _ _ _ _ (noted (heardBack groups s) (readOut groups s)))))
  rw [headed, noteChanges_enable]
  unfold readOut
  rw [readAndDeliver_eq, heardBack_eq]
  rfl

theorem setView_quiet {l : Fin 9} (absent : s.view[l].manifest = none) (v : LaneView) :
    setView l v false s = { s with view := s.view.set l v } := by
  unfold setView
  rw [absent]
  rfl

/-- The own frame of a LISTEN station without sink orders, whose own record holds no manifest: no order moves. -/
theorem frameBody_idle (none : s.store.sinks = []) (listen : s.station.state = .listen)
    (absent : s.view[s.station.number].manifest = .none) : frameBody groups s = { heardBack groups s with
      view := s.view.set s.station.number { s.view[s.station.number].clear with nextIndex := some (nextFrag s.tx.frame) }
      pins := { (heardBack groups s).pins with
        carrierOut := carriersSent (heardBack groups s), clientOut := clientsStart (heardBack groups s) }
      report := (frameBody groups s).report } := by
  have empty : reads (heardBack groups s) = [] := by
    rw [reads, heardBack_eq]
    exact congrArg (List.map _) none
  have read : readOut groups s = { heardBack groups s with pins := { (heardBack groups s).pins with
      carrierOut := carriersSent (heardBack groups s), clientOut := clientsStart (heardBack groups s) } } := by
    unfold readOut
    rw [readAndDeliver_eq, empty]
    rfl
  have record : ownRecord s.lanes[s.station.number].heard (readOut groups s) =
      ({ s.view[s.station.number].clear with nextIndex := some (nextFrag s.tx.frame) }, false) := by
    have joined : (ownHeard (readOut groups s)).joined = false := by
      rw [read, heardBack_eq]
      simp [ownHeard, sentFrom, listen]
    unfold ownRecord LaneView.header
    rw [joined, read, heardBack_eq]
    rfl
  have view : (readOut groups s).view = s.view := by rw [read, heardBack_eq]; rfl
  have station : (readOut groups s).station = s.station := by rw [read, heardBack_eq]; rfl
  have store : (loopbackHeader s.lanes[s.station.number].heard (readOut groups s)).store = (heardBack groups s).store := by
    rw [loopbackHeader_eq, record, setView_quiet (by rw [view, station, absent]), read]
  refine (frameBody_eq groups s).trans ?_
  rw [store, record, view, read]

end Sys2Proof.Frames
end

section
namespace Sys2Proof.ColdEnd

open Sys2Proof.Machine Sys2Proof.Safety Sys2Proof.Reports Sys2Proof.Restarts Sys2Proof.Frames

variable {s t : State} {straps : Straps}

/-- The engine as it enters LISTEN, before its first own frame. -/
def listening (straps : Straps) (s : State) : State :=
  setLane (strapped straps s.station).number LaneRx.own { s with station := strapped straps s.station }

theorem coldEnd_eq (straps : Straps) (s : State) : coldEnd straps s = retakeSnapshots (frameBody [] (listening straps s)) := rfl

theorem laneTiles_none : laneTiles [] 168 = List.replicate 160 vacantTile := by
  have every : ((List.range 160).filter fun t => 8 + t < 168) = List.range 160 :=
    List.filter_eq_self.mpr fun t h => decide_eq_true (by have := List.mem_range.mp h; omega)
  unfold laneTiles
  rw [every]
  exact (List.map_congr_left fun _ _ => rfl).trans (List.map_const' ..)

/-- The header fields of a station's first own frame. -/
def firstHeard (n : Fin 9) : Heard where
  station := n.val
  epoch := 0
  joined := false
  round := 0
  frag := 0
  level := 8
  source := 15
  light := 0
  count := 0

/-- The first header of a station (R192): its number, and FREE at level 8. -/
theorem firstHeader (n : Fin 9) : headerWords (firstHeard n) (fragmentSlots [] 0) =
    [BitVec.ofNat 16 (4096 * n.val), 0, 36608, 0] ++ List.replicate 24 0 ++
      [BitVec.ofNat 16 (65535 - (4096 * n.val + 36608) % 65536)] := by
  revert n
  decide

variable {cause : RestartCause} {s0 : State}

theorem exec_coldStartEnd (cold : s.station.state = .cold) (straps : Straps) : exec (.coldStartEnd straps) s =
    .next (finish s (retakeSnapshots (frameBody [] (listening straps s)))) := by
  change Host.Outcome.next (if Machine.running s then _ else _) = _
  rw [if_neg fun h => Arrival.running_iff.mp h cold, coldEnd_eq]

/-- The engine that enters LISTEN from the values of COLD. -/
abbrev entering (straps : Straps) (cause : RestartCause) (s0 : State) : State := listening straps (coldStart cause s0)

theorem snapshotSent_entering (straps : Straps) (cause : RestartCause) (s0 : State) : snapshotSent (entering straps cause s0) = [] := ite_self _

theorem heard_entering : ownHeard (sentFrom (entering straps cause s0)) = firstHeard (entering straps cause s0).station.number := by
  have count : (sentFrom (entering straps cause s0)).tx.snapshot = [] := snapshotSent_entering straps cause s0
  unfold ownHeard
  rw [count]
  rfl

/-- The own frame that ends a cold start: the first header goes out and is heard back, and no order moves. -/
theorem body_entering (straps : Straps) (cause : RestartCause) (s0 : State) : frameBody [] (entering straps cause s0) =
    { entering straps cause s0 with
      tx := Transmitter.cold
      lanes := (entering straps cause s0).lanes.set (entering straps cause s0).station.number
        (ownLane [] (entering straps cause s0))
      view := (frameBody [] (entering straps cause s0)).view
      pins := { Pins.cold s0.pins.hold with
        laneOut := some (frameSent [] (entering straps cause s0))
        carrierOut := carriersSent (heardBack [] (entering straps cause s0))
        clientOut := clientsStart (heardBack [] (entering straps cause s0)) }
      report := (frameBody [] (entering straps cause s0)).report } := by
  have absent : (entering straps cause s0).view[(entering straps cause s0).station.number].manifest = none :=
    congrArg LaneView.manifest (getElem_replicate _ _)
  have tx : (sentFrom (entering straps cause s0)).tx = Transmitter.cold :=
    congrArg (fun snap => { Transmitter.cold with snapshot := snap }) (snapshotSent_entering straps cause s0)
  have body := frameBody_idle (groups := []) (s := entering straps cause s0) rfl rfl absent
  have view := congrArg State.view body
  rw [body]
  conv_lhs => rw [heardBack_eq]
  rw [← tx]
  rfl

theorem carriersSent_entering (p : Fin 4) : (carriersSent (heardBack [] (entering straps cause s0)))[p] = none := by
  have dark : (heardBack [] (entering straps cause s0)).carriers.ports[p].state = .dark := by
    rw [heardBack_eq]
    exact congrArg CarrierPort.state (getElem_replicate _ p)
  refine (Vector.getElem_ofFn ..).trans ?_
  unfold carrierSend
  rw [dark]

theorem clientsStart_entering (p : Fin 32) : (clientsStart (heardBack [] (entering straps cause s0)))[p] = .free := by
  rw [heardBack_eq]
  refine (Vector.getElem_mapIdx ..).trans ?_
  have bound : (entering straps cause s0).store.clientEgr[p.val]?.getD none = none := by
    rw [Vector.getElem?_eq_getElem p.isLt]
    exact getElem_replicate _ p
  exact congrArg (fun o => egressStart o _) bound

/-! ### The snapshots taken at the end of a cold start -/

section
variable {u before : State}

theorem retaken_lane (runs : u.station.state ≠ .cold) (l : Fin 9) :
    (finish before (retakeSnapshots u)).report.lanes[l] = { snap := laneReport u.lanes[l], flag := false } := by
  have taken : (retakeSnapshots u).report.lanes[l] = { snap := laneReport u.lanes[l], flag := false } := Vector.getElem_map ..
  rw [finish_lane (t := retakeSnapshots u) runs, taken]
  exact note_taken _ _

theorem retaken_port (runs : u.station.state ≠ .cold) (p : Fin 4) :
    (finish before (retakeSnapshots u)).report.ports[p] = { snap := portReport u.carriers.ports[p], flag := false } := by
  have taken : (retakeSnapshots u).report.ports[p] = { snap := portReport u.carriers.ports[p], flag := false } :=
    Vector.getElem_map ..
  rw [finish_port (t := retakeSnapshots u) runs, taken]
  exact note_taken _ _

theorem retaken_station (runs : u.station.state ≠ .cold) :
    (finish before (retakeSnapshots u)).report.station = { snap := stationReport u, flag := false } := by
  rw [finish_stationItem (t := retakeSnapshots u) runs]
  exact note_taken _ _

theorem retaken_enable (u before : State) : (finish before (retakeSnapshots u)).report.enable = u.report.enable :=
  noteChanges_enable before (retakeSnapshots u)

theorem disabled_attn (runs : u.station.state ≠ .cold) (enable : u.report.enable = false) :
    (finish before (retakeSnapshots u)).report.attn = false := by
  have off : (noteChanges before (retakeSnapshots u)).enable = false := enable
  rw [finish_running (t := retakeSnapshots u) runs]
  simp [attended, attnLevel, off]

end

/-- Settles O27. -/
theorem coldStartEndEntersListen : Obligations.ColdStartEndEntersListen := by
  refine ⟨?_, fun straps s running => ?_⟩
  · rintro straps cause s0 s rfl
    have body := body_entering straps cause s0
    have enable : (frameBody [] (entering straps cause s0)).report.enable = false := frameBody_enable [] _
    refine ⟨_, frameSent [] (entering straps cause s0), exec_coldStartEnd rfl straps, ?_⟩
    change let t := finish (coldStart cause s0) (retakeSnapshots (frameBody [] (entering straps cause s0))); _
    generalize frameBody [] (entering straps cause s0) = u at body enable ⊢
    have station : u.station = strapped straps (Station.cold cause) := congrArg State.station body
    have runs : u.station.state ≠ .cold := by rw [station]; exact nofun
    have lanes : u.lanes = (entering straps cause s0).lanes.set (entering straps cause s0).station.number
        (ownLane [] (entering straps cause s0)) := congrArg State.lanes body
    have pins : u.pins = { Pins.cold s0.pins.hold with
        laneOut := some (frameSent [] (entering straps cause s0))
        carrierOut := carriersSent (heardBack [] (entering straps cause s0))
        clientOut := clientsStart (heardBack [] (entering straps cause s0)) } := congrArg State.pins body
    have timing : u.timing = TimingUnit.cold := congrArg State.timing body
    have carriers : u.carriers = Carriers.cold := congrArg State.carriers body
    have store : u.store = OrderStore.empty := congrArg State.store body
    have tx : u.tx = Transmitter.cold := congrArg State.tx body
    have pending : u.pending = s0.pending := (congrArg State.pending body).trans rfl
    have mport : u.mport = s0.mport.cold := (congrArg State.mport body).trans rfl
    have own : u.lanes[(strapped straps (Station.cold cause)).number] = ownLane [] (entering straps cause s0) := by
      rw [lanes]
      exact Vector.getElem_set_self _
    simp only [finish_station, finish_tx, finish_pins, finish_lanes, finish_carriers, finish_mport, finish_store, finish_timing,
      finish_pending, retakeSnapshots_station, retakeSnapshots_tx, retakeSnapshots_pins, retakeSnapshots_lanes,
      retakeSnapshots_carriers, retakeSnapshots_mport, retakeSnapshots_store, retakeSnapshots_timing, retakeSnapshots_pending,
      station, tx, pins, timing, carriers, store, pending, own]
    have received : ∀ x, (entering straps cause s0).lanes[(entering straps cause s0).station.number] = x →
        (ownLane [] (entering straps cause s0)).state = x.state ∧ (ownLane [] (entering straps cause s0)).held = x.held :=
      fun x same => by
        unfold ownLane
        rw [same]
        exact ⟨rfl, rfl⟩
    obtain ⟨aligned, held⟩ := received LaneRx.own (setLane_same ..)
    refine ⟨rfl, rfl, ?_, ?_, rfl, rfl, rfl, rfl, rfl, rfl, rfl, rfl, rfl, trivial, ?_, laneTiles_none, fun l other => ?_,
      aligned, held, clientsStart_entering, carriersSent_entering, retaken_lane runs, fun p => ?_, ?_,
      (retaken_enable u _).trans enable, disabled_attn runs enable, ?_, rfl, rfl, rfl, rfl, rfl⟩
    · have zero : straps.stg = 0 ↔ straps.stg.val = 0 := Fin.ext_iff
      have one : straps.stg = 1 ↔ straps.stg.val = 1 := Fin.ext_iff
      simp only [strapped, zero, one]
    · exact decide_eq_true_iff.trans Fin.ext_iff
    · refine Eq.trans ?_ (firstHeader _)
      unfold frameSent
      rw [heard_entering, snapshotSent_entering]
      rfl
    · have absent : u.lanes[l] = LaneRx.cold := by
        rw [lanes]
        refine (SourceChoice.getElem_set_ne _ _ other).trans ?_
        exact (setLane_other _ l _ _ (Ne.symm other)).trans (getElem_replicate _ l)
      exact congrArg LaneRx.state absent
    · rw [retaken_port runs, carriers]
    · rw [retaken_station runs]
      unfold stationReport
      rw [station, timing, carriers, pins]
      rfl
    · rw [mport]
      rfl
  · change Host.Outcome.next (if Machine.running s then _ else _) = _
    rw [if_pos (Arrival.running_iff.mpr running)]

end Sys2Proof.ColdEnd
end

section
/-! PROOFS. The engine right after reset (O10). -/

namespace Sys2Proof.Reset

open Sys2Proof.Machine Sys2Proof.Safety Sys2Proof.Restarts

theorem reset_eq : State.reset = coldStart .power State.reset := rfl

theorem reset_free (n : Fin 96) : State.reset.store.pool[n] = none := getElem_replicate _ n

/-- Settles O10: with no order, no allocated record and every lane ABSENT, each law has nothing to break it. -/
theorem resetObeysTheLaws : Obligations.ResetObeysTheLaws := by
  have placement : Placement.PlacementLaw (fun _ => True) State.reset := .empty rfl
  obtain ⟨tiles, withdraw⟩ := Placement.placementLaw_all_iff.mp placement
  have unallocated : (State.reset.store.pool.toList.map reserved).sum = 0 := by
    change ((Vector.replicate 96 (none : Option Adapter)).toList.map reserved).sum = 0
    rw [Vector.toList_replicate, List.map_replicate]
    rfl
  refine ⟨?_, fun n a allocated => ?_, fun p q active => ?_, fun l => ?_, ?_, tiles, withdraw, (Queue.ordered_empty rfl).2,
    Owners.ownerLaw_empty rfl, ⟨List.nodup_nil, fun k mem => nomatch mem⟩, rfl⟩
  · unfold StoreLaw
    rw [unallocated]
    rfl
  · rw [reset_free n] at allocated
    exact nomatch allocated
  · have dark : State.reset.carriers.ports[p] = CarrierPort.cold := getElem_replicate _ p
    rw [dark] at active
    exact nomatch active
  · have cold : State.reset.view[l] = LaneView.cold := getElem_replicate _ l
    rw [cold]
    exact ⟨le_rfl, by simp [LaneView.cold]⟩
  · exact TimingWalk.timingLaw_coldStart .power State.reset

end Sys2Proof.Reset
end

section
/-! PROOFS. The arithmetic of one rate adapter: departure (O35) and span end (O36). -/

namespace Sys2Proof.Rates

open Sys2Proof.Machine Sys2Proof.Safety

variable {a : Adapter} {s : State}

theorem lowResidue_eq (a : Adapter) : (a.lowResidue : Int) = 768 * (a.cls : Int) := by
  unfold Adapter.lowResidue
  omega

theorem highResidue_eq (a : Adapter) : (a.highResidue : Int) = 1280 * (a.cls : Int) := by
  unfold Adapter.highResidue
  omega

theorem cap_eq (a : Adapter) : a.cap = 2500 * a.cls := rfl

theorem rateHigh_eq (a : Adapter) : a.rateHigh = min (a.rnom + a.band) (640000 * a.cls) := by
  unfold Adapter.rateHigh
  rw [cap_eq, ← Nat.mul_assoc]

theorem phase_eq (a : Adapter) : (a.phase + a.rate) % 256 = a.phase + a.rate - 256 * a.nominal := by
  unfold Adapter.nominal
  omega

theorem corrected_eq (a : Adapter) : a.corrected = if a.residue > 1280 * (a.cls : Int) then a.nominal + 1
    else if a.residue < 768 * (a.cls : Int) then a.nominal - 1 else a.nominal := by
  unfold Adapter.corrected
  rw [highResidue_eq, lowResidue_eq]

theorem releases_iff (a : Adapter) : a.releases = true ↔ a.running = true ∨ 768 * (a.cls : Int) ≤ a.residue := by
  unfold Adapter.releases
  rw [Bool.or_eq_true, decide_eq_true_iff, lowResidue_eq]

/-- A departure that hands nothing over: PRIMING goes on (R109). -/
theorem release_priming (h : a.releases = false) : a.release =
    { adapter := { a with phase := (a.phase + a.rate) % 256, running := false }, blocks := [], topUp := min a.nominal a.cap } := by
  unfold Adapter.release
  rw [h]
  rfl

/-- A RUNNING departure (R106 to R108). -/
theorem release_running (h : a.releases = true) : a.release =
    { adapter := { a with
        phase := (a.phase + a.rate) % 256
        running := !decide (a.depth < a.allowed)
        store := a.store.drop (min a.allowed a.depth)
        dets := { a.dets with dry := a.dets.dry || decide (a.depth < a.allowed) } }
      blocks := a.store.take (min a.allowed a.depth)
      topUp := a.allowed - min a.allowed a.depth } := by
  unfold Adapter.release
  rw [h]
  rfl

theorem release_blocks_le (a : Adapter) : a.release.blocks.length ≤ a.cap ∧ a.release.blocks.length ≤ a.depth := by
  have le : a.allowed ≤ a.cap := Nat.min_le_right _ _
  cases h : a.releases with
  | true =>
    rw [release_running h]
    simp only [List.length_take]
    unfold Adapter.depth at *
    omega
  | false =>
    rw [release_priming h]
    exact ⟨Nat.zero_le _, Nat.zero_le _⟩

/-- Settles O35. -/
theorem departureFollowsTheEstimate : Obligations.DepartureFollowsTheEstimate := by
  rintro a f0 f1 cap q step rfl rfl rfl rfl hf1
  have fixed : f1 = a.corrected := hf1.trans (corrected_eq a).symm
  subst fixed
  have allowed : min a.corrected (2500 * a.cls) = a.allowed := rfl
  have handed : min a.corrected (min (2500 * a.cls) a.store.length) = min a.allowed a.depth := (Nat.min_assoc ..).symm
  have phase : a.phase + a.rate - 256 * ((a.phase + a.rate) / 256) = (a.phase + a.rate) % 256 := (phase_eq a).symm
  refine ⟨fun priming low => ?_, fun runs => ?_, release_blocks_le a⟩
  · have idle : a.releases = false := Bool.eq_false_iff.mpr fun h => by
      rcases (releases_iff a).mp h with h | h
      · exact Bool.false_ne_true (priming.symm.trans h)
      · exact absurd h (not_le.mpr low)
    have stays : ({ a with phase := (a.phase + a.rate) % 256, running := false } : Adapter) =
        { a with phase := (a.phase + a.rate) % 256 } := by rw [← priming]
    unfold Adapter.depart
    rw [release_priming idle, phase, stays]
    rfl
  · unfold Adapter.depart
    rw [release_running ((releases_iff a).mpr runs), phase, allowed, handed]
    have running : (!decide (a.depth < a.allowed)) = decide (a.allowed ≤ a.store.length) := by
      rw [← decide_not]
      exact decide_eq_decide.mpr Nat.not_lt
    have topUp : a.allowed - min a.allowed a.depth = a.allowed - a.store.length := by
      change a.allowed - min a.allowed a.store.length = _
      omega
    rw [running, topUp]
    rfl

/-! ### Span end -/

theorem endSpan_rate (a : Adapter) (e : EndedSpan) {target d : Nat}
    (ht : target = min (max (a.measured e) (a.rnom - a.band)) (min (a.rnom + a.band) (640000 * a.cls)))
    (hd : d = if a.rate ≤ target then target - a.rate else a.rate - target) :
    a.slewed e = if (a.outcome e).silent = true then a.rate
      else if a.rate ≤ target then a.rate + (if 16 < d then min d 64 else min d 1)
      else a.rate - (if 16 < d then min d 64 else min d 1) := by
  have goal : min (max (a.measured e) a.rateLow) a.rateHigh = target := by rw [ht, rateHigh_eq]; rfl
  unfold Adapter.slewed
  rw [goal, hd]
  unfold slewStep
  by_cases up : a.rate ≤ target
  · simp only [up, if_true]
  · simp only [up, if_false]

theorem outcome_eq (a : Adapter) (e : EndedSpan) : a.outcome e = {
    rate := e.dets.rate || decide (a.measured e < a.rnom - a.band ∨ a.rnom + a.band < a.measured e)
    overflow := e.dets.overflow
    dry := e.dets.dry
    silent := e.dets.silent || decide (e.arrived = 0) } := by
  unfold Adapter.outcome
  rw [Bool.decide_or, Bool.or_assoc]

theorem release_dets (a : Adapter) : a.release.adapter.dets = a.dets ∨ a.release.adapter.dets = { a.dets with dry := true } := by
  cases h : a.releases with
  | true =>
    rw [release_running h]
    cases dry : decide (a.depth < a.allowed) with
    | true => exact .inr (by rw [Bool.or_true])
    | false => exact .inl (by rw [Bool.or_false])
  | false => exact .inl (by rw [release_priming h])

theorem stepSpan_ends (h : a.spanCount + 1 = 2 ^ a.k) : a.stepSpan = { a with
    spanCount := 0, arrived := 0, dets := Detections.none, ended := some { arrived := a.arrived, dets := a.dets } } := if_pos h

theorem exec_spanEnd (running : s.station.state ≠ .cold) (n : Fin 96) : exec (.spanEnd n) s = .next (finish s (spanEndOf n s)) := by
  change Host.Outcome.next (if Machine.running s then _ else _) = _
  rw [if_pos (Arrival.running_iff.mpr running)]

theorem any_iff (d : Detections) : d.any = true ↔ d.rate = true ∨ d.overflow = true ∨ d.dry = true ∨ d.silent = true := by
  unfold Detections.any
  simp only [Bool.or_eq_true, or_assoc]

/-- A span end left of a record reaches the Health Monitor under the comparison of its command. -/
theorem exec_spanEnd_left (running : s.station.state ≠ .cold) {n : Fin 96} {e : EndedSpan} (ha : s.store.pool[n] = some a)
    (he : a.ended = some e) : exec (.spanEnd n) s =
      .next (finish s (healthOf a (a.outcome e) (setAdapter n (some (a.endSpan e)) s))) := by
  rw [exec_spanEnd running, spanEndOf_some ha he, finish_noted]

theorem healthOf_source (kind : a.kind ≠ .clientSink) (dets : Detections) (s : State) :
    healthOf a dets s = healthSource a.tag dets s := by
  unfold healthOf
  cases h : a.kind with
  | clientSink => exact absurd h kind
  | clientSource => rfl
  | carrierSource => rfl

/-- A span end of a visible source: fault count and latch, and an evaluation at a latch under WITHDRAW (R66, R121, R122). -/
theorem healthSource_visible {tag count : Nat} {dets : Detections} {r : Source} (tags : (s.store.sources.map (·.tag)).Nodup)
    (hr : visibleSource s.store tag = some r) (counted : count = nextFaultCount dets r.faultCount) :
    healthSource tag dets s = if r.latch = false ∧ r.threshold ≤ count ∧ r.action = .withdraw
      then evalSource tag (updateSource tag (fun _ => { r with
        faultCount := count, latch := r.latch || decide (r.threshold ≤ count) }) s)
      else updateSource tag (fun _ => { r with
        faultCount := count, latch := r.latch || decide (r.threshold ≤ count) }) s := by
  obtain ⟨mem, rfl, _⟩ := visibleSource_some hr
  subst counted
  have latch : (r.latch || latches dets r) = (r.latch || decide (r.threshold ≤ nextFaultCount dets r.faultCount)) := by
    unfold latches
    cases r.latch <;> rfl
  have updated : updateSource r.tag (fun r => { r with
      faultCount := nextFaultCount dets r.faultCount, latch := r.latch || latches dets r }) s =
        updateSource r.tag (fun _ => { r with
          faultCount := nextFaultCount dets r.faultCount
          latch := r.latch || decide (r.threshold ≤ nextFaultCount dets r.faultCount) }) s := by
    unfold updateSource
    rw [map_tag_eq tags mem, latch]
  have latching : (latches dets r && decide (r.action = .withdraw)) = true ↔
      r.latch = false ∧ r.threshold ≤ nextFaultCount dets r.faultCount ∧ r.action = .withdraw := by
    simp only [latches, Bool.and_eq_true, Bool.not_eq_true', decide_eq_true_iff, and_assoc]
  unfold healthSource
  rw [hr]
  dsimp only
  rw [updated]
  by_cases h : r.latch = false ∧ r.threshold ≤ nextFaultCount dets r.faultCount ∧ r.action = .withdraw
  · rw [if_pos (latching.mpr h), if_pos h]
  · rw [if_neg fun g => h (latching.mp g), if_neg h]

/-- Settles O36. -/
theorem spanEndMeasuresAndSlews : Obligations.SpanEndMeasuresAndSlews := by
  refine ⟨?_, ?_, fun n s none => ?_, ?_⟩
  · rintro a e rm band target d rfl rfl ht hd
    refine ⟨outcome_eq a e, ?_⟩
    unfold Adapter.endSpan
    rw [endSpan_rate a e ht hd]
    rfl
  · rintro a b ends rfl
    obtain ⟨-, -, -, -, k, -, arrived, count, -⟩ := release_keeps a
    have stepped := stepSpan_ends (a := a.release.adapter) (by rw [k, count]; exact ends)
    refine ⟨{ arrived := a.release.adapter.arrived, dets := a.release.adapter.dets }, ?_, arrived, release_dets a, ?_, ?_, ?_,
      rfl, rfl, rfl⟩
    all_goals
      unfold Adapter.depart
      rw [stepped]
    all_goals rfl
  · by_cases cold : s.station.state = .cold
    · change Host.Outcome.next (if Machine.running s then _ else _) = _
      rw [if_pos cold, if_neg fun h => Arrival.running_iff.mp h cold]
    · rw [if_neg cold, exec_spanEnd cold, spanEndOf_none none]
  · intro n s a e faulty running ha he judged
    have faults : ∀ c, nextFaultCount (a.outcome e) c = if faulty = true then min 15 (c + 1) else 0 := fun c => by
      have any : (a.outcome e).any = faulty := Bool.eq_iff_iff.mpr ((any_iff _).trans judged.symm)
      unfold nextFaultCount
      rw [any]
      rfl
    refine ⟨fun sink => ?_, fun r count t kind tile hr hcount ht => ?_⟩
    · rw [exec_spanEnd_left running ha he]
      unfold healthOf
      rw [sink]
      unfold healthSink
      simp only [faults]
      rfl
    · subst ht
      rw [exec_spanEnd_left running ha he, healthOf_source kind,
        healthSource_visible (s := setAdapter n (some (a.endSpan e)) s) tile.tags hr (hcount.trans (faults _).symm)]
      rfl

end Sys2Proof.Rates
end

section
/-! PROOFS. Tile groups read as sent (O39); the length of an own frame (O42). -/

namespace Sys2Proof.Tiles

open Sys2Proof.Machine Sys2Proof.Safety

variable {groups : List Group} {g : Group} {t : Nat}

/-- Tile `t` is one of the group's. -/
def Holds (g : Group) (t : Nat) : Prop := g.first ≤ t ∧ t < g.first + g.cls

/-- The share of a group's blocks that its tile `t` carries. -/
def share (g : Group) (t : Nat) : List Block := (g.blocks.drop ((t - g.first) * 2500)).take 2500

theorem tileOf_eq (groups : List Group) (t : Nat) : tileOf groups t =
    match groups.find? fun g => g.first ≤ t && t < g.first + g.cls with
    | none => vacantTile
    | some g => if t = g.first then headTile g.tag g.mark g.fill (share g t) else { vacantTile with payload := share g t } := rfl

theorem holds_iff : (g.first ≤ t && t < g.first + g.cls) = true ↔ Holds g t := by
  rw [Bool.and_eq_true, decide_eq_true_iff, decide_eq_true_iff]
  exact Iff.rfl

theorem tileOf_vacant (none : ∀ h ∈ groups, ¬ Holds h t) : tileOf groups t = vacantTile := by
  have found : groups.find? (fun g => g.first ≤ t && t < g.first + g.cls) = .none :=
    List.find?_eq_none.mpr fun h mem held => none h mem (holds_iff.mp held)
  rw [tileOf_eq, found]

/-- A group that meets no other one in the frame. -/
def Apart (groups : List Group) (g : Group) : Prop :=
  g ∈ groups ∧ ∀ h ∈ groups, h ≠ g → h.first + h.cls ≤ g.first ∨ g.first + g.cls ≤ h.first

theorem tileOf_of_apart (apart : Apart groups g) (held : Holds g t) : tileOf groups t =
    if t = g.first then headTile g.tag g.mark g.fill (share g t) else { vacantTile with payload := share g t } := by
  have found : groups.find? (fun g => g.first ≤ t && t < g.first + g.cls) = some g := by
    obtain ⟨h, found⟩ := Option.isSome_iff_exists.mp
      (List.find?_isSome (p := fun g : Group => g.first ≤ t && t < g.first + g.cls).mpr ⟨g, apart.1, holds_iff.mpr held⟩)
    have covers : Holds h t := holds_iff.mp (List.find?_some (p := fun g : Group => g.first ≤ t && t < g.first + g.cls) found)
    by_cases same : h = g
    · rw [found, same]
    · obtain ⟨below, above⟩ := covers
      obtain ⟨low, high⟩ := held
      rcases apart.2 h (List.mem_of_find?_eq_some found) same with before | after <;> omega
  rw [tileOf_eq, found]

/-! ### The header of a group -/

theorem word_toNat {n : Nat} (h : n < 65536) : (word n).toNat = n := by
  unfold word
  rw [BitVec.toNat_ofNat]
  exact Nat.mod_eq_of_lt h

theorem mark_code_lt (m : Mark) : m.code < 4 := by cases m <;> decide

theorem markOfCode_code (m : Mark) : markOfCode m.code = m := by cases m <;> rfl

theorem tagOk_iff {tag : Nat} : tagOk tag = true ↔ 1 ≤ tag ∧ tag ≤ 1048575 := by
  unfold tagOk
  rw [Bool.and_eq_true, decide_eq_true_iff, decide_eq_true_iff, Config.maxTag]

variable {tag fill : Nat} {m : Mark} {p : List Block}

theorem tileTag_headTile (ok : tagOk tag = true) : tileTag (headTile tag m fill p) = tag := by
  obtain ⟨-, high⟩ := tagOk_iff.mp ok
  have code := mark_code_lt m
  unfold tileTag headTile field
  dsimp only
  rw [word_toNat (by omega), word_toNat (by omega)]
  omega

theorem tileMark_headTile : tileMark (headTile tag m fill p) = m := by
  have code := mark_code_lt m
  have bits : field (headTile tag m fill p).w1 11 10 = m.code := by
    unfold headTile field
    dsimp only
    rw [word_toNat (by omega)]
    omega
  unfold tileMark
  rw [bits, markOfCode_code]

theorem tileFill_headTile (h : fill < 65536) : tileFill (headTile tag m fill p) = fill := word_toNat h

/-! ### The payload of a group -/

/-- Tiles whose payloads are the shares of `blocks` give them back. -/
theorem payloadOf_shares (n : Nat) (blocks : List Block) (fits : blocks.length ≤ 2500 * n) (tile : Nat → Tile)
    (shares : ∀ i < n, (tile i).payload = (blocks.drop (i * 2500)).take 2500) :
    payloadOf ((List.range n).map tile) blocks.length = blocks := by
  induction n generalizing blocks tile with
  | zero =>
    have none : blocks = [] := List.length_eq_zero_iff.mp (by omega)
    rw [none]
    rfl
  | succ n ih =>
    have first : (tile 0).payload = blocks.take 2500 := by simpa using shares 0 (by omega)
    have rest : payloadOf ((List.range n).map fun i => tile (i + 1)) (blocks.drop 2500).length = blocks.drop 2500 := by
      refine ih (blocks.drop 2500) (by simp; omega) _ fun i hi => ?_
      rw [shares (i + 1) (by omega), List.drop_drop, Nat.add_mul, Nat.one_mul, Nat.add_comm]
    have head : blocks.take (min blocks.length 2500) = blocks.take 2500 := by
      rw [List.take_eq_take_iff]
      omega
    have left : blocks.length - min blocks.length 2500 = (blocks.drop 2500).length := by simp; omega
    rw [List.range_succ_eq_map, List.map_cons, List.map_map]
    change (tile 0).payload.take (min blocks.length 2500) ++
      List.replicate (min blocks.length 2500 - (tile 0).payload.length) Block.padding ++
        payloadOf ((List.range n).map fun i => tile (i + 1)) (blocks.length - min blocks.length 2500) = blocks
    rw [left, rest, first, List.take_take, List.length_take]
    have none : min blocks.length 2500 - min 2500 blocks.length = 0 := by omega
    rw [none, List.replicate_zero, List.append_nil, Nat.min_eq_left (Nat.min_le_right _ _), head, List.take_append_drop]

/-- A group whose tiles all came through reads as it was sent (R26, R94, R191). -/
theorem readGroup_of_apart {q : Quality} {tiles : List Tile} (apart : Apart groups g) (cls : 0 < g.cls ∧ g.cls ≤ 10)
    (ok : tagOk g.tag = true) (mark : g.mark = q.mark) (fill : g.fill = g.blocks.length)
    (fits : g.blocks.length ≤ 2500 * g.cls) (sent : ∀ t, Holds g t → tileAt tiles t = tileOf groups t) :
    readGroup tiles g.first g.cls g.tag = some (q, g.blocks) := by
  obtain ⟨positive, small⟩ := cls
  have tile : ∀ t, Holds g t → tileAt tiles t =
      if t = g.first then headTile g.tag g.mark g.fill (share g t) else { vacantTile with payload := share g t } :=
    fun t held => (sent t held).trans (tileOf_of_apart apart held)
  have head := tile g.first ⟨le_rfl, by omega⟩
  rw [if_pos rfl] at head
  have payload : ∀ i < g.cls, (tileAt tiles (g.first + i)).payload = (g.blocks.drop (i * 2500)).take 2500 := fun i hi => by
    rw [tile _ ⟨by omega, by omega⟩]
    unfold share
    rw [Nat.add_sub_cancel_left]
    split <;> rfl
  have quality : (tileMark (tileAt tiles g.first)).quality = some q := by
    rw [head, tileMark_headTile, mark]
    cases q <;> rfl
  have passes : (tileTag (tileAt tiles g.first) = g.tag && tileFill (tileAt tiles g.first) ≤ Config.tileBlocks * g.cls) = true := by
    rw [head, tileTag_headTile ok, tileFill_headTile (by omega), fill]
    simpa using fits
  unfold readGroup
  dsimp only
  rw [quality]
  dsimp only
  rw [if_pos passes]
  have filled : tileFill (tileAt tiles g.first) = g.blocks.length := by rw [head, tileFill_headTile (by omega), fill]
  rw [filled, payloadOf_shares g.cls g.blocks fits _ payload]

theorem classOk_bounds {c : Nat} (h : classOk c = true) : 0 < c ∧ c ≤ 10 := by
  unfold classOk at h
  simp only [Bool.or_eq_true, decide_eq_true_iff] at h
  omega

theorem tileAt_map {len : Nat} (f : Nat → Tile) (h : t < len) : tileAt ((List.range len).map f) t = f t := by
  unfold tileAt
  simp [h]

/-- Settles O39. -/
theorem tileGroupReadsAsSent : Obligations.TileGroupReadsAsSent := by
  intro groups g q len mem others classes ok mark fill fits whole
  have apart : Apart groups g := ⟨mem, others⟩
  have cls := classOk_bounds classes
  have head := tileOf_of_apart apart (t := g.first) ⟨le_rfl, by omega⟩
  rw [if_pos rfl] at head
  refine ⟨readGroup_of_apart apart cls ok mark fill fits fun t held => tileAt_map _ (by unfold Holds at held; omega),
    ⟨?_, ?_, ?_⟩, fun t above below => ?_, fun t outside => ?_⟩
  · rw [head, tileTag_headTile ok]
  · rw [head, tileMark_headTile]
  · rw [head, tileFill_headTile (by omega), fill]
  · rw [tileOf_of_apart apart ⟨by omega, below⟩, if_neg (by omega)]
    exact ⟨rfl, rfl, rfl⟩
  · exact tileOf_vacant fun h mem held => by
      obtain ⟨low, high⟩ := held
      rcases outside h mem with before | after <;> omega

/-- Settles O42: a frame's length by the station's state, its place and the phase error. -/
theorem ownFrameStepsInListenAndSlewsInJoined : Obligations.OwnFrameStepsInListenAndSlewsInJoined := by
  rintro f s e he
  have error : phaseError s = e := by
    rw [he]
    unfold phaseError
    cases s.timing.selected <;> rfl
  unfold frameLength
  rw [error]
  refine ⟨?_, ?_, ?_⟩
  · rintro listen d rfl due
    rw [listen]
    exact if_pos (by rcases due with h | h <;> simp [h])
  · rintro joined d rfl last
    rw [joined]
    exact if_pos last
  · rintro (rfl | ⟨listen, due, place⟩ | ⟨joined, place⟩)
    · cases s.station.state <;> rfl
    · rw [listen]
      cases e with
      | none => rfl
      | some d => exact if_neg (by simp [due, place])
    · rw [joined]
      cases e with
      | none => rfl
      | some d => exact if_neg place

end Sys2Proof.Tiles
end

section
/-! PROOFS. The works of a round start, taken one at a time (R68, R87, R142, R147 to R152, R161, R173); the join (O50). -/

namespace Sys2Proof.Works

open Sys2Proof.Machine Sys2Proof.Safety Sys2Proof.Reports

variable {s t u : State} {w : RoundWork} {order : List RoundWork}

/-- Two states with the same items to compare. -/
structure ReportedAlike (s u : State) : Prop where
  store : u.store = s.store
  lanes : u.lanes = s.lanes
  carriers : u.carriers = s.carriers
  station : stationReport u = stationReport s

theorem noted_before (alike : ReportedAlike s u) (t : State) : noted u t = noted s t := by
  unfold noted
  rw [noteChanges_before t alike.store alike.lanes alike.carriers alike.station]

theorem finish_noted_before (alike : ReportedAlike s u) (t : State) : finish s (noted u t) = finish s t := by
  rw [noted_before alike, finish_noted]

/-- A comparison of its own, at the end of a command that began with the same items, adds nothing. -/
theorem finish_event (alike : ReportedAlike s u) (f : State → State) : finish s (event f u) = finish s (f u) :=
  finish_noted_before alike (f u)

/-- The engine with the works of the round start that are left due. -/
def leaving (due : List RoundWork) (s : State) : State := { s with tx := { s.tx with due := due } }

theorem leaving_alike (due : List RoundWork) (s : State) : ReportedAlike s (leaving due s) := ⟨rfl, rfl, rfl, rfl⟩

theorem takeDue_due (due : w ∈ s.tx.due) : takeDue w s = event (roundWork w) (leaving (s.tx.due.filter (· ≠ w)) s) := if_pos due

theorem takeDue_idle (idle : w ∉ s.tx.due) : takeDue w s = s := if_neg idle

theorem takeWork_due (other : w ≠ .snapshot) (due : w ∈ s.tx.due) :
    takeWork s w = event (roundWork w) (leaving (s.tx.due.filter (· ≠ w)) s) := by
  unfold takeWork
  rw [if_neg other, takeDue_due due]

theorem takeWork_idle (other : w ≠ .snapshot) (idle : w ∉ s.tx.due) : takeWork s w = s := by
  unfold takeWork
  rw [if_neg other, takeDue_idle idle]

/-- A command that takes one work and ends. -/
theorem finish_takeWork (other : w ≠ .snapshot) (due : w ∈ s.tx.due) :
    finish s (takeWork s w) = finish s (roundWork w (leaving (s.tx.due.filter (· ≠ w)) s)) := by
  rw [takeWork_due other due, finish_event (leaving_alike _ s)]

/-! ### The round start -/

/-- The round that begins when frame 15 gives way, with `due` left of its works. -/
def begun (due : List RoundWork) (s : State) : State :=
  { s with tx := { s.tx with roundNo := (s.tx.roundNo + 1) % 65536, boundary := true, due := due } }

theorem begun_alike (due : List RoundWork) (s : State) : ReportedAlike s (begun due s) := ⟨rfl, rfl, rfl, rfl⟩

theorem roundStart_eq (running : s.station.state ≠ .cold) (last : s.tx.frame = 15) (before : s.tx.boundary = false)
    (idle : s.tx.due = []) (order : List RoundWork) :
    roundStart order s = (order.filter (· ≠ .wtr)).foldl takeWork (begun allWorks s) := by
  unfold roundStart
  have runs : (Machine.running s && s.tx.frame = 15 && !s.tx.boundary) = true := by
    rw [Arrival.running_iff.mpr running, last, before]
    rfl
  rw [if_pos runs, idle]
  rfl

theorem roundStart_elsewhere (h : s.station.state = .cold ∨ s.tx.frame ≠ 15 ∨ s.tx.boundary = true) (order : List RoundWork) :
    roundStart order s = s := by
  unfold roundStart
  refine if_neg fun all => ?_
  simp only [Bool.and_eq_true, decide_eq_true_iff, Bool.not_eq_true', Arrival.running_iff] at all
  obtain ⟨⟨running, last⟩, before⟩ := all
  rcases h with h | h | h
  · exact running h
  · exact h last
  · exact Bool.false_ne_true (before.symm.trans h)

/-- OWN_ROUND_START with one work named. -/
theorem ownRoundStart_one (running : s.station.state ≠ .cold) (last : s.tx.frame = 15) (before : s.tx.boundary = false)
    (idle : s.tx.due = []) (other : w ≠ .snapshot) (posted : w ∈ allWorks) (taken : w ≠ .wtr) :
    exec (.ownRoundStart [w]) s = .next (finish s (roundWork w (begun (allWorks.filter (· ≠ w)) s))) := by
  change Host.Outcome.next (finish s (roundStart [w] s)) = _
  have only : [w].filter (· ≠ .wtr) = [w] := by simp [taken]
  rw [roundStart_eq running last before idle, only, List.foldl_cons, List.foldl_nil,
    takeWork_due (s := begun allWorks s) other posted]
  exact congrArg _ (finish_event (begun_alike _ s) _)

/-! ### The join -/

theorem joinWork_elsewhere (h : s.station.state ≠ .listen) : joinWork s = s := if_neg h

/-- The count of complete LISTEN rounds after a round start (R173). -/
def roundsAfter (st : Station) : Nat := if st.wholeRound = true then min 255 (st.listenRounds + 1) else st.listenRounds

theorem countListen_eq (st : Station) : countListen st = { st with listenRounds := roundsAfter st, wholeRound := true } := rfl

theorem joinCondition_iff (st : Station) (age : Nat) :
    joinCondition (countListen st) age = true ↔ 4 ≤ roundsAfter st ∧ 2 ≤ age := by
  unfold joinCondition
  rw [countListen_eq, Bool.and_eq_true, decide_eq_true_iff, decide_eq_true_iff]

theorem joinWork_listen (listen : s.station.state = .listen) : joinWork s = { s with station := { s.station with
    state := if 4 ≤ roundsAfter s.station ∧ 2 ≤ s.timing.age then .joined else .listen
    listenRounds := roundsAfter s.station
    wholeRound := true } } := by
  unfold joinWork
  dsimp only
  rw [if_pos listen]
  by_cases joins : 4 ≤ roundsAfter s.station ∧ 2 ≤ s.timing.age
  · rw [if_pos ((joinCondition_iff _ _).mpr joins), if_pos joins]
    rfl
  · rw [if_neg fun h => joins ((joinCondition_iff _ _).mp h), if_neg joins, countListen_eq, ← listen]

/-- JOIN is the join work, where it is due in LISTEN and the condition holds. -/
theorem exec_join (listen : s.station.state = .listen) (due : RoundWork.join ∈ s.tx.due)
    (joins : 4 ≤ roundsAfter s.station ∧ 2 ≤ s.timing.age) : exec .join s =
      .next (finish s (joinWork (leaving (s.tx.due.filter (· ≠ .join)) s))) := by
  change Host.Outcome.next (if _ then _ else _) = _
  have all : (decide (s.station.state = .listen) && s.tx.due.contains .join &&
      joinCondition (countListen s.station) s.timing.age) = true := by
    rw [(joinCondition_iff _ _).mpr joins, decide_eq_true listen, List.contains_iff_mem.mpr due]
    rfl
  rw [if_pos all, finish_takeWork (w := .join) nofun due]
  rfl

theorem exec_join_elsewhere (h : s.station.state ≠ .listen ∨ RoundWork.join ∉ s.tx.due ∨
    ¬ (4 ≤ roundsAfter s.station ∧ 2 ≤ s.timing.age)) : exec .join s = .next s := by
  change Host.Outcome.next (if _ then _ else _) = _
  refine congrArg _ (if_neg fun all => ?_)
  simp only [Bool.and_eq_true, decide_eq_true_iff, List.contains_iff_mem, joinCondition_iff] at all
  obtain ⟨⟨listen, due⟩, joins⟩ := all
  rcases h with h | h | h
  · exact h listen
  · exact h due
  · exact h joins

/-- Settles O50. -/
theorem joinFollowsCountAndAge : Obligations.JoinFollowsCountAndAge := by
  refine ⟨?_, fun s => joinWork_elsewhere, fun s running last before idle =>
    ownRoundStart_one running last before idle nofun (by decide) nofun⟩
  rintro s n rfl
  refine ⟨joinWork_listen, fun listen due rounds age => ?_, fun h => exec_join_elsewhere ?_⟩
  · rw [exec_join listen due ⟨rounds, age⟩, joinWork_listen (s := leaving (s.tx.due.filter (· ≠ .join)) s) listen]
    exact congrArg (fun c => Host.Outcome.next (finish s { leaving (s.tx.due.filter (· ≠ .join)) s with
      station := { s.station with state := c, listenRounds := roundsAfter s.station, wholeRound := true } }))
        (if_pos ⟨rounds, age⟩)
  · rcases h with h | h | h | h
    · exact .inl h
    · exact .inr (.inl h)
    · exact .inr (.inr fun joins => absurd joins.1 (not_le.mpr h))
    · exact .inr (.inr fun joins => absurd joins.2 (not_le.mpr h))

end Sys2Proof.Works
end

section
/-! PROOFS. The round-start pass (R68 to R72): freeing, release counting, placement, and the snapshot after it (O47, O48). -/

namespace Sys2Proof.Pass

open Sys2Proof.Machine Sys2Proof.Safety Sys2Proof.Placement Sys2Proof.Works

variable {s t u : State} {r : Source} {tag first c : Nat} {m : Vector (Option Nat) 160}

/-! ### Placement of one source -/

/-- A free start for a class (R71). -/
def FreeStart (m : Vector (Option Nat) 160) (c first : Nat) : Prop :=
  first % c = 0 ∧ first + c ≤ 160 ∧ ∀ t, first ≤ t → t < first + c → m[t]? = some none

theorem lowestStart_some (positive : 0 < c) (free : FreeStart m c first)
    (lowest : ∀ lower, lower < first → ¬ FreeStart m c lower) : lowestStart m c = some first := by
  obtain ⟨multiple, fits, clear⟩ := free
  obtain ⟨i, rfl⟩ : ∃ i, first = i * c := ⟨first / c, (Nat.div_mul_cancel (Nat.dvd_of_mod_eq_zero multiple)).symm⟩
  have inside : ∀ j, j * c + c ≤ 160 → j < 160 / c := fun j h =>
    (Nat.le_div_iff_mul_le positive).mpr ((Nat.succ_mul j c).trans_le h)
  have found : ((List.range (160 / c)).find? fun i => rangeFree m (i * c) c) = some i := by
    refine List.find?_range_eq_some.mpr ⟨(rangeFree_iff ..).mpr clear, List.mem_range.mpr (inside i fits), fun j below => ?_⟩
    rw [Bool.not_eq_true', Bool.eq_false_iff]
    intro free
    have under : j * c < i * c := (Nat.mul_lt_mul_right positive).mpr below
    have room : j * c + c ≤ 160 := by
      have := Nat.mul_le_mul_right c (Nat.succ_le_of_lt below)
      rw [Nat.succ_mul] at this
      omega
    exact lowest _ under ⟨Nat.mul_mod_left j c, room, (rangeFree_iff ..).mp free⟩
  unfold lowestStart
  rw [found]
  rfl

theorem lowestStart_none (positive : 0 < c) (taken : ∀ first, ¬ FreeStart m c first) : lowestStart m c = none := by
  have found : ((List.range (160 / c)).find? fun i => rangeFree m (i * c) c) = none :=
    List.find?_range_eq_none.mpr fun i below => by
      rw [Bool.not_eq_true', Bool.eq_false_iff]
      intro free
      have room : i * c + c ≤ 160 := by
        have := (Nat.le_div_iff_mul_le positive).mp (Nat.succ_le_of_lt below)
        rwa [Nat.succ_mul] at this
      exact taken _ ⟨Nat.mul_mod_left i c, room, (rangeFree_iff ..).mp free⟩
  unfold lowestStart
  rw [found]
  rfl

theorem not_freeStart_iff : ¬ FreeStart m c first ↔ (first % c = 0 → first + c ≤ 160 →
    ∃ t, first ≤ t ∧ t < first + c ∧ m[t]? ≠ some none) := by
  unfold FreeStart
  push Not
  exact ⟨fun h a b => h a b, fun h a b => h a b⟩

/-- One visible source among others of unique tags takes new values. -/
theorem updateSource_visible (tags : (s.store.sources.map (·.tag)).Nodup) (hr : visibleSource s.store tag = some r)
    (f : Source → Source) : updateSource tag f s = updateSource tag (fun _ => f r) s := by
  obtain ⟨mem, rfl, -⟩ := visibleSource_some hr
  unfold updateSource
  rw [map_tag_eq tags mem f]

theorem placeOne_placed (tile : TileLaw s) (hr : visibleSource s.store tag = some r)
    (start : lowestStart s.store.tileMap r.cls = some first) : placeOne s tag = { s with store := { s.store with
      sources := s.store.sources.map fun e => if e.tag = tag then
        { r with state := .offered, firstTile := some first, entryNo := none, releaseCount := 0, passedOver := 0
                 blocked := false } else e
      tileMap := setRange s.store.tileMap first r.cls (some tag)
      queue := s.store.queue.filter (· ≠ tag) } } := by
  unfold placeOne
  rw [hr]
  dsimp only
  rw [start]
  dsimp only
  rw [updateSource_visible tile.tags hr]
  rfl

theorem placeOne_passed (tile : TileLaw s) (hr : visibleSource s.store tag = some r)
    (start : lowestStart s.store.tileMap r.cls = none) : placeOne s tag = { s with store := { s.store with
      sources := s.store.sources.map fun e => if e.tag = tag then
        { r with passedOver := min 3 (r.passedOver + 1), blocked := r.blocked || decide (2 ≤ r.passedOver) } else e } } := by
  have thrice : decide (3 ≤ r.passedOver + 1) = decide (2 ≤ r.passedOver) := decide_eq_decide.mpr (by omega)
  unfold placeOne
  rw [hr]
  dsimp only
  rw [start]
  dsimp only
  rw [updateSource_visible tile.tags hr, thrice]
  rfl

/-! ### Freeing -/

theorem freeRecord_hidden (hf : r.firstTile = some first) (removed : r.removed = true) : freeRecord s r = { s with
    store := { s.store with
      sources := s.store.sources.filter (·.tag ≠ r.tag), tileMap := setRange s.store.tileMap first r.cls none } } := by
  unfold freeRecord
  rw [hf, removed]
  rfl

theorem freeRecord_visible (tags : (s.store.sources.map (·.tag)).Nodup) (hr : r ∈ s.store.sources)
    (hf : r.firstTile = some first) (visible : r.removed = false) :
    freeRecord s r = evalSource r.tag { s with store := { s.store with
      sources := s.store.sources.map fun e => if e.tag = r.tag then
        { r with state := .dormant, firstTile := none, omitted := false } else e
      tileMap := setRange s.store.tileMap first r.cls none } } := by
  unfold freeRecord
  rw [hf]
  dsimp only
  rw [if_neg (by rw [visible]; exact Bool.false_ne_true)]
  unfold updateSource
  dsimp only
  rw [map_tag_eq tags hr]
  rfl

/-- The records that the pass frees. -/
def freed (s : State) : List Source := s.store.sources.filter fun r => r.state = .retiring ∧ r.omitted = true

/-- The order in which they are freed. -/
def ByFirst (a b : Source) : Prop := a.firstTile.getD 160 ≤ b.firstTile.getD 160

theorem firstTile_inj (tile : TileLaw s) {a b : Source} (ha : a ∈ s.store.sources) (hb : b ∈ s.store.sources)
    (fa : a.firstTile = some first) (fb : b.firstTile = some first) : a = b := by
  have held : ∀ e ∈ s.store.sources, e.firstTile = some first → s.store.tileMap[first]? = some (some e.tag) := fun e he fe =>
    (tile.tiles e he).held first fe first le_rfl (by have := classOk_pos (tile.classes e he); omega)
  have same : a.tag = b.tag := Option.some.inj (Option.some.inj ((held a ha fa).symm.trans (held b hb fb)))
  exact List.inj_on_of_nodup_map tile.tags ha hb same

theorem freed_mem {e : Source} (h : e ∈ freed s) : e ∈ s.store.sources ∧ e.state = .retiring := by
  obtain ⟨mem, holds⟩ := List.mem_filter.mp h
  exact ⟨mem, (of_decide_eq_true holds).1⟩

theorem freed_first (tile : TileLaw s) {e : Source} (h : e ∈ freed s) : ∃ f, e.firstTile = some f := by
  obtain ⟨mem, retiring⟩ := freed_mem h
  have present := (tile.tiles e mem).present
  rw [holdsTiles, retiring] at present
  exact Option.isSome_iff_exists.mp present

/-- Any list of the freed records in ascending order of first tile is the one that the pass takes (R69). -/
theorem freeingStep_eq (tile : TileLaw s) {rs : List Source} (perm : rs.Perm (freed s))
    (sorted : rs.Pairwise fun a b => ∀ m n, a.firstTile = some m → b.firstTile = some n → m ≤ n) :
    freeingStep s = rs.foldl freeRecord s := by
  have same : (s.store.sources.filter fun r => r.state = .retiring && r.omitted) = freed s :=
    congrArg (List.filter · s.store.sources) (funext fun r => by simp)
  have mine : (s.store.sources.filter fun r => r.state = .retiring && r.omitted).insertionSort
      (fun a b => a.firstTile.getD 160 ≤ b.firstTile.getD 160) = rs := by
    rw [same]
    have total : Std.Total ByFirst := ⟨fun a b => Nat.le_total _ _⟩
    have trans : IsTrans Source ByFirst := ⟨fun a b c => Nat.le_trans⟩
    refine List.Perm.eq_of_pairwise (le := ByFirst) (fun a b ha hb le ge => ?_)
      (@List.pairwise_insertionSort _ ByFirst (fun _ _ => Nat.decLe _ _) total trans _) ?_ ((List.perm_insertionSort _ _).trans perm.symm)
    · have ma := (List.mem_insertionSort _).mp ha
      have mb := perm.subset hb
      obtain ⟨f, fa⟩ := freed_first tile ma
      obtain ⟨g, fb⟩ := freed_first tile mb
      have equal : f = g := by
        have := Nat.le_antisymm le ge
        rwa [fa, fb] at this
      exact firstTile_inj tile (freed_mem ma).1 (freed_mem mb).1 fa (equal ▸ fb)
    · refine sorted.imp_of_mem fun {a b} ha hb le => ?_
      obtain ⟨f, fa⟩ := freed_first tile (perm.subset ha)
      obtain ⟨g, fb⟩ := freed_first tile (perm.subset hb)
      unfold ByFirst
      rw [fa, fb]
      exact le f g fa fb
  unfold freeingStep
  rw [mine]

theorem freeingStep_onlyStore (s : State) : OnlyStore s (freeingStep s) := foldl_onlyStore freeRecord freeRecord_onlyStore _ s

theorem freeingStep_station (s : State) : (freeingStep s).station = s.station := by rw [freeingStep_onlyStore s]

theorem freeingStep_view (s : State) : (freeingStep s).view = s.view := by rw [freeingStep_onlyStore s]

/-! ### The snapshot -/

theorem mem_offers {e : Entry} : e ∈ (byFirstTile s.store.sources).filterMap (offerOf s.carriers.ports) ↔
    ∃ r ∈ s.store.sources, offerOf s.carriers.ports r = some e := by
  unfold byFirstTile
  simp only [List.mem_filterMap, List.mem_insertionSort]

theorem offerOf_eq_some {ports : Vector CarrierPort 4} {e : Entry} : offerOf ports r = some e ↔
    r.state = .offered ∧ ∃ f, r.firstTile = some f ∧ e = .offer r.tag r.cls f (sourceQuality ports r) r.standing := by
  unfold offerOf
  cases r.state <;> cases r.firstTile <;> simp [eq_comm]

theorem offer_mem_snapshot {cls : Nat} {q : Quality} {st : Standing} : Entry.offer tag cls first q st ∈ snapshotEntries s ↔
    ∃ r ∈ s.store.sources, r.state = .offered ∧ r.firstTile = some first ∧ r.tag = tag ∧ r.cls = cls ∧
      sourceQuality s.carriers.ports r = q ∧ r.standing = st := by
  unfold snapshotEntries
  rw [List.mem_append, mem_offers]
  constructor
  · rintro (⟨r, mem, offer⟩ | want)
    · obtain ⟨offered, f, hf, same⟩ := offerOf_eq_some.mp offer
      obtain ⟨rfl, rfl, rfl, rfl, rfl⟩ := Entry.offer.inj same
      exact ⟨r, mem, offered, hf, rfl, rfl, rfl, rfl⟩
    · obtain ⟨k, -, same⟩ := List.mem_map.mp want
      exact nomatch same
  · rintro ⟨r, mem, offered, hf, rfl, rfl, rfl, rfl⟩
    exact .inl ⟨r, mem, offerOf_eq_some.mpr ⟨offered, first, hf, rfl⟩⟩

theorem want_mem_snapshot {cls : Nat} : Entry.want tag cls ∈ snapshotEntries s ↔ ∃ k ∈ s.store.sinks, k.tag = tag ∧ k.cls = cls := by
  unfold snapshotEntries bySinkTag
  rw [List.mem_append, mem_offers]
  constructor
  · rintro (⟨r, -, offer⟩ | want)
    · obtain ⟨-, f, -, same⟩ := offerOf_eq_some.mp offer
      exact nomatch same
    · obtain ⟨k, mem, same⟩ := List.mem_map.mp want
      obtain ⟨rfl, rfl⟩ := Entry.want.inj same
      exact ⟨k, (List.mem_insertionSort _).mp mem, rfl, rfl⟩
  · rintro ⟨k, mem, rfl, rfl⟩
    exact .inr (List.mem_map.mpr ⟨k, (List.mem_insertionSort _).mpr mem, rfl⟩)

/-- The mark of a RETIRING record at a snapshot (R69). -/
def marked (r : Source) : Source := if r.state = .retiring then { r with omitted := true } else r

theorem takeSnapshot_eq (s : State) : takeSnapshot s = { s with
    tx := { s.tx with snapshot := snapshotEntries s }
    store := { s.store with sources := s.store.sources.map marked } } := rfl

theorem marked_keeps (r : Source) : marked r = { r with omitted := (marked r).omitted } := by
  unfold marked
  split <;> rfl

theorem visibleSource_marked (st : OrderStore) (tag : Nat) :
    visibleSource { st with sources := st.sources.map marked } tag = (visibleSource st tag).map marked := by
  unfold visibleSource
  rw [List.find?_map]
  congr 2
  funext r
  rw [Function.comp, marked_keeps]

/-- A snapshot changes nothing that an item reports. -/
theorem noteSource_snapshot (s t : State) (e : Nat × Item SourceReport) : noteSource s (takeSnapshot t) e = noteSource s t e := by
  unfold noteSource
  have found : visibleSource (takeSnapshot t).store e.1 = (visibleSource t.store e.1).map marked := visibleSource_marked t.store e.1
  rw [found]
  cases visibleSource s.store e.1 with
  | none => rfl
  | some r =>
    cases visibleSource t.store e.1 with
    | none => rfl
    | some q =>
      rw [Option.map_some, marked_keeps]
      rfl

theorem noteChanges_snapshot (s t : State) : noteChanges s (takeSnapshot t) = noteChanges s t := by
  have sources : noteSource s (takeSnapshot t) = noteSource s t := funext fun e => noteSource_snapshot s t e
  unfold noteChanges
  rw [sources]
  rfl

theorem noteChanges_self (s : State) : noteChanges s s = s.report :=
  calc noteChanges s s = { s.report with
          sources := (noteChanges s s).sources, sinks := (noteChanges s s).sinks, lanes := (noteChanges s s).lanes
          ports := (noteChanges s s).ports, station := (noteChanges s s).station } := rfl
    _ = s.report := by
      rw [Reports.noteChanges_sources rfl, Reports.noteChanges_sinks rfl, Reports.noteChanges_lanes rfl,
        Reports.noteChanges_ports rfl, Reports.noteChanges_station rfl]

theorem noted_snapshot (s : State) : noted s (takeSnapshot s) = takeSnapshot s := by
  unfold noted
  rw [noteChanges_snapshot, noteChanges_self, takeSnapshot_eq]
  exact ite_self _

/-- A snapshot taken after a compared step, at the end of a command. -/
theorem finish_snapshot {p : State} (due : List RoundWork) (alike : ReportedAlike s u) :
    finish s (noted (leaving due (noted u p)) (takeSnapshot (leaving due (noted u p)))) =
      finish s (takeSnapshot (leaving due p)) := by
  have snapped : takeSnapshot (leaving due (noted s p)) = noted s (takeSnapshot (leaving due p)) := by
    unfold noted
    rw [noteChanges_snapshot, takeSnapshot_station]
    change takeSnapshot (leaving due (if p.station.state = .cold then p else _)) = if p.station.state = .cold then _ else _
    split <;> rfl
  rw [noted_snapshot, noted_before alike, snapped, finish_noted]

/-- The works due after the snapshot of a round start, which takes the pass with it. -/
theorem ownRoundStart_snapshot (running : s.station.state ≠ .cold) (last : s.tx.frame = 15) (before : s.tx.boundary = false)
    (idle : s.tx.due = []) : exec (.ownRoundStart [.snapshot]) s = .next (finish s (takeSnapshot
      (leaving [.wtr, .timing, .join, .lighting, .degraded]
        (placementPass (begun [.snapshot, .wtr, .timing, .join, .lighting, .degraded] s))))) := by
  change Host.Outcome.next (finish s (roundStart [.snapshot] s)) = _
  have passed : takeDue .pass (begun allWorks s) = event placementPass (begun [.snapshot, .wtr, .timing, .join, .lighting, .degraded] s) :=
    takeDue_due (s := begun allWorks s) (show RoundWork.pass ∈ allWorks by decide)
  have due : (takeDue .pass (begun allWorks s)).tx.due = [.snapshot, .wtr, .timing, .join, .lighting, .degraded] := by
    rw [passed]
    unfold event
    rw [noted_tx, placementPass_onlyStore]
    rfl
  have taken : takeWork (begun allWorks s) .snapshot =
      event takeSnapshot (leaving [.wtr, .timing, .join, .lighting, .degraded] (takeDue .pass (begun allWorks s))) := by
    change takeDue .snapshot (takeDue .pass (begun allWorks s)) = _
    rw [takeDue_due (by rw [due]; decide), due]
    rfl
  rw [roundStart_eq running last before idle]
  change Host.Outcome.next (finish s (takeWork (begun allWorks s) .snapshot)) = _
  rw [taken, passed]
  exact congrArg _ (finish_snapshot _ (begun_alike _ s))

/-- Settles O47. -/
theorem passFreesAndPlaces : Obligations.PassFreesAndPlaces := by
  refine ⟨fun s tag r tile hr => ⟨fun first multiple fits clear lowest => ?_, fun taken => ?_⟩,
    fun s r first tile mem hf => ⟨freeRecord_hidden hf, freeRecord_visible tile.tags mem hf⟩,
    fun s rs tile perm sorted => ⟨_, _, rfl, rfl, ?_⟩,
    fun s => ⟨rfl, fun _ _ _ _ _ => offer_mem_snapshot, fun _ _ => want_mem_snapshot⟩,
    fun s p running last before idle hp => ⟨?_, ?_⟩⟩
  · have positive := classOk_pos (tile.classes r (visibleSource_some hr).1)
    exact placeOne_placed tile hr (lowestStart_some positive ⟨multiple, fits, clear⟩ fun lower below free => by
      obtain ⟨t, low, high, held⟩ := lowest lower below free.1
      exact held (free.2.2 t low high))
  · have positive := classOk_pos (tile.classes r (visibleSource_some hr).1)
    exact placeOne_passed tile hr (lowestStart_none positive fun first => not_freeStart_iff.mpr (taken first))
  · have freeing := freeingStep_eq tile perm sorted
    have station := freeingStep_station s
    rw [freeing] at station
    unfold placementPass placementStep releaseStep
    rw [freeing]
    dsimp only
    rw [station]
  · subst hp
    exact ownRoundStart_one running last before idle nofun (by decide) nofun
  · subst hp
    exact ownRoundStart_snapshot running last before idle

/-! ### A source that the pass does not place -/

/-- A source of the table, as it stands, that is not in the queue. -/
def Unqueued (r : Source) (s : State) : Prop := r ∈ s.store.sources ∧ r.tag ∉ s.store.queue

theorem unqueued_updateSource (f : Source → Source) (h : Unqueued r s) (other : r.tag ≠ tag) : Unqueued r (updateSource tag f s) :=
  ⟨List.mem_map.mpr ⟨r, h.1, if_neg other⟩, h.2⟩

theorem unqueued_enqueue (h : Unqueued r s) (other : r.tag ≠ tag) : Unqueued r (enqueue tag s) := by
  obtain ⟨mem, out⟩ := unqueued_updateSource (fun r => { r with state := .queued, entryNo := some s.store.queueCounter }) h other
  have stays : ∀ st : OrderStore, r.tag ∉ st.queue → r.tag ∉ queueInsert st tag := fun st out inserted =>
    (List.mem_cons.mp ((queueInsert_perm st tag).subset inserted)).elim other out
  have entered := stays _ out
  unfold enqueue
  dsimp only
  split
  · refine ⟨List.mem_map.mpr ⟨r, mem, if_neg fun h => ?_⟩, entered⟩
    rcases List.mem_append.mp h with h | h
    · exact entered (List.mem_filter.mp h).1
    · exact other (List.mem_singleton.mp h)
  · exact ⟨mem, entered⟩

theorem unqueued_evalSource (h : Unqueued r s) (other : r.tag ≠ tag) : Unqueued r (evalSource tag s) := by
  unfold evalSource
  split
  · exact h
  · have judged := unqueued_updateSource (fun r => { r with mismatch := otherWantStands s.view r.tag r.cls }) h other
    dsimp only
    split
    · exact unqueued_enqueue judged other
    · obtain ⟨mem, out⟩ := unqueued_updateSource (fun r => { r with state := .dormant, entryNo := none }) judged other
      exact ⟨mem, fun h => out (List.mem_filter.mp h).1⟩
    · exact unqueued_updateSource _ judged other
    · exact judged

theorem unqueued_freeRecord {e : Source} (h : Unqueued r s) (other : r.tag ≠ e.tag) : Unqueued r (freeRecord s e) := by
  unfold freeRecord
  dsimp only
  split
  · exact ⟨List.mem_filter.mpr ⟨h.1, by simpa using other⟩, h.2⟩
  · exact unqueued_evalSource (unqueued_updateSource _ h other) other

theorem unqueued_freeRecords (rs : List Source) (h : Unqueued r s) (other : ∀ e ∈ rs, r.tag ≠ e.tag) :
    Unqueued r (rs.foldl freeRecord s) := by
  induction rs generalizing s with
  | nil => exact h
  | cons e rs ih => exact ih (unqueued_freeRecord h (other e (by simp))) fun x hx => other x (by simp [hx])

theorem unqueued_placeOne (h : Unqueued r s) (other : r.tag ≠ tag) : Unqueued r (placeOne s tag) := by
  unfold placeOne
  split
  · exact h
  · split
    · obtain ⟨mem, out⟩ := unqueued_updateSource (tag := tag) _ h other
      exact ⟨mem, fun h => out (List.mem_filter.mp h).1⟩
    · exact unqueued_updateSource _ h other

theorem unqueued_placeEach (tags : List Nat) (h : Unqueued r s) (other : ∀ x ∈ tags, r.tag ≠ x) :
    Unqueued r (tags.foldl placeOne s) := by
  induction tags generalizing s with
  | nil => exact h
  | cons x tags ih => exact ih (unqueued_placeOne h (other x (by simp))) fun y hy => other y (by simp [hy])

theorem unqueued_of_offered (tile : TileLaw s) (mem : r ∈ s.store.sources) (offered : r.state = .offered) : Unqueued r s := by
  refine ⟨mem, fun queued => ?_⟩
  obtain ⟨e, he, same, state⟩ := (tile.queued r.tag).mp queued
  rw [List.inj_on_of_nodup_map tile.tags he mem same, offered] at state
  exact nomatch state

theorem countRelease_tag (view : Vector LaneView 9) (r : Source) : (countRelease view r).tag = r.tag :=
  (countRelease_samePlace (w := fun _ => False) view r).tag

/-- What the pass makes of an OFFERED source: its release count alone moves. -/
theorem placementPass_offered (tile : TileLaw s) (mem : r ∈ s.store.sources) (offered : r.state = .offered) :
    countRelease s.view r ∈ (placementPass s).store.sources := by
  have freed : Unqueued r (freeingStep s) := by
    refine unqueued_freeRecords _ (unqueued_of_offered tile mem offered) fun e he same => ?_
    obtain ⟨me, holds⟩ := List.mem_filter.mp ((List.mem_insertionSort _).mp he)
    have retiring : e.state = .retiring := by simp at holds; exact holds.1
    rw [← List.inj_on_of_nodup_map tile.tags mem me same, offered] at retiring
    exact nomatch retiring
  have counted : Unqueued (countRelease s.view r) (releaseStep (freeingStep s)) := by
    refine ⟨List.mem_map.mpr ⟨r, freed.1, by rw [freeingStep_view]⟩, ?_⟩
    rw [countRelease_tag]
    exact freed.2
  unfold placementPass placementStep
  split
  · exact (unqueued_placeEach _ counted fun x hx same => counted.2 (same ▸ hx)).1
  · exact counted.1

/-! ### Release counting -/

theorem isWanted_iff {view : Vector LaneView 9} : isWanted view r = true ↔
    wantStands view r.tag r.cls = true ∧ ¬ (r.latch = true ∧ r.action = .withdraw) := by
  unfold isWanted
  cases r.latch <;> simp

theorem countRelease_last {view : Vector LaneView 9} (offered : r.state = .offered) (unwanted : isWanted view r = false)
    (three : r.releaseCount = 3) : countRelease view r = { r with releaseCount := 4, state := .retiring } := by
  unfold countRelease
  rw [if_pos offered, if_neg (by rw [unwanted]; exact Bool.false_ne_true), if_pos (by rw [three])]

theorem exec_releaseExpiry (running : s.station.state ≠ .cold) (hr : visibleSource s.store tag = some r)
    (due : RoundWork.pass ∈ s.tx.due) (expires : releaseExpires s r = true) : exec (.releaseCountExpiry tag) s =
      .next (finish s (placementPass (leaving (s.tx.due.filter (· ≠ .pass)) s))) := by
  change Host.Outcome.next (match visibleSource s.store tag with | none => _ | some r => _) = _
  rw [hr]
  dsimp only
  rw [if_pos (by rw [Arrival.running_iff.mpr running, List.contains_iff_mem.mpr due, expires]; rfl),
    finish_takeWork (w := .pass) nofun due]
  rfl

theorem exec_releaseExpiry_idle (idle : RoundWork.pass ∉ s.tx.due) : exec (.releaseCountExpiry tag) s = .next s := by
  change Host.Outcome.next (match visibleSource s.store tag with | none => _ | some r => _) = _
  cases visibleSource s.store tag with
  | none => rfl
  | some r =>
    refine congrArg _ (if_neg fun all => ?_)
    simp only [Bool.and_eq_true, List.contains_iff_mem] at all
    exact idle all.1.2

/-- Settles O48. -/
theorem releaseCountingRetiresAtFour : Obligations.ReleaseCountingRetiresAtFour := by
  refine ⟨fun view r wanted hw => ?_, fun tag s r running tile hr due offered three unwanted => ?_,
    fun tag s => exec_releaseExpiry_idle⟩
  · have same : isWanted view r = wanted := Bool.eq_iff_iff.mpr (isWanted_iff.trans hw.symm)
    refine ⟨fun other => if_neg other, fun offered yes => ?_, fun offered no less => ?_,
      fun offered no three => countRelease_last offered (same.trans no) three⟩
    · unfold countRelease
      rw [if_pos offered, if_pos (same.trans yes)]
    · unfold countRelease
      rw [if_pos offered, if_neg (by rw [same, no]; exact Bool.false_ne_true), if_neg (by omega)]
  · obtain ⟨mem, rfl, visible⟩ := visibleSource_some hr
    have released : isWanted s.view r = false := Bool.eq_false_iff.mpr fun h => by
      obtain ⟨stands, healthy⟩ := isWanted_iff.mp h
      exact unwanted.elim (fun none => Bool.false_ne_true (none.symm.trans stands)) healthy
    have expires : releaseExpires s r = true := by
      unfold releaseExpires
      rw [offered, released, three]
      rfl
    have law : PlacementLaw (fun _ => False) (leaving (s.tx.due.filter (· ≠ .pass)) s) :=
      (placementLaw_none_iff.mpr tile).of_store rfl
    have placed := placementPass_placementLaw law
    have counted : countRelease s.view r ∈
        (placementPass (leaving (s.tx.due.filter (· ≠ .pass)) s)).store.sources :=
      placementPass_offered (s := leaving (s.tx.due.filter (· ≠ .pass)) s) law.tileLaw mem offered
    rw [countRelease_last offered released three] at counted
    refine ⟨_, exec_releaseExpiry running hr due expires, ?_, rfl, exec_releaseExpiry_idle ?_⟩
    · rw [finish_store]
      exact FarEnd.visibleSource_of_mem placed.tags counted visible
    · rw [finish_tx, placementPass_onlyStore]
      simp [leaving]

end Sys2Proof.Pass
end

section
/-! PROOFS. The lighting steps of a round start (R147 to R152): O44. -/

namespace Sys2Proof.LightingSteps

open Sys2Proof.Machine Sys2Proof.Safety Sys2Proof.Reports Sys2Proof.Works Sys2Proof.Blocks

variable {s t : State} {p q : Fin 4} {n : Nat}

theorem lowerBusy_iff {me : Fin 9} {busy : Vector Bool 9} :
    lowerBusy me busy = true ↔ ∃ i : Fin 9, i < me ∧ busy[i] = true := by
  unfold lowerBusy
  simp

/-- The first two lighting steps of one port: of the two at most one acts. -/
def stepped (st : Station) (busy : Vector Bool 9) (p : CarrierPort) : CarrierPort := resolvePort st busy (staggerPort p)

variable {st : Station} {busy : Vector Bool 9} {x : CarrierPort}

theorem not_active_iff : active x = false ↔ x.state ≠ .claiming ∧ x.state ≠ .lighting := by simp [active]

theorem active_iff : active x = true ↔ x.state = .claiming ∨ x.state = .lighting := by simp [active]

theorem not_active_of {c : PortState} (h : x.state = c) (other : c ≠ .claiming ∧ c ≠ .lighting) : active x = false :=
  not_active_iff.mpr (h ▸ other)

theorem stepped_idle (idle : active x = false) : stepped st busy x = x := by
  obtain ⟨claiming, lighting⟩ : x.state ≠ .claiming ∧ x.state ≠ .lighting := not_active_iff.mp idle
  have first : staggerPort x = x := by
    unfold staggerPort
    split
    · rename_i state _
      exact absurd state lighting
    · rfl
  unfold stepped resolvePort
  rw [first]
  split
  · rename_i state
    exact absurd state claiming
  · rfl

theorem stepped_lighting (lighting : x.state = .lighting) (count : x.stagger = some n) : stepped st busy x =
    if n ≤ 1 then { x with state := .lit, stagger := none } else { x with stagger := some (n - 1) } := by
  have first : staggerPort x = if n ≤ 1 then { x with state := .lit, stagger := none } else { x with stagger := some (n - 1) } := by
    unfold staggerPort
    rw [lighting, count]
  unfold stepped resolvePort
  rw [first]
  split
  · rename_i state
    split at state
    · exact nomatch state
    · exact nomatch lighting.symm.trans state
  · rfl

theorem stepped_uncounted (lighting : x.state = .lighting) (count : x.stagger = none) : stepped st busy x = x := by
  unfold stepped resolvePort staggerPort
  simp [lighting, count]

theorem stepped_claiming (claiming : x.state = .claiming) : stepped st busy x =
    if ∃ i : Fin 9, i < st.number ∧ busy[i] = true then { x with state := .waiting }
    else { x with state := .lighting, stagger := some st.staggerSetting } := by
  have first : staggerPort x = x := by
    unfold staggerPort
    rw [claiming]
  unfold stepped resolvePort
  rw [first, claiming]
  exact if_congr lowerBusy_iff rfl rfl

theorem lightingFirst_joined (joined : s.station.state = .joined) : lightingFirst s = { s with carriers := {
    ports := s.carriers.ports.map (stepped s.station s.carriers.current)
    current := Vector.replicate 9 false
    previous := s.carriers.current } } := by
  unfold lightingFirst
  dsimp only
  rw [if_pos joined]
  simp only [mapPorts, rotateBusy, Vector.map_map]
  rfl

theorem lightingFirst_listen (listen : s.station.state ≠ .joined) : lightingFirst s =
    { s with carriers := rotateBusy s.carriers } := by
  unfold lightingFirst
  dsimp only
  rw [if_neg listen]

/-! ### The claim -/

/-- Whether the third step claims this port (R151): no port active, no station busy, and this the lowest WAITING port. -/
def Claims (c : Carriers) (p : Fin 4) : Prop :=
  (∀ q : Fin 4, active c.ports[q] = false) ∧ (∀ i : Fin 9, c.previous[i] = false) ∧ c.ports[p].state = .waiting ∧
    ∀ q : Fin 4, q < p → c.ports[q].state ≠ .waiting

theorem any_busy {busy : Vector Bool 9} : busy.toList.any (·) = false ↔ ∀ i : Fin 9, busy[i] = false := by
  rw [List.any_eq_false]
  constructor
  · exact fun h i => Bool.eq_false_iff.mpr (h _ (by simp [Vector.mem_toList_iff]))
  · intro h x hx
    obtain ⟨i, hi, rfl⟩ := Vector.getElem_of_mem (Vector.mem_toList_iff.mp hx)
    exact Bool.eq_false_iff.mp (h ⟨i, hi⟩)

theorem claimStep_frame (c : Carriers) : claimStep c = { c with ports := (claimStep c).ports } := by
  unfold claimStep
  split
  · rfl
  · split <;> rfl

theorem lowest_iff {n : Nat} {holds : Fin n → Bool} {p : Fin n} : (List.finRange n).find? holds = some p ↔
    holds p = true ∧ ∀ q : Fin n, q < p → holds q = false := by
  rw [List.find?_eq_some_iff_getElem]
  simp only [List.getElem_finRange, List.length_finRange, Bool.not_eq_true']
  constructor
  · rintro ⟨here, i, hi, rfl, before⟩
    exact ⟨here, fun q hq => before q hq⟩
  · rintro ⟨here, before⟩
    exact ⟨here, p, p.2, rfl, fun j hj => before ⟨j, by omega⟩ hj⟩

theorem claimStep_claimed {c : Carriers} (h : Claims c p) :
    (claimStep c).ports[p] = { c.ports[p] with state := .claiming } := by
  obtain ⟨idle, quiet, waiting, lowest⟩ := h
  have found : ((List.finRange 4).find? fun p => c.ports[p].state = .waiting) = some p := by
    rw [lowest_iff]
    exact ⟨decide_eq_true waiting, fun q hq => by simpa using lowest q hq⟩
  unfold claimStep
  rw [(not_anyActive_iff _).mpr idle, any_busy.mpr quiet, if_neg (by decide), found]
  exact Vector.getElem_set_self _

theorem claimStep_unclaimed {c : Carriers} (h : ¬ Claims c p) : (claimStep c).ports[p] = c.ports[p] := by
  unfold claimStep
  split
  · rfl
  · rename_i free
    obtain ⟨idle, quiet⟩ := Bool.or_eq_false_iff.mp (Bool.eq_false_iff.mpr free)
    split
    · rfl
    · rename_i q found
      obtain ⟨waiting, lowest⟩ := lowest_iff.mp found
      refine SourceChoice.getElem_set_ne _ _ fun same => h ?_
      subst same
      exact ⟨(not_anyActive_iff _).mp idle, any_busy.mp quiet, of_decide_eq_true waiting,
        fun r hr => by simpa using lowest r hr⟩

/-- A claim after the first two steps, said of the ports before them. -/
theorem claims_stepped {ports : Vector CarrierPort 4} {busy now : Vector Bool 9} (waiting : ports[p].state = .waiting) :
    Claims { ports := ports.map (stepped st busy), current := now, previous := busy } p ↔
      (∀ i : Fin 9, busy[i] = false) ∧ (∀ q : Fin 4, ports[q].state ≠ .claiming) ∧
      (∀ q : Fin 4, ports[q].state = .lighting → ∃ n, ports[q].stagger = some n ∧ n ≤ 1) ∧
      (∀ q : Fin 4, q < p → ports[q].state ≠ .waiting) := by
  have after : ∀ q : Fin 4, (ports.map (stepped st busy))[q] = stepped st busy ports[q] := fun q => Vector.getElem_map ..
  have kept : ∀ q : Fin 4, ports[q].state = .waiting → stepped st busy ports[q] = ports[q] :=
    fun q h => stepped_idle (not_active_of h ⟨nofun, nofun⟩)
  have settled : (∀ i : Fin 9, busy[i] = false) → ∀ q : Fin 4, ports[q].state = .claiming →
      (stepped st busy ports[q]).state = .lighting := by
    intro quiet q claiming
    rw [stepped_claiming claiming, if_neg]
    rintro ⟨i, -, h⟩
    exact Bool.false_ne_true ((quiet i).symm.trans h)
  have stops : ∀ q : Fin 4, ports[q].state = .lighting →
      (active (stepped st busy ports[q]) = false ↔ ∃ n, ports[q].stagger = some n ∧ n ≤ 1) := by
    intro q lighting
    rcases count : ports[q].stagger with _ | n
    · rw [stepped_uncounted lighting count, active_iff.mpr (.inr lighting)]
      exact ⟨nofun, nofun⟩
    · rw [stepped_lighting lighting count, not_active_iff]
      split
      · rename_i less
        exact ⟨fun _ => ⟨n, rfl, less⟩, fun _ => ⟨nofun, nofun⟩⟩
      · rename_i more
        refine ⟨fun h => absurd lighting h.2, ?_⟩
        rintro ⟨m, same, less⟩
        exact absurd (Option.some.inj same ▸ less) more
  unfold Claims
  simp only [after]
  constructor
  · rintro ⟨idle, quiet, -, lowest⟩
    refine ⟨quiet, fun q claiming => ?_, fun q lighting => (stops q lighting).mp (idle q), fun q hq h => ?_⟩
    · have lit := idle q
      rw [active, settled quiet q claiming] at lit
      exact nomatch lit
    · exact lowest q hq (by rw [kept q h, h])
  · rintro ⟨quiet, unclaimed, ending, lowest⟩
    refine ⟨fun q => ?_, quiet, by rw [kept p waiting, waiting], fun q hq => ?_⟩
    · by_cases lighting : ports[q].state = .lighting
      · exact (stops q lighting).mpr (ending q lighting)
      · have idle : active ports[q] = false := not_active_iff.mpr ⟨unclaimed q, lighting⟩
        rw [stepped_idle idle, idle]
    · by_cases lighting : ports[q].state = .lighting
      · obtain ⟨n, count, less⟩ := ending q lighting
        rw [stepped_lighting lighting count, if_pos less]
        exact nofun
      · rw [stepped_idle (not_active_iff.mpr ⟨unclaimed q, lighting⟩)]
        exact lowest q hq

/-- A port that the first two steps do not leave WAITING on a quiet highway is not claimed. -/
theorem not_claims_of_stepped {ports : Vector CarrierPort 4} {busy now : Vector Bool 9}
    (h : (stepped st busy ports[p]).state = .waiting → ¬ ∀ i : Fin 9, busy[i] = false) :
    ¬ Claims { ports := ports.map (stepped st busy), current := now, previous := busy } p := by
  rintro ⟨-, quiet, waiting, -⟩
  rw [show (ports.map (stepped st busy))[p] = stepped st busy ports[p] from Vector.getElem_map ..] at waiting
  exact h waiting quiet

/-! ### The round start -/

/-- The engine after OWN_ROUND_START with the lighting steps alone. -/
def litRound (s : State) : State := lightingWork (begun (allWorks.filter (· ≠ .lighting)) s)

theorem litRound_listen (listen : s.station.state ≠ .joined) : litRound s =
    { begun (allWorks.filter (· ≠ .lighting)) s with carriers := rotateBusy s.carriers } := by
  unfold litRound lightingWork claimWork
  rw [lightingFirst_listen (s := begun _ s) listen, if_neg]
  · rfl
  · exact listen

theorem litRound_joined (joined : s.station.state = .joined) : litRound s =
    { begun (allWorks.filter (· ≠ .lighting)) s with carriers := claimStep {
        ports := s.carriers.ports.map (stepped s.station s.carriers.current)
        current := Vector.replicate 9 false
        previous := s.carriers.current } } := by
  unfold litRound lightingWork claimWork
  rw [lightingFirst_joined (s := begun _ s) joined, if_pos]
  · rfl
  · exact joined

theorem litRound_frame : litRound s = { begun (allWorks.filter (· ≠ .lighting)) s with carriers :=
    { ports := (litRound s).carriers.ports, current := Vector.replicate 9 false, previous := s.carriers.current } } := by
  by_cases joined : s.station.state = .joined
  · rw [litRound_joined joined, claimStep_frame]
  · rw [litRound_listen joined]
    rfl

theorem lightingToClaim_port (joined : s.station.state = .joined) (law : LightingLaw s) (acts : active s.carriers.ports[p] = true) :
    lightingToClaim s = { s with
      tx := { s.tx with due := s.tx.due.map fun w => if w = .lighting then .claim else w }
      carriers := {
        ports := s.carriers.ports.set p (stepped s.station s.carriers.current s.carriers.ports[p])
        current := Vector.replicate 9 false
        previous := s.carriers.current } } := by
  have ports : s.carriers.ports.map (stepped s.station s.carriers.current) =
      s.carriers.ports.set p (stepped s.station s.carriers.current s.carriers.ports[p]) := by
    refine Vector.ext fun i hi => (Vector.getElem_map ..).trans ?_
    by_cases same : (⟨i, hi⟩ : Fin 4) = p
    · subst same
      exact (Vector.getElem_set_self _).symm
    · refine (stepped_idle (Bool.eq_false_iff.mpr fun other => same (law ⟨i, hi⟩ p other acts))).trans ?_
      exact (SourceChoice.getElem_set_ne s.carriers.ports _ (j := ⟨i, hi⟩) same).symm
  unfold lightingToClaim
  rw [lightingFirst_joined joined, ports]

/-- Settles O44. -/
theorem lightingStepsMoveThePorts : Obligations.LightingStepsMoveThePorts := by
  refine ⟨fun s running last before idle => ⟨finish s (litRound s),
      ownRoundStart_one running last before idle nofun (by decide) nofun, ?_, fun listen => ?_, fun joined p => ?_⟩,
    fun p s joined due law lighting one => ?_, fun p s joined due law claiming => ?_, fun p s h => ?_⟩
  · rw [finish_carriers]
    have runs : (litRound s).station.state ≠ .cold := by
      rw [litRound_frame]
      exact running
    rw [finish_running runs, litRound_frame]
    rfl
  · rw [finish_carriers, litRound_listen (by rw [listen]; exact nofun)]
    rfl
  · rw [finish_carriers, litRound_joined joined]
    have after : ∀ c, (s.carriers.ports.map (stepped s.station s.carriers.current))[p] = c ↔
        stepped s.station s.carriers.current s.carriers.ports[p] = c := fun c => by
      rw [show (s.carriers.ports.map (stepped s.station s.carriers.current))[p] =
        stepped s.station s.carriers.current s.carriers.ports[p] from Vector.getElem_map ..]
    refine ⟨fun still => ?_, fun n lighting count => ?_, fun claiming => ?_, fun waiting => ?_⟩
    · have idle : active s.carriers.ports[p] = false := still.elim
        (fun h => not_active_of h ⟨nofun, nofun⟩) fun h => not_active_of h ⟨nofun, nofun⟩
      refine (claimStep_unclaimed (not_claims_of_stepped fun waits => ?_)).trans ((after _).mpr (stepped_idle idle))
      rw [stepped_idle idle] at waits
      rcases still with h | h <;> exact nomatch h.symm.trans waits
    · refine (claimStep_unclaimed (not_claims_of_stepped fun waits => ?_)).trans ((after _).mpr (stepped_lighting lighting count))
      rw [stepped_lighting lighting count] at waits
      split at waits
      · exact nomatch waits
      · exact nomatch lighting.symm.trans waits
    · refine (claimStep_unclaimed (not_claims_of_stepped fun waits quiet => ?_)).trans ((after _).mpr (stepped_claiming claiming))
      rw [stepped_claiming claiming] at waits
      split at waits
      · rename_i lower
        obtain ⟨i, -, busy⟩ := lower
        exact Bool.false_ne_true ((quiet i).symm.trans busy)
      · exact nomatch waits
    · have still := (after _).mpr (stepped_idle (st := s.station) (busy := s.carriers.current)
        (x := s.carriers.ports[p]) (not_active_of waiting ⟨nofun, nofun⟩))
      have claim := claims_stepped (st := s.station) (busy := s.carriers.current) (now := Vector.replicate 9 false) waiting
      by_cases claims : Claims { ports := s.carriers.ports.map (stepped s.station s.carriers.current)
                                 current := Vector.replicate 9 false
                                 previous := s.carriers.current } p
      · exact ⟨true, ⟨fun _ => claim.mp claims, fun _ => rfl⟩, (claimStep_claimed claims).trans (by rw [still]; rfl)⟩
      · exact ⟨false, ⟨nofun, fun h => absurd (claim.mpr h) claims⟩, (claimStep_unclaimed claims).trans still⟩
  · have acts : active s.carriers.ports[p] = true := active_iff.mpr (.inr lighting)
    change Host.Outcome.next (if _ then _ else _) = _
    rw [if_pos (by rw [lighting, one, List.contains_iff_mem.mpr due, joined]; rfl), lightingToClaim_port joined law acts,
      stepped_lighting lighting one, if_pos (le_refl 1)]
  · have acts : active s.carriers.ports[p] = true := active_iff.mpr (.inl claiming)
    change Host.Outcome.next (if _ then _ else _) = _
    rw [if_pos (by rw [claiming, List.contains_iff_mem.mpr due, joined]; rfl), lightingToClaim_port joined law acts,
      stepped_claiming claiming]
  · have idle : (decide (s.station.state = .joined) && s.tx.due.contains .lighting) = false := by
      simpa [Classical.or_iff_not_imp_left] using h
    constructor
    · change Host.Outcome.next (if _ then _ else _) = _
      rw [idle]
      rfl
    · change Host.Outcome.next (if _ then _ else _) = _
      rw [idle]
      rfl

end Sys2Proof.LightingSteps
end

section
/-! PROOFS. Markers of a lane that is not ALIGNED (R30 to R33): O51; the carrier framer (R140, R141): O56; the shelf
reference (R157, R158): O58. -/

namespace Sys2Proof.Pulses

open Sys2Proof.Machine Sys2Proof.Safety

variable {s : State} {l : Fin 9} {p : Fin 4} {t : Nat}

theorem within_iff {d a b : Int} : within d a b = true ↔ b - d ≤ a ∧ a ≤ b + d := by
  simp only [within, Bool.and_eq_true, decide_eq_true_iff]
  omega

theorem not_within_iff {d a b : Int} : within d a b = false ↔ a < b - d ∨ b + d < a := by
  simp only [within, Bool.and_eq_false_iff, decide_eq_false_iff_not]
  omega

theorem peerLane_iff : peerLane l s = true ↔ s.station.state ≠ .cold ∧ l ≠ s.station.number := by
  simp [peerLane, running]

/-! ### Markers of a lane that is not ALIGNED -/

theorem exec_laneMarker (peer : peerLane l s = true) : exec (.laneMarkerArrival l t) s = .next (finish s (laneMarker l t s)) :=
  congrArg Host.Outcome.next (if_pos peer)

theorem laneMarker_starts (h : s.lanes[l].state = .absent ∨ s.lanes[l].state = .lost) :
    laneMarker l t s = setLane l (startAligning t s.lanes[l]) (atTime t s) := by
  unfold laneMarker
  dsimp only [atTime]
  rcases h with h | h <;> rw [h]

theorem laneMarker_aligning (h : s.lanes[l].state = .aligning) :
    laneMarker l t s = setLane l (alignMarker t s.lanes[l]) (atTime t s) := by
  unfold laneMarker
  dsimp only [atTime]
  rw [h]

theorem skewRange_eq (a : Int) : (!within skewLimit a 0) = decide (a < -24 ∨ 24 < a) := by
  rw [Bool.eq_iff_iff, Bool.not_eq_true', not_within_iff, decide_eq_true_iff]
  simp only [skewLimit]
  omega

theorem startAligning_eq (x : LaneRx) : startAligning t x = { x with
    state := .aligning, capture := some (skewOf t), candidate := some (skewOf t), matchCount := 1, held := none, trackCount := 0
    drift := 0, missed := 0, skewRange := decide (skewOf t < -24 ∨ 24 < skewOf t), windows := []
    openWindow := if t ≤ 83 then 0 else 1, slot := 0, windowMarker := true, windowHeader := false } := by
  rw [← skewRange_eq]
  rfl

/-- Settles O51. -/
theorem markersStartAndRestartAlignment : Obligations.MarkersStartAndRestartAlignment := by
  rintro l t s skew start running other (place : skew = skewOf t) begins
  subst place
  obtain rfl : start = startAligning t s.lanes[l] := begins.trans (startAligning_eq _).symm
  have peer : peerLane l s = true := peerLane_iff.mpr ⟨running, other⟩
  refine ⟨fun h => ?_, fun c aligning candidate => ⟨fun above below => ?_, fun outside => ?_⟩⟩
  · rw [exec_laneMarker peer, laneMarker_starts h]
    rfl
  · rw [exec_laneMarker peer, laneMarker_aligning aligning]
    unfold alignMarker
    rw [candidate]
    dsimp only
    rw [if_pos (within_iff.mpr ⟨above, below⟩)]
    rfl
  · rw [exec_laneMarker peer, laneMarker_aligning aligning]
    unfold alignMarker
    rw [candidate]
    dsimp only
    rw [if_neg (by rw [not_within_iff.mpr outside]; exact Bool.false_ne_true)]
    rfl

/-! ### The framer -/

theorem inCarrierWindow_iff {x : CarrierPort} {e : Int} (due : x.expected = some e) :
    inCarrierWindow t x = true ↔ e - 2 ≤ (t : Int) ∧ (t : Int) ≤ e + 2 := by
  unfold inCarrierWindow
  rw [due]
  exact within_iff

theorem exec_carrierMarker (running : s.station.state ≠ .cold) : exec (.carrierMarkerArrival p t) s =
    .next (finish s { s with
      tx := { s.tx with tileTime := t }
      carriers := { s.carriers with ports := s.carriers.ports.set p (framerMarker t s.carriers.ports[p]) } }) :=
  congrArg Host.Outcome.next (if_pos (Arrival.running_iff.mpr running))

theorem exec_syncEntry (running : s.station.state ≠ .cold) (confirms : confirmsNow t s.carriers.ports[p] = true) :
    exec (.carrierSyncEntry p t) s = exec (.carrierMarkerArrival p t) s := by
  rw [exec_carrierMarker running]
  exact congrArg Host.Outcome.next (if_pos (by rw [Arrival.running_iff.mpr running, confirms]; rfl))

theorem exec_windowClose (running : s.station.state ≠ .cold) :
    exec (.carrierWindowClose p) s = .next (finish s (windowMissed p s)) :=
  congrArg Host.Outcome.next (if_pos (Arrival.running_iff.mpr running))

theorem losesSync_iff {x : CarrierPort} : losesSync x = true ↔ x.framer = .sync ∧ 3 ≤ x.missing := by simp [losesSync]

theorem confirmsNow_iff {x : CarrierPort} :
    confirmsNow t x = true ↔ x.framer = .confirm ∧ inCarrierWindow t x = true ∧ x.confirm = some 2 := by
  simp [confirmsNow, and_assoc]

theorem windowMissed_kept (h : losesSync s.carriers.ports[p] = false) :
    windowMissed p s = setPort p (framerMiss s.carriers.ports[p]) s := by
  unfold windowMissed
  dsimp only
  rw [h]
  rfl

theorem dropOne_eq (r : Source) : dropOne p r =
    if r.removed = false ∧ r.carrierPort = some p then { r with ingress := .absent } else r := by
  unfold dropOne
  refine if_congr ?_ rfl rfl
  simp [and_comm]

theorem setPort_self (p : Fin 4) (s : State) : setPort p s.carriers.ports[p] s = s := by
  unfold setPort
  rw [show s.carriers.ports.set p s.carriers.ports[p] = s.carriers.ports from Vector.set_getElem_self ..]

/-- Settles O56. -/
theorem framerFollowsTheFarEnd : Obligations.FramerFollowsTheFarEnd := by
  constructor
  · rintro p t s x become running rfl rfl
    have becomes : ∀ y, framerMarker t s.carriers.ports[p] = y → exec (.carrierMarkerArrival p t) s = .next (finish s { s with
        tx := { s.tx with tileTime := t }, carriers := { s.carriers with ports := s.carriers.ports.set p y } }) := by
      rintro y rfl
      exact exec_carrierMarker running
    refine ⟨fun hunt => becomes _ ?_, fun e due => ⟨fun awake outside => becomes _ ?_, fun above below =>
      ⟨fun n confirm count other => becomes _ ?_, fun confirm count => ?_, fun sync => becomes _ ?_⟩⟩, fun unready => ?_⟩
    · unfold framerMarker
      rw [hunt]
      rfl
    · have out : inCarrierWindow t s.carriers.ports[p] = false :=
        Bool.eq_false_iff.mpr fun h => by have := (inCarrierWindow_iff due).mp h; omega
      unfold framerMarker confirmsNow
      rw [out]
      split
      · rename_i hunt
        exact absurd hunt awake
      · simp
      · simp
    · unfold framerMarker confirmsNow
      rw [confirm, (inCarrierWindow_iff due).mpr ⟨above, below⟩, count]
      simp [other, dueAfter]
    · have confirms : confirmsNow t s.carriers.ports[p] = true :=
        confirmsNow_iff.mpr ⟨confirm, (inCarrierWindow_iff due).mpr ⟨above, below⟩, count⟩
      refine ⟨exec_syncEntry running confirms, (exec_syncEntry running confirms).trans (becomes _ ?_)⟩
      unfold framerMarker
      rw [confirm]
      dsimp only
      rw [if_pos confirms]
      rfl
    · unfold framerMarker
      rw [sync]
      dsimp only
      rw [if_pos ((inCarrierWindow_iff due).mpr ⟨above, below⟩)]
      rfl
    · refine congrArg Host.Outcome.next (if_neg fun all => ?_)
      obtain ⟨confirm, -, count⟩ := confirmsNow_iff.mp (Bool.and_eq_true_iff.mp all).2
      exact unready.elim (· confirm) (· count)
  · rintro p s x hunt running rfl rfl
    refine ⟨fun hunt => ?_, fun confirm => ?_, fun sync few => ?_, fun sync many => ?_, fun unready => ?_⟩
    · rw [exec_windowClose running, windowMissed_kept (Bool.eq_false_iff.mpr fun h =>
        nomatch hunt.symm.trans (losesSync_iff.mp h).1)]
      unfold framerMiss
      rw [hunt]
      dsimp only
      rw [setPort_self]
    · rw [exec_windowClose running, windowMissed_kept (Bool.eq_false_iff.mpr fun h =>
        nomatch confirm.symm.trans (losesSync_iff.mp h).1)]
      unfold framerMiss
      rw [confirm]
      rfl
    · have keeps : losesSync s.carriers.ports[p] = false :=
        Bool.eq_false_iff.mpr fun h => absurd (losesSync_iff.mp h).2 (not_le.mpr few)
      rw [exec_windowClose running, windowMissed_kept keeps]
      unfold framerMiss
      rw [sync, keeps]
      rfl
    · have loses : losesSync s.carriers.ports[p] = true := losesSync_iff.mpr ⟨sync, many⟩
      have same : exec (.carrierSyncLoss p) s = exec (.carrierWindowClose p) s := by
        rw [exec_windowClose running]
        exact congrArg Host.Outcome.next (if_pos (by rw [Arrival.running_iff.mpr running, loses]; rfl))
      refine ⟨same, same.trans ((exec_windowClose running).trans ?_)⟩
      have lost : windowMissed p s = dropIngress p (setPort p (framerHunt s.carriers.ports[p]) s) := by
        unfold windowMissed framerMiss
        dsimp only
        rw [sync, loses]
        rfl
      rw [lost]
      unfold dropIngress
      rw [funext dropOne_eq]
      rfl
    · refine congrArg Host.Outcome.next (if_neg fun all => ?_)
      obtain ⟨sync, many⟩ := losesSync_iff.mp (Bool.and_eq_true_iff.mp all).2
      exact unready.elim (· sync) fun few => absurd many (not_le.mpr few)

/-! ### The shelf reference -/

theorem refTaken_iff : refTaken s = true ↔ s.station.state ≠ .cold ∧ s.station.refUse = true := by simp [refTaken, running]

variable {u v : TimingUnit}

theorem inRefWindow_iff {e : Int} (due : u.refExpected = some e) :
    inRefWindow t u = true ↔ e - 1 ≤ (t : Int) ∧ (t : Int) ≤ e + 1 := by
  unfold inRefWindow
  rw [due]
  exact within_iff

theorem not_inRefWindow (out : ∀ e, u.refExpected = some e → (t : Int) < e - 1 ∨ e + 1 < (t : Int)) :
    inRefWindow t u = false := by
  unfold inRefWindow
  split
  · rfl
  · rename_i e due
    exact not_within_iff.mpr (out e due)

theorem qualifiesNow_iff : qualifiesNow t u = true ↔ u.refState = .counting ∧ inRefWindow t u = true ∧ u.refRun = 63 := by
  simp [qualifiesNow, and_assoc]

theorem disqualifiesNow_iff : disqualifiesNow u = true ↔ u.refState = .qualified ∧ 2 ≤ u.refMissing := by
  simp [disqualifiesNow]

theorem refStep_same (same : v.refState = .qualified ↔ s.timing.refState = .qualified) :
    refStep v s = { s with timing := v } := by
  unfold refStep
  dsimp only
  rw [if_neg]
  simpa using same

theorem refStep_changed (changed : ¬ (v.refState = .qualified ↔ s.timing.refState = .qualified)) :
    refStep v s = reselect { s with timing := v } := by
  unfold refStep
  dsimp only
  rw [if_pos]
  simpa using changed

/-- Settles O58. -/
theorem referencePulsesQualifyAndDisqualify : Obligations.ReferencePulsesQualifyAndDisqualify := by
  refine ⟨?_, ?_, ?_⟩
  · rintro t s u skew running enabled rfl (place : skew = skewOf t)
    subst place
    have taken : refTaken s = true := refTaken_iff.mpr ⟨running, enabled⟩
    have pulses : ∀ v, pulse t s.timing = v → (v.refState = .qualified ↔ s.timing.refState = .qualified) →
        exec (.refPulse t) s = .next (finish s { s with tx := { s.tx with tileTime := t }, timing := v }) := by
      rintro v rfl same
      refine congrArg Host.Outcome.next ((if_pos taken).trans ?_)
      rw [refStep_same (s := atTime t s) same]
      rfl
    refine ⟨fun begins => pulses _ ?_ ?_, fun e due above below =>
      ⟨fun counting more => pulses _ ?_ ?_, fun counting last => ?_, fun qualified => pulses _ ?_ ?_⟩,
      fun qualified out => pulses _ ?_ Iff.rfl, fun unready => ?_⟩
    · unfold pulse qualifiesNow
      rcases begins with idle | ⟨counting, out⟩
      · rw [idle]
        rfl
      · rw [counting, not_inRefWindow out]
        simp [beginRun]
    · rcases begins with idle | ⟨counting, -⟩
      · rw [idle]
        exact ⟨nofun, nofun⟩
      · rw [counting]
    · unfold pulse qualifiesNow
      rw [counting, (inRefWindow_iff due).mpr ⟨above, below⟩]
      simp [more, takePulse, counting]
    · rw [counting]
    · have now : qualifiesNow t s.timing = true :=
        qualifiesNow_iff.mpr ⟨counting, (inRefWindow_iff due).mpr ⟨above, below⟩, last⟩
      have same : exec (.refQualified t) s = exec (.refPulse t) s := congrArg Host.Outcome.next
        ((if_pos (by rw [taken, now]; rfl)).trans (if_pos taken).symm)
      refine ⟨same, same.trans (congrArg Host.Outcome.next ((if_pos taken).trans ?_))⟩
      have counted : pulse t s.timing = { takePulse t s.timing with refState := .qualified, refRun := 64, refMissing := 0 } := by
        unfold pulse
        rw [counting]
        exact if_pos now
      rw [counted, refStep_changed]
      · rfl
      · rw [show (atTime t s).timing = s.timing from rfl, counting]
        exact fun h => nomatch h.mp rfl
    · unfold pulse
      rw [qualified]
      dsimp only
      rw [if_pos ((inRefWindow_iff due).mpr ⟨above, below⟩), ← qualified]
      rfl
    · exact Iff.rfl
    · unfold pulse
      rw [qualified]
      dsimp only
      rw [if_neg (by rw [not_inRefWindow out]; exact Bool.false_ne_true)]
    · refine congrArg Host.Outcome.next (if_neg fun all => ?_)
      obtain ⟨counting, -, last⟩ := qualifiesNow_iff.mp (Bool.and_eq_true_iff.mp all).2
      exact unready.elim (· counting) (· last)
  · rintro s u idle running enabled rfl rfl
    have taken : refTaken s = true := refTaken_iff.mpr ⟨running, enabled⟩
    have closes : ∀ v, refMiss s.timing = v → (v.refState = .qualified ↔ s.timing.refState = .qualified) →
        exec .refWindowClose s = .next (finish s { s with timing := v }) := by
      rintro v rfl same
      refine congrArg Host.Outcome.next ((if_pos taken).trans ?_)
      rw [refStep_same same]
    refine ⟨fun idle => ?_, fun counting => closes _ ?_ ?_, fun qualified few => closes _ ?_ Iff.rfl,
      fun qualified many => ?_, fun unready => ?_⟩
    · refine closes s.timing ?_ Iff.rfl
      unfold refMiss
      rw [idle]
    · unfold refMiss
      rw [counting]
      rfl
    · rw [counting]
      exact ⟨nofun, nofun⟩
    · unfold refMiss
      rw [qualified]
      exact if_neg fun now => absurd (disqualifiesNow_iff.mp now).2 (by omega)
    · have now : disqualifiesNow s.timing = true := disqualifiesNow_iff.mpr ⟨qualified, many⟩
      have same : exec .refDisqualified s = exec .refWindowClose s := congrArg Host.Outcome.next
        ((if_pos (by rw [taken, now]; rfl)).trans (if_pos taken).symm)
      refine ⟨same, same.trans (congrArg Host.Outcome.next ((if_pos taken).trans ?_))⟩
      have ended : refMiss s.timing = refIdle s.timing := by
        unfold refMiss
        rw [qualified]
        exact if_pos now
      rw [ended, refStep_changed]
      · rfl
      · rw [qualified]
        exact fun h => nomatch h.mpr rfl
    · refine congrArg Host.Outcome.next (if_neg fun all => ?_)
      obtain ⟨qualified, many⟩ := disqualifiesNow_iff.mp (Bool.and_eq_true_iff.mp all).2
      exact unready.elim (· qualified) fun few => absurd many (not_le.mpr few)
  · intro t s off
    have untaken : refTaken s = false := Bool.eq_false_iff.mpr fun taken => by
      obtain ⟨running, enabled⟩ := refTaken_iff.mp taken
      exact off.elim (fun h => Bool.false_ne_true (h.symm.trans enabled)) running
    have idle : ∀ (b : Bool) (v : State), (if (refTaken s && b) = true then v else s) = s := fun b v => by
      rw [untaken, Bool.false_and]
      rfl
    have still : ∀ v : State, (if refTaken s = true then v else s) = s := fun v => by
      rw [untaken]
      rfl
    exact ⟨congrArg _ (still _), congrArg _ (idle _ _), congrArg _ (still _), congrArg _ (idle _ _)⟩

end Sys2Proof.Pulses
end

section
/-! PROOFS. The lane header and its manifest fragments, read as sent (R25, R45 to R47, R53, R191): O12 and O13. -/

namespace Sys2Proof.Manifests

open Sys2Proof.Machine Sys2Proof.Safety Sys2Proof.Tiles Sys2Proof.Pass

variable {s : State} {slots : List Slot} {h : Heard}

/-! ### The header -/

theorem field_word {n hi lo : Nat} (small : n < 65536) : field (word n) hi lo = n / 2 ^ lo % 2 ^ (hi - lo + 1) := by
  unfold field
  rw [word_toNat small]

/-- The four words of a header before its slots (R191). -/
theorem heardOf_headerWords (station : h.station < 16) (frag : h.frag < 16) (epoch : h.epoch < 256) (round : h.round < 65536)
    (level : h.level < 16) (source : h.source < 16) (light : h.light < 4) (count : h.count < 256) :
    heardOf (headerWords h slots) = h := by
  have bit : h.joined.toNat < 2 := Bool.toNat_lt _
  have read : heardOf (headerWords h slots) = {
      station := field (word (h.station * 4096 + h.frag * 256 + h.epoch)) 15 12
      frag := field (word (h.station * 4096 + h.frag * 256 + h.epoch)) 11 8
      epoch := field (word (h.station * 4096 + h.frag * 256 + h.epoch)) 7 0
      round := (word h.round).toNat
      level := field (word (h.level * 4096 + h.source * 256 + h.light * 64 + h.joined.toNat * 32)) 15 12
      source := field (word (h.level * 4096 + h.source * 256 + h.light * 64 + h.joined.toNat * 32)) 11 8
      light := field (word (h.level * 4096 + h.source * 256 + h.light * 64 + h.joined.toNat * 32)) 7 6
      joined := field (word (h.level * 4096 + h.source * 256 + h.light * 64 + h.joined.toNat * 32)) 5 5 = 1
      count := field (word (h.count * 256)) 15 8 } := rfl
  rw [read, field_word (by omega), field_word (by omega), field_word (by omega), word_toNat round, field_word (by omega),
    field_word (by omega), field_word (by omega), field_word (by omega), field_word (by omega)]
  norm_num only
  obtain ⟨a, b, joined, d, e, f, g, i, k⟩ := h
  dsimp only at *
  congr 1
  · omega
  · omega
  · rw [Bool.eq_iff_iff, decide_eq_true_iff]
    cases joined
    · simp only [Bool.toNat_false]
      exact ⟨fun h => by omega, nofun⟩
    · simp only [Bool.toNat_true]
      exact ⟨fun _ => trivial, fun _ => by omega⟩
  · omega
  · omega
  · omega
  · omega
  · omega

theorem slotsOf_headerWords (eight : slots.length = 8) : slotsOf (headerWords h slots) = slots := by
  match slots, eight with
  | [a, b, c, d, e, f, g, k], _ => rfl

/-- Settles O12. -/
theorem laneHeaderReadsAsSent : Obligations.LaneHeaderReadsAsSent := by
  intro h slots station frag epoch round level source light count eight
  obtain ⟨ws, length, same⟩ := Checks.headerWords_eq_append_check h eight
  refine ⟨?_, ?_, heardOf_headerWords station frag epoch round level source light count, slotsOf_headerWords eight⟩
  · rw [same, List.length_append, length]
    rfl
  · rw [same]
    exact Checks.checkGood_append_iff.mpr rfl

/-! ### The slots of a snapshot -/

/-- The slot at place `n` of the round's 128 (R25). -/
def slotAt (snapshot : List Entry) (n : Nat) : Slot :=
  match snapshot[n]? with
  | some e => e.slot
  | none => Slot.empty

theorem fragments_eq (snapshot : List Entry) :
    (List.range 16).flatMap (fragmentSlots snapshot) = (List.range 128).map (slotAt snapshot) := by
  have all : ∀ n, (List.range n).flatMap (fragmentSlots snapshot) = (List.range (8 * n)).map (slotAt snapshot) := by
    intro n
    induction n with
    | zero => rfl
    | succ n ih =>
      rw [List.range_succ, List.flatMap_append, ih, Nat.mul_succ, List.range_add, List.map_append, List.map_map,
        List.flatMap_singleton]
      rfl
  exact all 16

theorem slotAt_some {snapshot : List Entry} {n : Nat} (inside : n < snapshot.length) :
    slotAt snapshot n = snapshot[n].slot := by
  unfold slotAt
  rw [List.getElem?_eq_getElem inside]

theorem slotAt_none {snapshot : List Entry} {n : Nat} (beyond : snapshot.length ≤ n) : slotAt snapshot n = Slot.empty := by
  unfold slotAt
  rw [List.getElem?_eq_none beyond]

theorem take_slots {snapshot : List Entry} (fits : snapshot.length ≤ 128) :
    ((List.range 128).map (slotAt snapshot)).take snapshot.length = snapshot.map Entry.slot := by
  refine List.ext_getElem (by simp [fits]) fun n hn hm => ?_
  rw [List.length_map] at hm
  simp [slotAt_some hm]

theorem drop_slots (snapshot : List Entry) :
    ((List.range 128).map (slotAt snapshot)).drop snapshot.length = List.replicate (128 - snapshot.length) Slot.empty := by
  refine List.ext_getElem (by simp) fun n hn hm => ?_
  simp [slotAt_none]

/-! ### The entries -/

/-- The values and tiles that R53 asks of an entry. -/
def Sound : Entry → Prop
  | .offer tag cls first _ _ => tagOk tag = true ∧ classOk cls = true ∧ first % cls = 0 ∧ first + cls ≤ 160
  | .want tag cls => tagOk tag = true ∧ classOk cls = true

theorem quality_code_bounds (q : Quality) : q.code < 4 := by cases q <;> decide
theorem standing_code_bounds (st : Standing) : st.code < 4 := by cases st <;> decide
theorem qualityOfCode_code (q : Quality) : qualityOfCode q.code = some q := by cases q <;> rfl
theorem standingOfCode_code (st : Standing) : standingOfCode st.code = some st := by cases st <;> rfl

/-- A slot with the code of an OFFER is read field by field. -/
theorem entry_offer {sl : Slot} {tag cls first : Nat} {q : Quality} {st : Standing} (kind : sl.kind = 1) (hc : sl.cls = cls)
    (hq : sl.quality = q.code) (hs : sl.standing = st.code) (ht : sl.tag = tag) (hf : sl.first = first)
    (sound : Sound (.offer tag cls first q st)) : sl.entry = some (.offer tag cls first q st) := by
  obtain ⟨tagged, classed, aligned, fits⟩ := sound
  unfold Slot.entry
  rw [if_pos kind, hq, hs, qualityOfCode_code, standingOfCode_code, hc, ht, hf]
  simp [tagged, classed, aligned, fits]

theorem entry_want {sl : Slot} {tag cls : Nat} (kind : sl.kind = 2) (hc : sl.cls = cls) (ht : sl.tag = tag)
    (sound : Sound (.want tag cls)) : sl.entry = some (.want tag cls) := by
  obtain ⟨tagged, classed⟩ := sound
  unfold Slot.entry
  rw [if_neg (by rw [kind]; decide), if_pos kind, hc, ht]
  simp [tagged, classed]

theorem entry_slot {e : Entry} (sound : Sound e) : e.slot.entry = some e := by
  cases e with
  | offer tag cls first q st =>
    obtain ⟨tagged, classed, aligned, fits⟩ := sound
    have tags := tagOk_iff.mp tagged
    have classes := classOk_bounds classed
    have quality := quality_code_bounds q
    have standing := standing_code_bounds st
    refine entry_offer ?_ ?_ ?_ ?_ ?_ ?_ ⟨tagged, classed, aligned, fits⟩
    · exact (field_word (by omega)).trans (by omega)
    · exact (field_word (by omega)).trans (by omega)
    · exact (field_word (by omega)).trans (by omega)
    · exact (field_word (by omega)).trans (by omega)
    · exact (congrArg₂ (16 * · + ·) (word_toNat (by omega)) (field_word (by omega))).trans (by omega)
    · exact (field_word (by omega)).trans (by omega)
  | want tag cls =>
    obtain ⟨tagged, classed⟩ := sound
    have tags := tagOk_iff.mp tagged
    have classes := classOk_bounds classed
    refine entry_want ?_ ?_ ?_ ⟨tagged, classed⟩
    · exact (field_word (by omega)).trans (by omega)
    · exact (field_word (by omega)).trans (by omega)
    · exact (congrArg₂ (16 * · + ·) (word_toNat (by omega)) (field_word (by omega))).trans (by omega)

theorem entries_of_slots {es : List Entry} (sound : ∀ e ∈ es, Sound e) : (es.map Entry.slot).filterMap Slot.entry = es := by
  rw [List.filterMap_map]
  exact (List.filterMap_congr fun e he => entry_slot (sound e he)).trans List.filterMap_some

/-! ### The snapshot of a store in order -/

/-- The OFFERs of a snapshot (R45). -/
def offersOf (s : State) : List Entry := (byFirstTile s.store.sources).filterMap (offerOf s.carriers.ports)

/-- The WANTs of a snapshot (R46). -/
def wantsOf (s : State) : List Entry := (bySinkTag s.store.sinks).map fun k => .want k.tag k.cls

theorem snapshotEntries_eq (s : State) : snapshotEntries s = offersOf s ++ wantsOf s := rfl

theorem mem_offersOf {e : Entry} : e ∈ offersOf s ↔ ∃ r ∈ s.store.sources, offerOf s.carriers.ports r = some e := mem_offers

theorem mem_wantsOf {e : Entry} : e ∈ wantsOf s ↔ ∃ k ∈ s.store.sinks, e = .want k.tag k.cls := by
  unfold wantsOf bySinkTag
  simp [eq_comm]

theorem snapshot_sound (tile : TileLaw s) (sinks : SinkTable s) (tags : ∀ r ∈ s.store.sources, tagOk r.tag = true) :
    ∀ e ∈ snapshotEntries s, Sound e := by
  intro e he
  rw [snapshotEntries_eq, List.mem_append] at he
  rcases he with he | he
  · obtain ⟨r, mem, offer⟩ := mem_offersOf.mp he
    obtain ⟨-, f, first, rfl⟩ := offerOf_eq_some.mp offer
    exact ⟨tags r mem, tile.classes r mem, (tile.tiles r mem).aligned f first⟩
  · obtain ⟨k, mem, rfl⟩ := mem_wantsOf.mp he
    exact sinks.range k mem

theorem snapshot_fits (sources : s.store.sources.length ≤ 64) (sinks : s.store.sinks.length ≤ 64) :
    (snapshotEntries s).length ≤ 128 := by
  have offers : (offersOf s).length ≤ s.store.sources.length :=
    (List.length_filterMap_le _ _).trans (List.length_insertionSort ..).le
  have wants : (wantsOf s).length = s.store.sinks.length := (List.length_map _).trans (List.length_insertionSort ..)
  rw [snapshotEntries_eq, List.length_append]
  omega

/-- A property of neighbours that every pair of the list has. -/
theorem neighbours {α : Type} {R : α → α → Prop} : ∀ {l : List α}, l.Pairwise R → ∀ p ∈ l.zip (l.drop 1), R p.1 p.2
  | [], _, p, hp => nomatch hp
  | [_], _, p, hp => nomatch hp
  | a :: b :: l, pairs, p, hp => by
    obtain ⟨first, rest⟩ := List.pairwise_cons.mp pairs
    rcases List.mem_cons.mp hp with rfl | later
    · exact first b List.mem_cons_self
    · exact neighbours rest p later

/-- Two OFFERED sources, the first placed before the second: their tiles do not meet (R73). -/
theorem tiles_apart (tile : TileLaw s) {a b : Source} {f g : Nat} (ha : a ∈ s.store.sources) (hb : b ∈ s.store.sources)
    (fa : a.firstTile = some f) (fb : b.firstTile = some g) (order : f ≤ g) (ne : a ≠ b) : f + a.cls ≤ g := by
  by_contra meet
  have room := (classOk_bounds (tile.classes b hb)).1
  have same := ((tile.tiles a ha).held f fa g order (by omega)).symm.trans ((tile.tiles b hb).held g fb g le_rfl (by omega))
  exact ne (List.inj_on_of_nodup_map tile.tags ha hb (Option.some.inj (Option.some.inj same)))

/-- The tiles of an OFFER. -/
def spanOf (e : Entry) : Option (Nat × Nat) :=
  match e with
  | .offer _ c first _ _ => some (first, c)
  | .want _ _ => none

def isOffer (e : Entry) : Bool :=
  match e with
  | .offer _ _ _ _ _ => true
  | .want _ _ => false

def isWant (e : Entry) : Bool :=
  match e with
  | .want _ _ => true
  | .offer _ _ _ _ _ => false

/-- The checks of R53 over the entries that the used slots hold. -/
theorem wellFormedEntries_of {es : List Entry} {count : Nat} (fits : count ≤ 128)
    (read : (slots.take count).filterMap Slot.entry = es) (all : es.length = count)
    (rest : ∀ sl ∈ slots.drop count, sl.kind = 0) (order : es = es.filter isOffer ++ es.filter isWant)
    (spans : ∀ p ∈ ((es.filter isOffer).filterMap spanOf).zip (((es.filter isOffer).filterMap spanOf).drop 1),
      p.1.1 + p.1.2 ≤ p.2.1)
    (wants : ∀ p ∈ ((es.filter isWant).map Entry.tag).zip (((es.filter isWant).map Entry.tag).drop 1), p.1 < p.2)
    (offers : ((es.filter isOffer).map Entry.tag).Nodup) : wellFormedEntries count slots = some es := by
  subst read
  refine if_pos ?_
  simp only [Bool.and_eq_true, decide_eq_true_iff, List.all_eq_true]
  exact ⟨⟨⟨⟨⟨⟨fits, all⟩, rest⟩, order⟩, spans⟩, wants⟩, offers⟩

theorem byFirstTile_ordered (tile : TileLaw s) :
    (byFirstTile s.store.sources).Pairwise fun a b => a.firstTile.getD 160 ≤ b.firstTile.getD 160 ∧ a ≠ b := by
  have total : Std.Total ByFirst := ⟨fun a b => Nat.le_total _ _⟩
  have trans : IsTrans Source ByFirst := ⟨fun a b c => Nat.le_trans⟩
  have sorted : (byFirstTile s.store.sources).Pairwise ByFirst :=
    @List.pairwise_insertionSort _ ByFirst (fun _ _ => Nat.decLe _ _) total trans _
  have distinct : (byFirstTile s.store.sources).Nodup :=
    ((List.perm_insertionSort ..).nodup_iff).mpr (List.Nodup.of_map _ tile.tags)
  exact sorted.and distinct

theorem spans_apart (tile : TileLaw s) : ((offersOf s).filterMap spanOf).Pairwise fun p q => p.1 + p.2 ≤ q.1 := by
  unfold offersOf
  rw [List.filterMap_filterMap, List.pairwise_filterMap]
  refine (byFirstTile_ordered tile).imp_of_mem fun {a b} ha hb order p hp q hq => ?_
  obtain ⟨e, offer, span⟩ := Option.bind_eq_some_iff.mp hp
  obtain ⟨e', offer', span'⟩ := Option.bind_eq_some_iff.mp hq
  obtain ⟨-, f, fa, rfl⟩ := offerOf_eq_some.mp offer
  obtain ⟨-, g, fb, rfl⟩ := offerOf_eq_some.mp offer'
  cases span
  cases span'
  obtain ⟨before, ne⟩ := order
  rw [fa, fb] at before
  exact tiles_apart tile ((List.mem_insertionSort _).mp ha) ((List.mem_insertionSort _).mp hb) fa fb before ne

theorem offer_tags (tile : TileLaw s) : ((offersOf s).map Entry.tag).Nodup := by
  have distinct : ((byFirstTile s.store.sources).map (·.tag)).Nodup :=
    (((List.perm_insertionSort ..).map _).nodup_iff).mpr tile.tags
  refine distinct.sublist ?_
  unfold offersOf
  rw [List.map_filterMap]
  generalize byFirstTile s.store.sources = rs
  induction rs with
  | nil => exact List.Sublist.slnil
  | cons r rs ih =>
    rw [List.filterMap_cons, List.map_cons]
    rcases offer : offerOf s.carriers.ports r with _ | e
    · exact ih.cons _
    · obtain ⟨-, f, -, rfl⟩ := offerOf_eq_some.mp offer
      exact ih.cons_cons _

theorem want_tags (sinks : SinkTable s) : ((wantsOf s).map Entry.tag).Pairwise (· < ·) := by
  have tags : (wantsOf s).map Entry.tag = (bySinkTag s.store.sinks).map (·.tag) := List.map_map
  have total : Std.Total fun a b : Sink => a.tag ≤ b.tag := ⟨fun a b => Nat.le_total _ _⟩
  have trans : IsTrans Sink fun a b => a.tag ≤ b.tag := ⟨fun a b c => Nat.le_trans⟩
  have sorted : (bySinkTag s.store.sinks).Pairwise fun a b => a.tag ≤ b.tag := List.pairwise_insertionSort _ _
  have distinct : ((bySinkTag s.store.sinks).map (·.tag)).Nodup :=
    (((List.perm_insertionSort ..).map _).nodup_iff).mpr sinks.tags
  rw [tags, List.pairwise_map]
  exact (sorted.and (List.pairwise_map.mp distinct)).imp fun ⟨le, ne⟩ => lt_of_le_of_ne le ne

/-- Settles O13. -/
theorem snapshotReadsBackAsAManifest : Obligations.SnapshotReadsBackAsAManifest := by
  intro s tile sinks tags sources counted
  have fits := snapshot_fits sources counted
  have read := entries_of_slots (snapshot_sound tile sinks tags)
  have offers : (snapshotEntries s).filter isOffer = offersOf s := by
    rw [snapshotEntries_eq, List.filter_append, List.filter_eq_self.mpr, List.filter_eq_nil_iff.mpr, List.append_nil]
    · intro e he
      obtain ⟨k, -, rfl⟩ := mem_wantsOf.mp he
      exact Bool.false_ne_true
    · intro e he
      obtain ⟨r, -, offer⟩ := mem_offersOf.mp he
      obtain ⟨-, f, -, rfl⟩ := offerOf_eq_some.mp offer
      rfl
  have wants : (snapshotEntries s).filter isWant = wantsOf s := by
    rw [snapshotEntries_eq, List.filter_append, List.filter_eq_nil_iff.mpr, List.filter_eq_self.mpr, List.nil_append]
    · intro e he
      obtain ⟨k, -, rfl⟩ := mem_wantsOf.mp he
      rfl
    · intro e he
      obtain ⟨r, -, offer⟩ := mem_offersOf.mp he
      obtain ⟨-, f, -, rfl⟩ := offerOf_eq_some.mp offer
      exact Bool.false_ne_true
  refine wellFormedEntries_of fits ?_ rfl ?_ ?_ ?_ ?_ ?_
  · rw [fragments_eq, take_slots fits]
    exact read
  · intro sl hsl
    rw [fragments_eq, drop_slots] at hsl
    obtain ⟨-, rfl⟩ := List.mem_replicate.mp hsl
    rfl
  · rw [offers, wants, snapshotEntries_eq]
  · rw [offers]
    exact neighbours (spans_apart tile)
  · rw [wants]
    exact neighbours (want_tags sinks)
  · rw [offers]
    exact offer_tags tile

end Sys2Proof.Manifests
end

section
/-! PROOFS. The commands that read (R184 to R186, R191): the layout of every payload (O18, O19). -/

namespace Sys2Proof.Reads

open Sys2Proof.Machine Sys2Proof.Safety Sys2Proof.Requests

variable {s : State} {l : Fin 9} {p : Fin 4} {n : Nat} {v : Nat}

/-! ### Rows of bytes -/

theorem be_eq (n v : Nat) : be n v = (List.range n).map fun i => BitVec.ofNat 8 (v / 256 ^ (n - 1 - i)) := by
  induction n generalizing v with
  | zero => rfl
  | succ n ih =>
    rw [be, ih, List.range_succ, List.map_append]
    congr 1
    · refine List.map_congr_left fun i hi => ?_
      have less := List.mem_range.mp hi
      rw [Nat.div_div_eq_div_mul, ← pow_succ', show n - 1 - i + 1 = n + 1 - 1 - i by omega]
    · simp

theorem laidOut_nil : laidOut [] = [] := rfl

theorem laidOut_cons (n v : Nat) (rows : List (Nat × Nat)) : laidOut ((n, v) :: rows) = be n v ++ laidOut rows := by
  rw [be_eq]
  rfl

theorem laidOut_append (a b : List (Nat × Nat)) : laidOut (a ++ b) = laidOut a ++ laidOut b := List.flatMap_append

theorem laidOut_length (rows : List (Nat × Nat)) : (laidOut rows).length = (rows.map (·.1)).sum := by
  simp [laidOut, List.length_flatMap]

theorem be_zero (n : Nat) : be n 0 = List.replicate n 0 := by
  rw [be_eq]
  simp [List.map_const']

theorem bitsValue_shift (bits : List Bool) (k : Nat) :
    ((bits.zipIdx k).map fun b => if b.1 then 2 ^ b.2 else 0).sum = 2 ^ k * bitsValue bits := by
  induction bits generalizing k with
  | nil => rfl
  | cons b bits ih =>
    rw [List.zipIdx_cons, List.map_cons, List.sum_cons, ih, bitsValue, pow_succ]
    cases b <;> simp <;> ring

theorem bitsValue_eq (bits : List Bool) : bitsValue bits = bitRow bits := by
  have whole := bitsValue_shift bits 0
  rw [pow_zero, one_mul] at whole
  exact whole.symm

theorem toNat_eq (b : Bool) : b.toNat = if b = true then 1 else 0 := by cases b <;> rfl

theorem signedByte_eq (i : Int) : signedByte i = be 1 (i % 256).toNat := by
  have same : BitVec.ofInt 8 i = BitVec.ofNat 8 (i % 256).toNat := by
    apply BitVec.eq_of_toNat_eq
    rw [BitVec.toNat_ofInt, BitVec.toNat_ofNat]
    omega
  exact congrArg (fun b => [b]) same

theorem signedOpt_eq (v : Option Int) : signedOpt v = be 1 (signedRow v) := signedByte_eq _

theorem instantByte_eq (tx : Transmitter) (e : Option Int) : instantByte tx e = be 1 (instantRow tx.lastLen tx.frameLen e) := by
  cases e with
  | none => rfl
  | some d => exact signedByte_eq _

theorem bindingBytes_eq (b : Binding) : bindingBytes b = laidOut (bindingRows b) := by
  cases b <;> simp only [bindingBytes, bindingRows, laidOut_cons, laidOut_nil, List.append_nil, List.append_assoc]

theorem heldAdapter_eq (s : State) (n : Option (Fin 96)) : heldAdapter s n = adapterOf s.store n := by
  cases n with
  | none => rfl
  | some n =>
    unfold heldAdapter adapterOf
    dsimp only [Option.bind_some]
    cases s.store.pool[n] <;> rfl

theorem detections_code (d : Detections) : d.code = bitRow [d.rate, d.overflow, d.dry, d.silent] := by
  rw [← bitsValue_eq]
  unfold Detections.code
  simp only [bitsValue]
  omega

theorem adapterBytes_eq (a : Option (Fin 96 × Adapter)) : adapterBytes a = laidOut (adapterRows a) := by
  rcases a with _ | ⟨n, a⟩
  · simp only [adapterBytes, adapterRows, laidOut_cons, laidOut_nil, List.append_nil, be_zero]
  · simp only [adapterBytes, adapterRows, adapterBlock, laidOut_cons, laidOut_nil, List.append_nil, List.append_assoc,
      detections_code, toNat_eq, beOpt]
    rfl

theorem adapterRows_length (a : Option (Fin 96 × Adapter)) : (laidOut (adapterRows a)).length = 22 := by
  rw [laidOut_length]
  rcases a with _ | ⟨n, a⟩ <;> rfl

theorem bindingRows_length (b : Binding) : (laidOut (bindingRows b)).length = 3 := by
  rw [laidOut_length]
  cases b <;> rfl

/-- An accepted command that answers with a payload and copies an item. -/
theorem request_answered {code : Byte} {n : Nat} {x : Transfer} {payload : List Byte} {body : List Byte → State → State}
    (h : Accepted code n x s) (r : ReportUnit) (answered : body x.params (shifted none (transferSize x) s) =
      respond code.toNat .done payload { shifted none (transferSize x) s with report := r }) :
    request code (some n) x body s = { s with
      mport := portAfter (responseBytes code.toNat .done payload) x s, report := attended s.station.state r } := by
  rw [request_of_accepted h, answered,
    ← respond_shifted_mport (code := code) (st := .done) (payload := payload) (x := x) h.runs]
  exact finish_quiet rfl rfl rfl rfl rfl

theorem be_append {w : Nat} {a b : List Byte} (value : v = w) (rest : a = b) : be n v ++ a = be n w ++ b := by rw [value, rest]

/-! ### READ ORDER -/

variable {r : Source} {k : Sink} {x : Transfer} {tag : Nat}

theorem readItem_eq {α : Type} (tag : Nat) (now : α) (l : List (Nat × Item α)) : readItem tag now l =
    l.map fun e => if e.1 = tag then (e.1, { snap := now, flag := false }) else e := rfl

theorem exec_readOrder_source (h : Accepted 7 4 x s) (source : param x.params 0 = 1)
    (hr : visibleSource s.store (paramBe x.params 1 3) = some r) : exec (.readOrder x) s = .next { s with
      mport := portAfter (responseBytes 7 .done (sourcePayload s r)) x s
      report := attended s.station.state { s.report with
        sources := readItem (paramBe x.params 1 3) (sourceReport s.carriers.ports r) s.report.sources } } := by
  refine congrArg Host.Outcome.next (request_answered (code := 7) h _ ?_)
  unfold readOrder
  rw [source]
  dsimp only [directionOfCode]
  rw [show (shifted none (transferSize x) s).store = s.store from rfl, hr]
  rfl

theorem exec_readOrder_sink (h : Accepted 7 4 x s) (sink : param x.params 0 = 2)
    (hk : findSink s.store (paramBe x.params 1 3) = some k) : exec (.readOrder x) s = .next { s with
      mport := portAfter (responseBytes 7 .done (sinkPayload s k)) x s
      report := attended s.station.state { s.report with
        sinks := readItem (paramBe x.params 1 3) (sinkReport k) s.report.sinks } } := by
  refine congrArg Host.Outcome.next (request_answered (code := 7) h _ ?_)
  unfold readOrder
  rw [sink]
  dsimp only [directionOfCode]
  rw [show (shifted none (transferSize x) s).store = s.store from rfl, hk]
  rfl

theorem readOrder_unknown_source (none : visibleSource s.store tag = none) : readOrder 1 tag s = respond 7 .tagUnknown [] s := by
  unfold readOrder
  rw [none]
  rfl

theorem readOrder_unknown_sink (none : findSink s.store tag = none) : readOrder 2 tag s = respond 7 .tagUnknown [] s := by
  unfold readOrder
  rw [none]
  rfl

theorem readOrder_range {d : Nat} (one : d ≠ 1) (two : d ≠ 2) : readOrder d tag s = respond 7 .range [] s := by
  have undefined : directionOfCode d = none := by
    unfold directionOfCode
    split
    · exact absurd rfl one
    · exact absurd rfl two
    · rfl
  unfold readOrder
  rw [undefined]

/-- The rows of a source (R191). -/
def sourceRows (s : State) (r : Source) : List (Nat × Nat) :=
  [(1, 1), (3, r.tag), (1, r.cls)] ++ bindingRows r.binding ++
    [(4, r.rnom), (1, r.k), (1, r.threshold), (1, r.priority),
      (1, match r.action with | .withdraw => 1 | .mark => 2 | .fill => 3),
      (1, match r.standing with | .primary => 1 | .standby => 2),
      (1, bitRow [r.firstTile.isSome, r.entryNo.isSome, (heldAdapter s r.adapter).isSome, false,
        (heldAdapter s r.adapter).any fun a => a.2.last.isSome]),
      (1, match r.state with | .dormant => 0 | .queued => 1 | .offered => 2 | .retiring => 3), (1, r.firstTile.getD 0),
      (1, r.releaseCount), (4, r.entryNo.getD 0), (1, r.passedOver), (1, bitRow [r.blocked, r.mismatch, r.latch, r.omitted]),
      (1, r.faultCount), (1, qualityRow (sourceQuality s.carriers.ports r)),
      (1, match r.ingress with
        | .absent => 0 | .passed .good => 1 | .passed .degraded => 2 | .passed .failed => 3 | .refused => 4)] ++
    adapterRows (heldAdapter s r.adapter)

/-- The rows of a sink (R191). -/
def sinkRows (s : State) (k : Sink) : List (Nat × Nat) :=
  [(1, 2), (3, k.tag), (1, k.cls)] ++ bindingRows k.binding ++
    [(4, k.rnom.getD 0), (1, k.k.getD 0), (1, k.w),
      (1, bitRow [false, false, (heldAdapter s k.adapter).isSome, k.sel.isSome,
        (heldAdapter s k.adapter).any fun a => a.2.last.isSome]),
      (1, if k.sel.isSome then 1 else 0), (1, (k.sel.map fun o => o.lane.val).getD 0), (1, (k.sel.map (·.first)).getD 0),
      (1, match k.sel.map Selection.standing with | some .primary => 1 | some .standby => 2 | none => 0),
      (1, (k.sel.map fun o => qualityRow o.quality).getD 0), (1, k.wtr), (2, k.switches), (1, k.slips),
      (1, bitRow [false, k.mismatch]), (1, match k.binding with | .client _ => k.faultCount | .carrier _ _ => 0),
      (1, qualityRow k.delivered), (1, qualityRow (outputQuality k))] ++
    (match k.binding with | .client _ => adapterRows (heldAdapter s k.adapter) | .carrier _ _ => [])

theorem sourcePayload_eq (s : State) (r : Source) : sourcePayload s r = laidOut (sourceRows s r) := by
  unfold sourcePayload sourceRows
  rw [laidOut_append, laidOut_append, laidOut_append]
  simp only [laidOut_cons, laidOut_nil, List.append_nil, List.append_assoc, ← bitsValue_eq, ← adapterBytes_eq,
    ← bindingBytes_eq, heldAdapter_eq, beOpt]
  repeat refine be_append rfl ?_
  refine congrArg (bindingBytes r.binding ++ ·) ?_
  repeat refine be_append rfl ?_
  rfl

theorem sourceRows_length (s : State) (r : Source) : (laidOut (sourceRows s r)).length = 52 := by
  unfold sourceRows
  rw [laidOut_append, laidOut_append, laidOut_append, List.length_append, List.length_append, List.length_append,
    bindingRows_length, adapterRows_length]
  simp only [laidOut_length, List.map_cons, List.map_nil, List.sum_cons, List.sum_nil]
  rfl

theorem standingCode_getD (o : Option Selection) : (o.map (·.standing.code)).getD 0 =
    match o.map Selection.standing with | some .primary => 1 | some .standby => 2 | none => 0 := by
  rcases o with _ | o
  · rfl
  · obtain ⟨_, _, standing, _⟩ := o
    cases standing <;> rfl

theorem sinkPayload_eq (s : State) (k : Sink) : sinkPayload s k = laidOut (sinkRows s k) := by
  unfold sinkPayload sinkRows
  rw [laidOut_append, laidOut_append, laidOut_append]
  simp only [laidOut_cons, laidOut_nil, List.append_nil, List.append_assoc, ← bitsValue_eq, ← bindingBytes_eq,
    heldAdapter_eq, beOpt]
  repeat refine be_append rfl ?_
  refine congrArg (bindingBytes k.binding ++ ·) ?_
  repeat refine be_append rfl ?_
  refine be_append (toNat_eq _) (be_append rfl (be_append rfl (be_append (standingCode_getD _) ?_)))
  repeat refine be_append rfl ?_
  cases k.binding with
  | client c => exact adapterBytes_eq _
  | carrier q first => rfl

theorem sinkRows_length (s : State) (k : Sink) : (laidOut (sinkRows s k)).length =
    match k.binding with | .client _ => 50 | .carrier _ _ => 28 := by
  unfold sinkRows
  rw [laidOut_append, laidOut_append, laidOut_append, List.length_append, List.length_append, List.length_append,
    bindingRows_length]
  simp only [laidOut_length, List.map_cons, List.map_nil, List.sum_cons, List.sum_nil]
  rw [← laidOut_length]
  cases k.binding with
  | client c => exact congrArg (28 + ·) (adapterRows_length _)
  | carrier q first => rfl

/-- Settles O18. -/
theorem readOrderCopiesTheItem : Obligations.ReadOrderCopiesTheItem := by
  rintro x s tag accepted rfl
  refine ⟨fun source r hr => ⟨?_, ?_, exec_readOrder_source accepted source hr⟩,
    fun sink k hk => ⟨?_, ?_, exec_readOrder_sink accepted sink hk⟩, fun source none => ?_, fun sink none => ?_,
    fun one two => ?_⟩
  · exact (congrArg _ (sourcePayload_eq s r)).trans (sourceRows_length s r)
  · exact sourcePayload_eq s r
  · exact (congrArg _ (sinkPayload_eq s k)).trans (sinkRows_length s k)
  · exact sinkPayload_eq s k
  · refine congrArg _ (request_onlyAnswered accepted ?_)
    rw [source]
    exact readOrder_unknown_source (s := shifted _ _ s) none
  · refine congrArg _ (request_onlyAnswered accepted ?_)
    rw [sink]
    exact readOrder_unknown_sink (s := shifted _ _ s) none
  · exact congrArg _ (request_onlyAnswered accepted (readOrder_range one two))

/-! ### The other reads -/

/-- The rows of a heard header (R191). -/
def heardRows (h : Option Heard) : List (Nat × Nat) :=
  match h with
  | none => [(10, 0)]
  | some h => [(1, h.station), (1, h.epoch), (1, if h.joined then 1 else 0), (2, h.round), (1, h.frag), (1, h.level),
      (1, h.source), (1, h.light), (1, h.count)]

theorem heardBytes_eq (h : Option Heard) : heardBytes h = laidOut (heardRows h) := by
  rcases h with _ | h
  · simp only [heardBytes, heardRows, laidOut_cons, laidOut_nil, List.append_nil, be_zero]
  · simp only [heardBytes, heardRows, laidOut_cons, laidOut_nil, List.append_nil, List.append_assoc, toNat_eq]

theorem heardRows_length (h : Option Heard) : (laidOut (heardRows h)).length = 10 := by
  rw [laidOut_length]
  rcases h with _ | h <;> rfl

theorem trackSide_eq (x : LaneRx) : (if 0 < x.trackCount then x.trackMinus.toNat else 0) =
    if 0 < x.trackCount ∧ x.trackMinus = true then 1 else 0 := by
  by_cases some : 0 < x.trackCount
  · rw [if_pos some, toNat_eq]
    exact if_congr (by simp [some]) rfl rfl
  · rw [if_neg some, if_neg fun h => some h.1]

theorem lanePayload_eq (s : State) (l : Fin 9) : lanePayload s l = laidOut (laneRows s l) := by
  have qualified : (if l = s.station.number then 0 else s.timing.lanes[l].qualified.toNat) =
      if l ≠ s.station.number ∧ s.timing.lanes[l].qualified = true then 1 else 0 := by
    by_cases own : l = s.station.number
    · rw [if_pos own, if_neg fun h => h.1 own]
    · rw [if_neg own, toNat_eq]
      exact if_congr (by simp [own]) rfl rfl
  unfold lanePayload laneRows
  rw [laidOut_append, laidOut_append]
  simp only [laidOut_cons, laidOut_nil, List.append_nil, List.append_assoc, ← bitsValue_eq, beOpt, signedOpt_eq]
  repeat refine be_append rfl ?_
  refine be_append (trackSide_eq _) ?_
  repeat refine be_append rfl ?_
  rw [heardBytes_eq]
  refine congrArg (laidOut (heardRows _) ++ ·) ?_
  repeat refine be_append rfl ?_
  refine be_append (toNat_eq _) (be_append rfl (be_append rfl (be_append rfl ?_)))
  rw [qualified]

theorem laneRows_length (s : State) (l : Fin 9) : (laidOut (laneRows s l)).length = 42 := by
  unfold laneRows
  rw [laidOut_append, laidOut_append, List.length_append, List.length_append]
  refine (congrArg (_ + · + _) (heardRows_length s.lanes[l].heard)).trans ?_
  simp only [laidOut_length, List.map_cons, List.map_nil, List.sum_cons, List.sum_nil]
  rfl

theorem portPayload_eq (s : State) (p : Fin 4) : portPayload s p = laidOut (portRows s p) := by
  unfold portPayload portRows
  simp only [laidOut_cons, laidOut_nil, List.append_nil, List.append_assoc, ← bitsValue_eq, beOpt, instantByte_eq, toNat_eq]
  repeat refine be_append rfl ?_
  rfl

theorem portRows_length (s : State) (p : Fin 4) : (laidOut (portRows s p)).length = 16 := by
  unfold portRows
  simp only [laidOut_length, List.map_cons, List.map_nil, List.sum_cons, List.sum_nil]
  rfl

theorem stationCode_eq (c : StationState) : c.code = if c = .joined then 1 else 0 := by cases c <;> rfl

theorem stationPayload_eq (s : State) : stationPayload s = laidOut (stationRows s) := by
  unfold stationPayload stationRows AttentionMask.code
  simp only [laidOut_cons, laidOut_nil, List.append_nil, List.append_assoc, ← bitsValue_eq, instantByte_eq, signedOpt_eq,
    toNat_eq, stationCode_eq]
  repeat refine be_append rfl ?_
  rfl

theorem stationRows_length (s : State) : (laidOut (stationRows s)).length = 31 := by
  unfold stationRows
  simp only [laidOut_length, List.map_cons, List.map_nil, List.sum_cons, List.sum_nil]
  rfl

theorem readLane_lane {lane : Nat} (h : lane = l.val) : readLane lane s = respond 9 .done (lanePayload s l)
    { s with report := { s.report with lanes := s.report.lanes.set l (s.report.lanes[l].read (laneReport s.lanes[l])) } } := by
  subst h
  exact dif_pos l.isLt

theorem readCarrier_port {port : Nat} (h : port = p.val) : readCarrier port s = respond 10 .done (portPayload s p)
    { s with report := { s.report with
      ports := s.report.ports.set p (s.report.ports[p].read (portReport s.carriers.ports[p])) } } := by
  subst h
  exact dif_pos p.isLt

theorem lanePayload_port (m : ManagementPort) (s : State) (l : Fin 9) : lanePayload { s with mport := m } l = lanePayload s l := rfl
theorem portPayload_port (m : ManagementPort) (s : State) (p : Fin 4) : portPayload { s with mport := m } p = portPayload s p := rfl
theorem stationPayload_port (m : ManagementPort) (s : State) : stationPayload { s with mport := m } = stationPayload s := rfl

/-! ### READ CHANGES -/

/-- The rows of the summary (R186). -/
def changesRows (r : ReportUnit) : List (Nat × Nat) :=
  [(1, min 16 (flaggedOrders r).length), (1, if 16 < (flaggedOrders r).length then 1 else 0),
    (2, bitRow (r.lanes.toList.map (·.flag))), (1, bitRow (r.ports.toList.map (·.flag))), (1, if r.station.flag then 1 else 0)]

theorem listed_eq (es : List (Nat × Nat)) : (es.flatMap fun e => be 1 e.1 ++ be 3 e.2) =
    laidOut (es.flatMap fun e => [(1, e.1), (3, e.2)]) := by
  induction es with
  | nil => rfl
  | cons e es ih => rw [List.flatMap_cons, List.flatMap_cons, laidOut_append, ih, laidOut_cons, laidOut_cons, laidOut_nil,
      List.append_nil]

theorem changesPayload_eq (r : ReportUnit) : changesPayload r =
    laidOut (changesRows r ++ ((flaggedOrders r).take 16).flatMap fun e => [(1, e.1), (3, e.2)]) := by
  unfold changesPayload changesRows
  rw [laidOut_append, ← listed_eq]
  simp only [laidOut_cons, laidOut_nil, List.append_nil, List.append_assoc, ← bitsValue_eq, List.length_take, toNat_eq,
    decide_eq_true_eq]

theorem listedRows_length (es : List (Nat × Nat)) : (laidOut (es.flatMap fun e => [(1, e.1), (3, e.2)])).length = 4 * es.length := by
  induction es with
  | nil => rfl
  | cons e es ih =>
    rw [List.flatMap_cons, laidOut_append, List.length_append, ih, List.length_cons, laidOut_length]
    simp only [List.map_cons, List.map_nil, List.sum_cons, List.sum_nil]
    omega

theorem changesPayload_length (r : ReportUnit) : (changesPayload r).length = 6 + 4 * min 16 (flaggedOrders r).length := by
  rw [changesPayload_eq, laidOut_append, List.length_append, listedRows_length, List.length_take, laidOut_length]
  rfl

theorem mem_flaggedOrders {r : ReportUnit} {d tag : Nat} : (d, tag) ∈ flaggedOrders r ↔
    (d = 1 ∧ ∃ it, (tag, it) ∈ r.sources ∧ it.flag = true) ∨ (d = 2 ∧ ∃ it, (tag, it) ∈ r.sinks ∧ it.flag = true) := by
  unfold flaggedOrders
  simp only [List.mem_insertionSort, List.mem_append, List.mem_map, List.mem_filter, Prod.mk.injEq, Prod.exists]
  constructor
  · rintro (⟨a, it, ⟨mem, flagged⟩, rfl, rfl⟩ | ⟨a, it, ⟨mem, flagged⟩, rfl, rfl⟩)
    · exact .inl ⟨rfl, it, mem, flagged⟩
    · exact .inr ⟨rfl, it, mem, flagged⟩
  · rintro (⟨rfl, it, mem, flagged⟩ | ⟨rfl, it, mem, flagged⟩)
    · exact .inl ⟨tag, it, ⟨mem, flagged⟩, rfl, rfl⟩
    · exact .inr ⟨tag, it, ⟨mem, flagged⟩, rfl, rfl⟩

/-- By tag, the source before the sink. -/
def ListedBefore (a b : Nat × Nat) : Prop := 2 * a.2 + a.1 ≤ 2 * b.2 + b.1

theorem flaggedOrders_ordered (r : ReportUnit) :
    (flaggedOrders r).Pairwise fun a b => a.2 < b.2 ∨ (a.2 = b.2 ∧ a.1 ≤ b.1) := by
  have total : Std.Total ListedBefore := ⟨fun a b => Nat.le_total _ _⟩
  have trans : IsTrans (Nat × Nat) ListedBefore := ⟨fun a b c => Nat.le_trans⟩
  have sorted : (flaggedOrders r).Pairwise ListedBefore :=
    @List.pairwise_insertionSort _ ListedBefore (fun _ _ => Nat.decLe _ _) total trans _
  have direction : ∀ e ∈ flaggedOrders r, e.1 = 1 ∨ e.1 = 2 := fun e he =>
    (mem_flaggedOrders.mp he).imp (fun h => h.1) fun h => h.1
  refine sorted.imp_of_mem fun {a b} ha hb (before : _ ≤ _) => ?_
  have := direction a ha
  have := direction b hb
  omega

/-- Settles O19. -/
theorem readsReportTheItems : Obligations.ReadsReportTheItems := by
  refine ⟨fun x s l accepted lane => ⟨?_, lanePayload_eq s l, ?_⟩, fun x s accepted beyond => ?_,
    fun x s p accepted port => ⟨?_, portPayload_eq s p, ?_⟩, fun x s accepted beyond => ?_,
    fun x s accepted => ⟨?_, stationPayload_eq s, ?_⟩, fun x s accepted => ⟨changesPayload_length _, ?_⟩,
    fun r => ⟨changesPayload_eq r, flaggedOrders_ordered r, fun d tag => mem_flaggedOrders⟩⟩
  · rw [lanePayload_eq, laneRows_length]
  · refine congrArg _ (request_answered (code := 9) accepted
      { s.report with lanes := s.report.lanes.set l (s.report.lanes[l].read (laneReport s.lanes[l])) } ?_)
    refine (readLane_lane (s := shifted none (transferSize x) s) lane).trans ?_
    rw [show shifted none (transferSize x) s = { s with mport := (shifted none (transferSize x) s).mport } from rfl,
      lanePayload_port]
    rfl
  · exact congrArg _ (request_onlyAnswered accepted (dif_neg (by omega)))
  · rw [portPayload_eq, portRows_length]
  · refine congrArg _ (request_answered (code := 10) accepted
      { s.report with ports := s.report.ports.set p (s.report.ports[p].read (portReport s.carriers.ports[p])) } ?_)
    refine (readCarrier_port (s := shifted none (transferSize x) s) port).trans ?_
    rw [show shifted none (transferSize x) s = { s with mport := (shifted none (transferSize x) s).mport } from rfl,
      portPayload_port]
    rfl
  · exact congrArg _ (request_onlyAnswered accepted (dif_neg (by omega)))
  · rw [stationPayload_eq, stationRows_length]
  · refine congrArg _ (request_answered (code := 11) accepted
      { s.report with station := s.report.station.read (stationReport s) } ?_)
    unfold readStation
    rw [show shifted none (transferSize x) s = { s with mport := (shifted none (transferSize x) s).mport } from rfl,
      stationPayload_port]
    rfl
  · exact congrArg _ (request_answered (code := 8) (payload := changesPayload s.report) accepted s.report rfl)

end Sys2Proof.Reads
end

section
/-! PROOFS. The checks of an admission (R9) in their order (O20). -/

namespace Sys2Proof.Admission

open Sys2Proof.Machine Sys2Proof.Safety Sys2Proof.Stores Sys2Proof.Requests Sys2Proof.Tiles

variable {s : State} {x : Transfer} {d : Direction} {tag cls kind port first : Nat} {b : Binding} {enums : Prop}
  {st : OrderStore} {res : Option Status}

/-- A list of checks in order gives a result: the status of the first that fails, or none. -/
def Judges : List (Prop × Status) → Option Status → Prop
  | [], res => res = none
  | c :: cs, res => (c.1 → res = some c.2) ∧ (¬ c.1 → Judges cs res)

theorem Judges.status : ∀ {cs : List (Prop × Status)}, Judges cs res → ∀ {i : Nat} {p : Prop} {u : Status},
    cs[i]? = some (p, u) → p → (∀ (j : Nat) (q : Prop) (v : Status), j < i → cs[j]? = some (q, v) → ¬ q) → res = some u
  | [], _, _, _, _, here, _, _ => nomatch here
  | c :: _, judged, 0, p, u, here, fails, _ => by
    obtain rfl : c = (p, u) := Option.some.inj here
    exact judged.1 fails
  | c :: _, judged, i + 1, p, u, here, fails, before =>
    (judged.2 (before 0 c.1 c.2 i.succ_pos rfl)).status here fails fun j q v less => before (j + 1) q v (Nat.succ_lt_succ less)

theorem Judges.passed : ∀ {checks : List (Prop × Status)}, Judges checks res → (∀ c ∈ checks, ¬ c.1) → res = none
  | [], judged, _ => judged
  | c :: _, judged, pass => (judged.2 (pass c List.mem_cons_self)).passed fun e he => pass e (List.mem_cons_of_mem c he)

/-! ### The binding (check 2) -/

theorem bindingOf_cases (h : bindingOf kind port first = some b) :
    (kind = 1 ∧ ∃ p : Fin 32, port = p.val ∧ b = .client p) ∨
      (kind = 2 ∧ first ≤ 39 ∧ ∃ p : Fin 4, port = p.val ∧ b = .carrier p first) := by
  unfold bindingOf at h
  split at h
  · rename_i client
    split at h
    · rename_i inside
      exact .inl ⟨client, ⟨port, inside⟩, rfl, (Option.some.inj h).symm⟩
    · exact nomatch h
  · split at h
    · rename_i carrier
      split at h
      · rename_i inside
        split at h
        · rename_i placed
          exact .inr ⟨carrier, placed, ⟨port, inside⟩, rfl, (Option.some.inj h).symm⟩
        · exact nomatch h
      · exact nomatch h
    · exact nomatch h

theorem bindingOf_none (h : bindingOf kind port first = none) :
    (kind ≠ 1 ∧ kind ≠ 2) ∨ (kind = 1 ∧ 31 < port) ∨ (kind = 2 ∧ (3 < port ∨ 39 < first)) := by
  unfold bindingOf at h
  split at h
  · rename_i client
    split at h
    · exact nomatch h
    · exact .inr (.inl ⟨client, by omega⟩)
  · rename_i other
    split at h
    · rename_i carrier
      split at h
      · split at h
        · exact nomatch h
        · exact .inr (.inr ⟨carrier, .inr (by omega)⟩)
      · exact .inr (.inr ⟨carrier, .inl (by omega)⟩)
    · rename_i neither
      exact .inl ⟨other, neither⟩

/-! ### The result of the checks -/

theorem classOk_iff {c : Nat} : classOk c = true ↔ ¬ (c ≠ 1 ∧ c ≠ 2 ∧ c ≠ 5 ∧ c ≠ 10) := by
  simp only [classOk, Bool.or_eq_true, decide_eq_true_iff]
  omega

/-- A request whose binding or an enumeration is undefined is out of range, whatever its tag. -/
theorem judges_range (undefined : bindingOf kind port first = none ∨ ¬ enums) :
    Judges (admissionChecks d tag cls kind port first enums st) (some .range) := by
  refine ⟨fun _ => rfl, fun _ => ⟨fun _ => rfl, fun passed => absurd ?_ passed⟩⟩
  rcases undefined with none | bad
  · rcases bindingOf_none none with h | h | h
    · exact .inr (.inl h)
    · exact .inr (.inr (.inl h))
    · exact .inr (.inr (.inr (.inl h)))
  · exact .inr (.inr (.inr (.inr bad)))

theorem refusal_cases (d : Direction) (tag cls : Nat) (b : Binding) (st : OrderStore) :
    (¬ (tagOk tag = true ∧ classOk cls = true) → refusal d tag cls b st = some .range) ∧
    (tagOk tag = true → classOk cls = true →
      (b.alignedTo cls = false → refusal d tag cls b st = some .tileConflict) ∧
      (b.alignedTo cls = true → (holdsTag d tag st = true → refusal d tag cls b st = some .tagExists) ∧
        (holdsTag d tag st = false → (64 ≤ recordCount d st → refusal d tag cls b st = some .tableFull) ∧
          (¬ 64 ≤ recordCount d st → refusal d tag cls b st = (positionCheck d b cls st).or (adapterCheck d b cls st))))) := by
  unfold refusal
  refine ⟨fun bad => if_pos ?_, fun tagged classed => ⟨fun h => ?_, fun aligned => ⟨fun h => ?_, fun fresh => ⟨fun h => ?_, fun h => ?_⟩⟩⟩⟩
  · rw [Bool.or_eq_true, Bool.not_eq_true', Bool.not_eq_true', ← Bool.not_eq_true, ← Bool.not_eq_true]
    exact not_and_or.mp bad
  · simp [tagged, classed, h]
  · simp [tagged, classed, aligned, h]
  · simp [tagged, classed, aligned, fresh, Config.tableSize, h]
  · simp [tagged, classed, aligned, fresh, Config.tableSize, h]

theorem holdsTag_iff : holdsTag d tag st = true ↔
    tag ∈ (match d with | .source => st.sources.map Source.tag | .sink => st.sinks.map Sink.tag) := by
  cases d <;> simp [holdsTag]

theorem recordCount_eq : recordCount d st =
    (match d with | .source => st.sources.map Source.tag | .sink => st.sinks.map Sink.tag).length := by
  cases d <;> simp [recordCount]

/-- Whether an order of this direction and kind of binding needs an adapter (R11). -/
def NeedsAdapter (d : Direction) (kind : Nat) : Prop := d = .source ∨ kind = 1

theorem adapterCheck_judges (needs : NeedsAdapter d kind ↔ adapterKind d b ≠ none) :
    Judges [(NeedsAdapter d kind ∧ ∀ n : Fin 96, st.pool[n] ≠ none, .noAdapter),
      (NeedsAdapter d kind ∧ st.freeStore < 4096 * cls, .noStore)] (adapterCheck d b cls st) := by
  have full : (lowestFree st.pool).isNone = true ↔ ∀ n : Fin 96, st.pool[n] ≠ none := by
    rw [Option.isNone_iff_eq_none, lowestFree, List.find?_eq_none]
    simp
  unfold adapterCheck
  split
  · rename_i none
    have free : ¬ NeedsAdapter d kind := fun h => needs.mp h none
    exact ⟨fun h => absurd h.1 free, fun _ => ⟨fun h => absurd h.1 free, fun _ => rfl⟩⟩
  · rename_i kd some
    have needed : NeedsAdapter d kind := needs.mpr (by rw [some]; exact nofun)
    refine ⟨fun h => if_pos (full.mpr h.2), fun found => ?_⟩
    rw [if_neg fun h => found ⟨needed, full.mp h⟩]
    exact ⟨fun h => if_pos h.2, fun room => if_neg fun h => room ⟨needed, h⟩⟩

/-- The map of client ports of a direction. -/
def clientsOf (d : Direction) (st : OrderStore) : Vector (Option Nat) 32 :=
  match d with
  | .source => st.clientIn
  | .sink => st.clientEgr

/-- The maps of the carrier ports of a direction. -/
def carriersOf (d : Direction) (st : OrderStore) : Vector (Vector (Option Nat) 40) 4 :=
  match d with
  | .source => st.carrierIn
  | .sink => st.carrierEgr

theorem positionCheck_client (p : Fin 32) : positionCheck d (.client p) cls st =
    if (clientsOf d st)[p].isSome then some .portBusy else none := rfl

theorem positionCheck_carrier (p : Fin 4) : positionCheck d (.carrier p first) cls st =
    if rangeBound (carriersOf d st)[p] first cls then some .tileConflict else none := rfl

/-- Checks 6 to 9 of R9. -/
theorem positions_judges (hb : bindingOf kind port first = some b) : Judges [
    (kind = 1 ∧ ∃ o, (clientsOf d st)[port]? = some (some o), .portBusy),
    (kind = 2 ∧ ∃ m, (carriersOf d st)[port]? = some m ∧
      ∃ j < cls, ∃ o, m[first + j]? = some (some o), .tileConflict),
    (NeedsAdapter d kind ∧ ∀ n : Fin 96, st.pool[n] ≠ none, .noAdapter),
    (NeedsAdapter d kind ∧ st.freeStore < 4096 * cls, .noStore)] ((positionCheck d b cls st).or (adapterCheck d b cls st)) := by
  rcases bindingOf_cases hb with ⟨rfl, p, rfl, rfl⟩ | ⟨rfl, -, p, rfl, rfl⟩
  · have adapters := adapterCheck_judges (d := d) (kind := 1) (b := .client p) (cls := cls) (st := st)
      ⟨fun _ => nofun, fun _ => .inr rfl⟩
    have busy : (∃ o, (clientsOf d st)[p.val]? = some (some o)) ↔
        (clientsOf d st)[p].isSome = true := by
      rw [Option.isSome_iff_exists, Vector.getElem?_eq_getElem p.isLt]
      simp
    rw [positionCheck_client]
    refine ⟨fun h => ?_, fun free => ⟨fun h => absurd h.1 (by decide), fun _ => ?_⟩⟩
    · rw [if_pos (busy.mp h.2)]
      rfl
    · rw [if_neg fun h => free ⟨rfl, busy.mpr h⟩]
      exact adapters
  · have adapters := adapterCheck_judges (d := d) (kind := 2) (b := .carrier p first) (cls := cls) (st := st) (by
      cases d <;> simp [NeedsAdapter, adapterKind])
    have bound : (∃ m, (carriersOf d st)[p.val]? = some m ∧
        ∃ j < cls, ∃ o, m[first + j]? = some (some o)) ↔
        rangeBound (carriersOf d st)[p] first cls = true := by
      rw [rangeBound_iff, Vector.getElem?_eq_getElem p.isLt]
      simp
    rw [positionCheck_carrier]
    refine ⟨fun h => absurd h.1 (by decide), fun _ => ⟨fun h => ?_, fun free => ?_⟩⟩
    · rw [if_pos (bound.mp h.2)]
      rfl
    · rw [if_neg fun h => free ⟨rfl, bound.mpr h⟩]
      exact adapters

theorem alignedTo_iff (hb : bindingOf kind port first = some b) : b.alignedTo cls = true ↔ ¬ (kind = 2 ∧ first % cls ≠ 0) := by
  rcases bindingOf_cases hb with ⟨rfl, p, -, rfl⟩ | ⟨rfl, -, p, -, rfl⟩ <;> simp [Binding.alignedTo]

/-- With binding and enumerations defined, the checks give the refusal. -/
theorem judges_refusal (hb : bindingOf kind port first = some b) (he : enums) :
    Judges (admissionChecks d tag cls kind port first enums st) (refusal d tag cls b st) := by
  obtain ⟨out, inside⟩ := refusal_cases d tag cls b st
  have tags : tagOk tag = true ↔ ¬ (tag = 0 ∨ 1048575 < tag) := by rw [tagOk_iff]; omega
  refine ⟨fun h => out fun ok => tags.mp ok.1 h, fun tagged => ⟨fun h => out fun ok => ?_, fun classed => ?_⟩⟩
  · rcases bindingOf_cases hb with ⟨rfl, p, rfl, -⟩ | ⟨rfl, low, p, rfl, -⟩
    · have := p.isLt
      rcases h with h | h | h | h | h
      · exact classOk_iff.mp ok.2 h
      · omega
      · omega
      · omega
      · exact h he
    · have := p.isLt
      rcases h with h | h | h | h | h
      · exact classOk_iff.mp ok.2 h
      · omega
      · omega
      · omega
      · exact h he
  · obtain ⟨conflict, aligned⟩ := inside (tags.mpr tagged) (classOk_iff.mpr fun h => classed (.inl h))
    refine ⟨fun h => conflict (Bool.eq_false_iff.mpr fun ok => (alignedTo_iff hb).mp ok h), fun placed => ?_⟩
    obtain ⟨held, fresh⟩ := aligned ((alignedTo_iff hb).mpr placed)
    refine ⟨fun h => held (holdsTag_iff.mpr h), fun new => ?_⟩
    obtain ⟨full, room⟩ := fresh (Bool.eq_false_iff.mpr fun h => new (holdsTag_iff.mp h))
    refine ⟨fun h => full (recordCount_eq ▸ h), fun some => ?_⟩
    rw [room fun h => some (recordCount_eq ▸ h)]
    exact positions_judges hb

/-! ### The commands -/

theorem placeSource_judges (r : SourceRequest) (s : State) : ∃ res,
    Judges (admissionChecks .source r.tag r.cls r.kind r.port r.first
      ((r.action = 1 ∨ r.action = 2 ∨ r.action = 3) ∧ (r.standing = 1 ∨ r.standing = 2)) s.store) res ∧
    (∀ st, res = some st → placeSource r s = (st, s)) ∧
    (res = none → ∃ b action standing, placeSource r s = (.done, admitSource r b action standing s)) := by
  have actions : actionOfCode r.action = none ↔ ¬ (r.action = 1 ∨ r.action = 2 ∨ r.action = 3) := by
    unfold actionOfCode
    split <;> simp_all
  have standings : standingOfCode r.standing = none ↔ ¬ (r.standing = 1 ∨ r.standing = 2) := by
    unfold standingOfCode
    split <;> simp_all
  unfold placeSource
  rcases binding : bindingOf r.kind r.port r.first with _ | b
  · exact ⟨_, judges_range (.inl binding), fun st h => by cases h; rfl, nofun⟩
  rcases action : actionOfCode r.action with _ | act
  · exact ⟨_, judges_range (.inr fun h => actions.mp action h.1), fun st h => by cases h; rfl, nofun⟩
  rcases standing : standingOfCode r.standing with _ | stand
  · exact ⟨_, judges_range (.inr fun h => standings.mp standing h.2), fun st h => by cases h; rfl, nofun⟩
  have defined : (r.action = 1 ∨ r.action = 2 ∨ r.action = 3) ∧ (r.standing = 1 ∨ r.standing = 2) :=
    ⟨by_contra fun h => (nomatch action.symm.trans (actions.mpr h)), by_contra fun h => (nomatch standing.symm.trans (standings.mpr h))⟩
  refine ⟨_, judges_refusal binding defined, fun st h => ?_, fun h => ⟨b, act, stand, ?_⟩⟩
  · dsimp only
    rw [h]
  · dsimp only
    rw [h]

theorem placeSink_judges (r : SinkRequest) (s : State) : ∃ res,
    Judges (admissionChecks .sink r.tag r.cls r.kind r.port r.first True s.store) res ∧
    (∀ st, res = some st → placeSink r s = (st, s)) ∧ (res = none → ∃ b, placeSink r s = (.done, admitSink r b s)) := by
  unfold placeSink
  rcases binding : bindingOf r.kind r.port r.first with _ | b
  · exact ⟨_, judges_range (.inl binding), fun st h => by cases h; rfl, nofun⟩
  refine ⟨_, judges_refusal binding trivial, fun st h => ?_, fun h => ⟨b, ?_⟩⟩
  · dsimp only
    rw [h]
  · dsimp only
    rw [h]

theorem respond_mport {u : State} (h : u.mport = s.mport) (code : Nat) (st : Status) (payload : List Byte) :
    (respond code st payload u).mport = (respond code st payload s).mport := by
  unfold respond
  rw [h]

theorem evalSource_mport (tag : Nat) (s : State) : (evalSource tag s).mport = s.mport := by rw [evalSource_onlyStore]

theorem admitSource_mport (r : SourceRequest) (b : Binding) (action : FailedAction) (standing : Standing) (s : State) :
    (admitSource r b action standing s).mport = s.mport := by
  unfold admitSource createSourceItem
  dsimp only
  split
  · exact evalSource_mport _ _
  · exact evalSource_mport _ _

theorem admitSink_mport (r : SinkRequest) (b : Binding) (s : State) : (admitSink r b s).mport = s.mport := by
  unfold admitSink createSinkItem
  dsimp only
  split <;> rfl

/-- Settles O20: the two commands walk the same list of checks. -/
theorem admissionChecksComeInOrder : Obligations.AdmissionChecksComeInOrder := by
  constructor
  · rintro x s r cs accepted rfl rfl
    obtain ⟨res, judged, refused, admitted⟩ := placeSource_judges (sourceRequest x.params) (shifted none (transferSize x) s)
    refine ⟨fun i p st here fails before => congrArg _ (request_onlyAnswered (code := 1) accepted ?_), fun pass => ?_⟩
    · unfold answer
      rw [refused st (judged.status here fails before)]
      rfl
    · obtain ⟨b, action, standing, done⟩ := admitted (judged.passed pass)
      refine ⟨_, congrArg Host.Outcome.next (request_of_accepted accepted _), ?_⟩
      rw [finish_mport]
      unfold answer
      rw [done, ← responseBytes_plain, ← respond_shifted_mport accepted.runs]
      exact respond_mport (admitSource_mport ..) ..
  · rintro x s r cs accepted rfl rfl
    obtain ⟨res, judged, refused, admitted⟩ := placeSink_judges (sinkRequest x.params) (shifted none (transferSize x) s)
    refine ⟨fun i p st here fails before => congrArg _ (request_onlyAnswered (code := 2) accepted ?_), fun pass => ?_⟩
    · unfold answer
      rw [refused st (judged.status here fails before)]
      rfl
    · obtain ⟨b, done⟩ := admitted (judged.passed pass)
      refine ⟨_, congrArg Host.Outcome.next (request_of_accepted accepted _), ?_⟩
      rw [finish_mport]
      unfold answer
      rw [done, ← responseBytes_plain, ← respond_shifted_mport accepted.runs]
      exact respond_mport (admitSink_mport ..) ..

end Sys2Proof.Admission
end

section
/-! PROOFS. What an admitted order becomes (R10 to R13, R101, R102): O21 and O22. -/

namespace Sys2Proof.Admitted

open Sys2Proof.Machine Sys2Proof.Safety Sys2Proof.Stores Sys2Proof.Requests Sys2Proof.Reports Sys2Proof.Admission

variable {s t : State} {x : Transfer} {tag : Nat} {b : Binding}

/-! ### Items of orders that the command does not touch -/

theorem noteSource_none {e : Nat × Item SourceReport} (none : visibleSource s.store e.1 = none ∨ visibleSource t.store e.1 = none) :
    noteSource s t e = e := by
  unfold noteSource
  rcases none with none | none
  · rw [none]
  · rw [none]
    cases visibleSource s.store e.1 <;> rfl

theorem noteSource_alike {e : Nat × Item SourceReport} (same : visibleSource t.store e.1 = visibleSource s.store e.1) :
    noteSource s t e = e := by
  unfold noteSource
  rw [same]
  cases visibleSource s.store e.1 with
  | none => rfl
  | some r => simp

theorem noteSink_none {e : Nat × Item SinkReport} (none : findSink s.store e.1 = none ∨ findSink t.store e.1 = none) :
    noteSink s t e = e := by
  unfold noteSink
  rcases none with none | none
  · rw [none]
  · rw [none]
    cases findSink s.store e.1 <;> rfl

theorem noteSink_alike {e : Nat × Item SinkReport} (same : findSink t.store e.1 = findSink s.store e.1) : noteSink s t e = e := by
  unfold noteSink
  rw [same]
  cases findSink s.store e.1 with
  | none => rfl
  | some k => simp [note_same]

/-- A command that leaves every item's fields flags nothing; ATTN follows. -/
theorem finish_settled (running : t.station.state ≠ .cold) (sources : ∀ e ∈ t.report.sources, noteSource s t e = e)
    (sinks : ∀ e ∈ t.report.sinks, noteSink s t e = e) (lanes : t.lanes = s.lanes)
    (ports : t.carriers.ports = s.carriers.ports) (station : stationReport t = stationReport s) :
    finish s t = { t with report := attended t.station.state t.report } := by
  have same : noteChanges s t = t.report :=
    calc noteChanges s t = { t.report with
          sources := (noteChanges s t).sources, sinks := (noteChanges s t).sinks, lanes := (noteChanges s t).lanes
          ports := (noteChanges s t).ports, station := (noteChanges s t).station } := rfl
      _ = t.report := by
        rw [noteChanges_lanes lanes, noteChanges_ports ports, noteChanges_station station,
          show (noteChanges s t).sources = t.report.sources from (List.map_congr_left sources).trans (List.map_id _),
          show (noteChanges s t).sinks = t.report.sinks from (List.map_congr_left sinks).trans (List.map_id _)]
  rw [finish_running running, same]

/-! ### A new record at the end of its table -/

variable {old : List Source} {q : Source}

theorem find_appended {α : Type} {p : α → Bool} {l : List α} {y : α} (absent : ∀ e ∈ l, p e = false) (here : p y = true) :
    (l ++ [y]).find? p = some y := by
  rw [List.find?_append, List.find?_eq_none.mpr fun e he => Bool.eq_false_iff.mp (absent e he)]
  simp [here]

theorem find_before {α : Type} {p : α → Bool} {l : List α} {y : α} (elsewhere : p y = false) :
    (l ++ [y]).find? p = l.find? p := by
  rw [List.find?_append]
  simp [elsewhere]

theorem map_appended {α : Type} {f : α → Nat} {g : α → α} {l : List α} {y : α} (absent : ∀ e ∈ l, f e ≠ tag)
    (here : f y = tag) : (l ++ [y]).map (fun e => if f e = tag then g e else e) = l ++ [g y] := by
  rw [List.map_append]
  congr 1
  · exact (List.map_congr_left fun e he => if_neg (absent e he)).trans (List.map_id _)
  · simp [here]

theorem visibleSource_appended {st : OrderStore} (absent : ∀ e ∈ old, e.tag ≠ tag) (table : st.sources = old ++ [q])
    (here : q.tag = tag) (visible : q.removed = false) : visibleSource st tag = some q := by
  unfold visibleSource
  rw [table]
  exact find_appended (fun e he => by simp [absent e he]) (by simp [here, visible])

theorem visibleSource_before {st st' : OrderStore} {other : Nat} (table : st'.sources = st.sources ++ [q])
    (ne : q.tag ≠ other) : visibleSource st' other = visibleSource st other := by
  unfold visibleSource
  rw [table]
  exact find_before (by simp [ne])

theorem priorityOf_appended {st : OrderStore} (absent : ∀ e ∈ old, e.tag ≠ tag) (table : st.sources = old ++ [q])
    (here : q.tag = tag) : priorityOf st tag = q.priority := by
  unfold priorityOf
  rw [table, find_appended (fun e he => by simp [absent e he]) (by simp [here])]

theorem priorityOf_before {st st' : OrderStore} {other : Nat} (table : st'.sources = st.sources ++ [q]) (ne : q.tag ≠ other) :
    priorityOf st' other = priorityOf st other := by
  unfold priorityOf
  rw [table, find_before (by simp [ne])]

theorem updateSource_appended {f : Source → Source} (absent : ∀ e ∈ old, e.tag ≠ tag) (table : s.store.sources = old ++ [q])
    (here : q.tag = tag) : updateSource tag f s = { s with store := { s.store with sources := old ++ [f q] } } := by
  unfold updateSource
  rw [table, map_appended (f := Source.tag) absent here]

/-- A new source enters the queue behind every entry of its priority or a higher one (R67). -/
theorem enqueue_new (st : OrderStore) (absent : ∀ e ∈ st.sources, e.tag ≠ q.tag) (table : s.store.sources = st.sources ++ [q])
    (queue : s.store.queue = st.queue) (counter : s.store.queueCounter = st.queueCounter) (few : st.queueCounter < 4294967295)
    (queued : ∀ e ∈ st.queue, ∃ r ∈ st.sources, r.tag = e) : enqueue q.tag s = { s with store := { s.store with
      sources := st.sources ++ [{ q with state := .queued, entryNo := some st.queueCounter }]
      queue := st.queue.filter (fun e => q.priority ≤ priorityOf st e) ++
        q.tag :: st.queue.filter (fun e => priorityOf st e < q.priority)
      queueCounter := st.queueCounter + 1 } } := by
  have other : ∀ e ∈ st.queue, q.tag ≠ e := fun e he same => by
    obtain ⟨r, mem, rfl⟩ := queued e he
    exact absent r mem same.symm
  have behind : ∀ st' : OrderStore, st'.sources = st.sources ++ [{ q with state := .queued, entryNo := some st.queueCounter }] →
      st'.queue = st.queue → queueInsert st' q.tag = st.queue.filter (fun e => q.priority ≤ priorityOf st e) ++
        q.tag :: st.queue.filter (fun e => priorityOf st e < q.priority) := by
    intro st' sources' queue'
    have same : ∀ e ∈ st.queue, priorityOf st' e = priorityOf st e := fun e he => priorityOf_before sources' (other e he)
    have first := List.filter_congr (p := fun e => decide (q.priority ≤ priorityOf st' e))
      (q := fun e => decide (q.priority ≤ priorityOf st e)) fun e he => by rw [same e he]
    have later := List.filter_congr (p := fun e => decide (priorityOf st' e < q.priority))
      (q := fun e => decide (priorityOf st e < q.priority)) fun e he => by rw [same e he]
    unfold queueInsert
    rw [priorityOf_appended absent sources' rfl, queue']
    exact congrArg₂ (fun a b => a ++ q.tag :: b) first later
  unfold enqueue
  dsimp only
  rw [counter, if_neg (by omega), updateSource_appended absent table rfl]
  dsimp only
  rw [behind { s.store with sources := _ } rfl queue]

/-- The record of a new source once it is evaluated (R65, R120). -/
def evaluatedNew (wanted : Bool) (counter : Nat) (s : State) (q : Source) : Source :=
  { q with mismatch := otherWantStands s.view q.tag q.cls
           state := if wanted then .queued else .dormant
           entryNo := if wanted then some counter else none }

/-- The evaluation at an admission: the new source is QUEUED behind its equals when a WANT stands, else it stays DORMANT. -/
theorem evalSource_new (st : OrderStore) (here : q.tag = tag) (absent : ∀ e ∈ st.sources, e.tag ≠ tag)
    (table : s.store = { s.store with sources := st.sources ++ [q], queue := st.queue, queueCounter := st.queueCounter })
    (visible : q.removed = false) (dormant : q.state = .dormant) (unlatched : q.latch = false) (unnumbered : q.entryNo = none)
    (few : st.queueCounter < 4294967295) (queued : ∀ e ∈ st.queue, ∃ r ∈ st.sources, r.tag = e) :
    evalSource tag s = { s with store := { s.store with
      sources := st.sources ++ [evaluatedNew (wantStands s.view q.tag q.cls) st.queueCounter s q]
      queue := if wantStands s.view q.tag q.cls then st.queue.filter (fun e => q.priority ≤ priorityOf st e) ++
          q.tag :: st.queue.filter (fun e => priorityOf st e < q.priority) else st.queue
      queueCounter := if wantStands s.view q.tag q.cls then st.queueCounter + 1 else st.queueCounter } } := by
  subst here
  have sources : s.store.sources = st.sources ++ [q] := by rw [table]
  have queue : s.store.queue = st.queue := by rw [table]
  have counter : s.store.queueCounter = st.queueCounter := by rw [table]
  have wanted : isWanted s.view q = wantStands s.view q.tag q.cls := by simp [isWanted, unlatched]
  have judged := updateSource_appended (s := s) (f := fun r => { r with mismatch := otherWantStands s.view r.tag r.cls })
    absent sources rfl
  unfold evalSource
  rw [visibleSource_appended absent sources rfl visible, judged]
  dsimp only
  rw [dormant, wanted]
  rcases stands : wantStands s.view q.tag q.cls with _ | _
  · have kept : evaluatedNew false st.queueCounter s q = { q with mismatch := otherWantStands s.view q.tag q.cls } := by
      unfold evaluatedNew
      rw [if_neg Bool.false_ne_true, if_neg Bool.false_ne_true, ← dormant, ← unnumbered]
    rw [kept]
    simp only [dormant, Bool.false_eq_true, if_false, ← queue, ← counter]
  · exact enqueue_new (q := { q with mismatch := otherWantStands s.view q.tag q.cls, state := .dormant }) st absent rfl queue counter few queued

/-! ### The checks passed -/

theorem refusal_none_of_checks {d : Direction} {cls kind port first : Nat} {st : OrderStore}
    (hb : bindingOf kind port first = some b) (pass : ∀ c ∈ admissionChecks d tag cls kind port first True st, ¬ c.1) :
    refusal d tag cls b st = none :=
  (judges_refusal hb trivial).passed pass

theorem absent_source {st : OrderStore} (fresh : holdsTag .source tag st = false) : ∀ e ∈ st.sources, e.tag ≠ tag := by
  simpa [holdsTag] using fresh

theorem absent_sink {st : OrderStore} (fresh : holdsTag .sink tag st = false) : ∀ k ∈ st.sinks, k.tag ≠ tag := by
  simpa [holdsTag] using fresh

/-! ### A source order admitted -/

theorem allocate_source {tag cls rnom k : Nat} {st : OrderStore} (ok : Admissible .source tag cls b st) : ∃ n : Fin 96,
    st.pool[n] = none ∧ (∀ m : Fin 96, m < n → st.pool[m] ≠ none) ∧ allocate (adapterKind .source b) tag cls rnom k st =
      ({ st with pool := st.pool.set n (some (newAdapter (sourceKind b) tag cls rnom k)), freeStore := st.freeStore - 4096 * cls },
        some n) := by
  have kind : adapterKind .source b = some (sourceKind b) := by cases b <;> rfl
  rcases allocate_of_admissible ok rnom k with ⟨none, -⟩ | ⟨kd, n, some, free, lowest, -, made⟩
  · exact nomatch kind.symm.trans none
  · obtain rfl : sourceKind b = kd := Option.some.inj (kind.symm.trans some)
    exact ⟨n, free, lowest, made⟩

/-- The order store with a source admitted and evaluated (R10 to R12). -/
def storeWith (q : Source) (n : Fin 96) (a : Adapter) (wanted : Bool) (st : OrderStore) : OrderStore :=
  { st with
    sources := st.sources ++ [q]
    pool := st.pool.set n (some a)
    freeStore := st.freeStore - 4096 * q.cls
    queue := if wanted then st.queue.filter (fun e => q.priority ≤ priorityOf st e) ++
        q.tag :: st.queue.filter (fun e => priorityOf st e < q.priority) else st.queue
    queueCounter := if wanted then st.queueCounter + 1 else st.queueCounter
    clientIn := (match q.binding with | .client p => st.clientIn.set p (some q.tag) | .carrier _ _ => st.clientIn)
    carrierIn := (match q.binding with
      | .client _ => st.carrierIn
      | .carrier p first => st.carrierIn.set p (setRange st.carrierIn[p] first q.cls (some q.tag))) }

theorem bindPositions_source (st : OrderStore) (cls : Nat) (v : Option Nat) : bindPositions .source b cls v st = { st with
    clientIn := (match b with | .client p => st.clientIn.set p v | .carrier _ _ => st.clientIn)
    carrierIn := (match b with
      | .client _ => st.carrierIn
      | .carrier p first => st.carrierIn.set p (setRange st.carrierIn[p] first cls v)) } := by
  cases b <;> rfl

theorem bindPositions_sink (st : OrderStore) (cls : Nat) (v : Option Nat) : bindPositions .sink b cls v st = { st with
    clientEgr := (match b with | .client p => st.clientEgr.set p v | .carrier _ _ => st.clientEgr)
    carrierEgr := (match b with
      | .client _ => st.carrierEgr
      | .carrier p first => st.carrierEgr.set p (setRange st.carrierEgr[p] first cls v)) } := by
  cases b <;> rfl

variable {r : SourceRequest} {action : FailedAction} {standing : Standing} {n : Fin 96}

/-- The admitted source (R5, R10, R12). -/
def admitted (r : SourceRequest) (b : Binding) (action : FailedAction) (standing : Standing) (n : Fin 96) (s : State) : Source :=
  evaluatedNew (wantStands s.view r.tag r.cls) s.store.queueCounter s (newSource r b action standing (some n))

/-- The Report Unit with the item of an admitted source (R12). -/
def withItem (q : Source) (s : State) : ReportUnit := { s.report with
  sources := addItem q.tag { snap := sourceReport s.carriers.ports q, flag := false } s.report.sources }

theorem admitSource_eq (ok : Admissible .source r.tag r.cls b s.store)
    (queued : ∀ e ∈ s.store.queue, ∃ q ∈ s.store.sources, q.tag = e) (few : s.store.queueCounter < 4294967295)
    (made : allocate (adapterKind .source b) r.tag r.cls (clampRnom r.cls r.rnom) (clampK r.k) s.store =
      ({ s.store with pool := s.store.pool.set n (some (newAdapter (sourceKind b) r.tag r.cls (clampRnom r.cls r.rnom) (clampK r.k)))
                      freeStore := s.store.freeStore - 4096 * r.cls }, some n)) :
    admitSource r b action standing s = { s with
      store := storeWith (admitted r b action standing n s) n
        (newAdapter (sourceKind b) r.tag r.cls (clampRnom r.cls r.rnom) (clampK r.k)) (wantStands s.view r.tag r.cls) s.store
      report := withItem (admitted r b action standing n s) s } := by
  have absent : ∀ e ∈ s.store.sources, e.tag ≠ r.tag := absent_source ok.fresh
  unfold admitSource
  rw [made]
  dsimp only
  rw [bindPositions_source]
  dsimp only
  refine (congrArg (createSourceItem r.tag) (evalSource_new (q := newSource r b action standing (some n)) s.store rfl absent
    rfl rfl rfl rfl rfl few queued)).trans ?_
  unfold createSourceItem
  dsimp only
  rw [visibleSource_appended (q := admitted r b action standing n s) absent rfl rfl rfl]
  rfl

theorem mem_addItem {α : Type} {it : α} {l : List (Nat × α)} {e : Nat × α} (h : e ∈ addItem tag it l) : e.1 = tag ∨ e ∈ l := by
  unfold addItem at h
  rcases List.mem_append.mp h with below | here
  · exact .inr (List.mem_filter.mp below).1
  · rcases List.mem_cons.mp here with rfl | above
    · exact .inl rfl
    · exact .inr (List.mem_filter.mp above).1

theorem visibleSource_absent {st : OrderStore} (absent : ∀ e ∈ st.sources, e.tag ≠ tag) : visibleSource st tag = none := by
  refine List.find?_eq_none.mpr fun e he => ?_
  simp [absent e he]

theorem findSink_absent {st : OrderStore} (absent : ∀ k ∈ st.sinks, k.tag ≠ tag) : findSink st tag = none := by
  refine List.find?_eq_none.mpr fun k hk => ?_
  simp [absent k hk]

/-- PLACE SOURCE of a request that passes the checks (R9 to R12). -/
theorem exec_placeSource (accepted : Accepted 1 16 x s) (hr : r = sourceRequest x.params)
    (hb : bindingOf r.kind r.port r.first = some b) (ha : actionOfCode r.action = some action)
    (hs : standingOfCode r.standing = some standing) (pass : refusal .source r.tag r.cls b s.store = none) :
    exec (.placeSource x) s = .next (finish s (respond 1 .done [] (admitSource r b action standing (shifted none (transferSize x) s)))) := by
  subst hr
  refine congrArg Host.Outcome.next ((request_of_accepted accepted _).trans (congrArg (finish s) ?_))
  unfold answer placeSource
  rw [hb, ha, hs]
  dsimp only
  rw [show (shifted none (transferSize x) s).store = s.store from rfl, pass]

/-- Settles O21. -/
theorem placeSourceAdmits : Obligations.PlaceSourceAdmits := by
  rintro x s r b action standing wanted accepted hr hb ha hs pass tile few rfl
  have free := refusal_none_of_checks hb pass
  have ok := refusal_eq_none_iff.mp free
  obtain ⟨n, unused, lowest, made⟩ := allocate_source (rnom := clampRnom r.cls r.rnom) (k := clampK r.k) ok
  refine ⟨_, n, admitted r b action standing n s, newAdapter (sourceKind b) r.tag r.cls (clampRnom r.cls r.rnom) (clampK r.k),
    exec_placeSource accepted hr hb ha hs free, unused, lowest, ?_, ?_, ?_⟩
  · exact ⟨rfl, rfl, rfl, rfl, rfl, rfl, rfl, rfl, rfl, rfl, rfl, rfl, rfl, rfl, rfl, rfl, rfl, rfl, rfl, rfl, rfl, rfl⟩
  · exact ⟨rfl, rfl, rfl, rfl, rfl, rfl, rfl, rfl, rfl, rfl, rfl, rfl, rfl, rfl⟩
  · have queued : ∀ e ∈ s.store.queue, ∃ q ∈ s.store.sources, q.tag = e := fun e he => by
      obtain ⟨q, mem, same, -⟩ := (tile.queued e).mp he
      exact ⟨q, mem, same⟩
    have absent := absent_source ok.fresh
    have runs := accepted.runs
    rw [admitSource_eq (s := shifted none (transferSize x) s) ok queued few made]
    refine (finish_settled ?_ (fun e he => ?_) ?_ ?_ ?_ ?_).trans ?_
    · exact runs
    · by_cases same : e.1 = r.tag
      · exact noteSource_none (.inl (same ▸ visibleSource_absent absent))
      · exact noteSource_alike (visibleSource_before (q := admitted r b action standing n s) rfl fun h => same h.symm)
    · exact fun e _ => noteSink_alike rfl
    · rfl
    · rfl
    · rfl
    · have port := respond_shifted_mport (code := 1) (st := .done) (payload := []) (x := x) runs
      rw [responseBytes_plain] at port
      rw [← port]
      rfl

/-! ### A sink order admitted -/

variable {k : SinkRequest}

/-- The admitted sink, after its first evaluation (R8, R10, R13, R82). -/
def admittedSink (k : SinkRequest) (b : Binding) (n : Option (Fin 96)) (s : State) : Sink :=
  { newSink k b n with
    mismatch := otherOfferStands s k.tag k.cls
    sel := bestOf (candidates s k.tag k.cls)
    switches := if candidates s k.tag k.cls = [] then 0 else 1 }

theorem bestOf_none {cs : List Selection} : bestOf cs = none ↔ cs = [] := by
  cases cs with
  | nil => simp [bestOf]
  | cons c cs =>
    rw [bestOf]
    split
    · simp
    · split <;> simp

theorem choose_unselected {k : Sink} {cs : List Selection} (unselected : k.sel = none) (wtr : k.wtr = 0) : k.choose cs =
    { k with sel := bestOf cs, switches := if cs = [] then k.switches else satInc 65535 k.switches } := by
  unfold Sink.choose
  rcases best : bestOf cs with _ | c
  · rw [unselected, bestOf_none.mp best]
    simp [← unselected]
  · have some : cs ≠ [] := fun none => nomatch (bestOf_none.mpr none).symm.trans best
    simp [Sink.take, some, ← wtr]

theorem evaluate_new (k : SinkRequest) (b : Binding) (n : Option (Fin 96)) (s : State) (hold : Bool) :
    Sink.evaluate { newSink k b n with mismatch := otherOfferStands s k.tag k.cls } (candidates s k.tag k.cls) hold =
      admittedSink k b n s :=
  choose_unselected rfl rfl

theorem evalSink_new {old : List Sink} {n : Option (Fin 96)} (table : s.store.sinks = old ++ [newSink k b n])
    (absent : ∀ e ∈ old, e.tag ≠ k.tag) : evalSink true s k.tag =
      { s with store := { s.store with sinks := old ++ [admittedSink k b n s] } } := by
  unfold evalSink updateSink
  rw [table, map_appended (f := Sink.tag) absent rfl, ← evaluate_new k b n s s.pins.hold]
  rfl

/-- The Report Unit with the item of an admitted sink (R13). -/
def withSinkItem (k : Sink) (s : State) : ReportUnit := { s.report with
  sinks := addItem k.tag { snap := sinkReport k, flag := false } s.report.sinks }

theorem admitSink_eq {st : OrderStore} {n : Option (Fin 96)} (fresh : holdsTag .sink k.tag s.store = false)
    (sinks : st.sinks = s.store.sinks)
    (made : allocate (adapterKind .sink b) k.tag k.cls (clampRnom k.cls k.rnom) (clampK k.k) s.store = (st, n)) :
    admitSink k b s = { s with
      store := { bindPositions .sink b k.cls (some k.tag) st with sinks := s.store.sinks ++ [admittedSink k b n s] }
      report := withSinkItem (admittedSink k b n s) s } := by
  have absent : ∀ e ∈ s.store.sinks, e.tag ≠ k.tag := absent_sink fresh
  have bound : (bindPositions .sink b k.cls (some k.tag) st).sinks = s.store.sinks := by
    rw [bindPositions_sink]
    exact sinks
  unfold admitSink
  rw [made]
  dsimp only
  rw [bound]
  refine (congrArg (createSinkItem k.tag) (evalSink_new (b := b) (n := n) rfl absent)).trans ?_
  have found : ∀ st' : OrderStore, st'.sinks = s.store.sinks ++ [admittedSink k b n s] →
      findSink st' k.tag = some (admittedSink k b n s) := fun st' table => by
    unfold findSink
    rw [table]
    exact find_appended (fun e he => by simp [absent e he]) (by simp [admittedSink, newSink])
  unfold createSinkItem
  rw [found _ rfl]
  rfl

theorem exec_placeSink (accepted : Accepted 2 13 x s) (hk : k = sinkRequest x.params)
    (hb : bindingOf k.kind k.port k.first = some b) (pass : refusal .sink k.tag k.cls b s.store = none) :
    exec (.placeSink x) s = .next (finish s (respond 2 .done [] (admitSink k b (shifted none (transferSize x) s)))) := by
  subst hk
  refine congrArg Host.Outcome.next ((request_of_accepted accepted _).trans (congrArg (finish s) ?_))
  unfold answer placeSink
  rw [hb]
  dsimp only
  rw [show (shifted none (transferSize x) s).store = s.store from rfl, pass]

/-- The end of an admission of a sink. -/
theorem finish_admitSink {st : OrderStore} {n : Option (Fin 96)} (accepted : Accepted 2 13 x s)
    (fresh : holdsTag .sink k.tag s.store = false) (sinks : st.sinks = s.store.sinks) (sources : st.sources = s.store.sources)
    (made : allocate (adapterKind .sink b) k.tag k.cls (clampRnom k.cls k.rnom) (clampK k.k) s.store = (st, n)) :
    finish s (respond 2 .done [] (admitSink k b (shifted none (transferSize x) s))) = { s with
      store := { bindPositions .sink b k.cls (some k.tag) st with sinks := s.store.sinks ++ [admittedSink k b n s] }
      mport := portAfter (plainResponse 2 .done) x s
      report := attended s.station.state (withSinkItem (admittedSink k b n s) s) } := by
  have absent := absent_sink fresh
  have runs := accepted.runs
  have bound : (bindPositions .sink b k.cls (some k.tag) st).sources = s.store.sources := by
    rw [bindPositions_sink]
    exact sources
  rw [admitSink_eq (s := shifted none (transferSize x) s) fresh sinks made]
  refine (finish_settled ?_ (fun e _ => ?_) (fun e he => ?_) ?_ ?_ ?_).trans ?_
  · exact runs
  · refine noteSource_same s _ ?_ e
    exact bound
  · by_cases same : e.1 = k.tag
    · exact noteSink_none (.inl (same ▸ findSink_absent absent))
    · refine noteSink_alike ?_
      exact find_before (y := admittedSink k b n s) (decide_eq_false fun h : k.tag = e.1 => same h.symm)
  · rfl
  · rfl
  · rfl
  · have port := respond_shifted_mport (code := 2) (st := .done) (payload := []) (x := x) runs
    rw [responseBytes_plain] at port
    rw [← port]
    rfl

/-- Settles O22. -/
theorem placeSinkAdmits : Obligations.PlaceSinkAdmits := by
  intro x s r b accepted hr hb pass
  have free := refusal_none_of_checks hb pass
  have ok := refusal_eq_none_iff.mp free
  rcases allocate_of_admissible ok (clampRnom r.cls r.rnom) (clampK r.k) with ⟨unneeded, made⟩ | ⟨kd, n, needed, unused, lowest, -, made⟩
  · obtain ⟨p, first, rfl⟩ : ∃ p first, b = .carrier p first := by
      cases b with
      | client p => exact nomatch unneeded
      | carrier p first => exact ⟨p, first, rfl⟩
    refine ⟨_, admittedSink r (.carrier p first) none s, exec_placeSink accepted hr hb free, ?_, ?_, ?_⟩
    · exact ⟨rfl, rfl, rfl, rfl, rfl, rfl, rfl, rfl, rfl, rfl, rfl⟩
    · rw [finish_admitSink accepted ok.fresh rfl rfl made]
      rfl
    · rw [finish_admitSink accepted ok.fresh rfl rfl made]
      exact ⟨rfl, rfl, rfl, rfl, rfl⟩
  · obtain ⟨p, rfl⟩ : ∃ p, b = .client p := by
      cases b with
      | client p => exact ⟨p, rfl⟩
      | carrier p first => exact nomatch needed
    obtain rfl : AdapterKind.clientSink = kd := Option.some.inj needed
    have ended := finish_admitSink (st := { s.store with
      pool := s.store.pool.set n (some (newAdapter .clientSink r.tag r.cls (clampRnom r.cls r.rnom) (clampK r.k)))
      freeStore := s.store.freeStore - 4096 * r.cls }) accepted ok.fresh rfl rfl made
    refine ⟨_, admittedSink r (.client p) (some n) s, exec_placeSink accepted hr hb free, ?_, ?_, ?_⟩
    · exact ⟨rfl, rfl, rfl, rfl, rfl, rfl, rfl, rfl, rfl, rfl, rfl⟩
    · rw [ended]
      rfl
    · rw [ended]
      exact ⟨n, newAdapter .clientSink r.tag r.cls (clampRnom r.cls r.rnom) (clampK r.k), unused, lowest, rfl, rfl, rfl, rfl, rfl,
        rfl, rfl, rfl, rfl, rfl, rfl, rfl, rfl, rfl, rfl, rfl, rfl, rfl, rfl⟩

end Sys2Proof.Admitted
end

section
/-! PROOFS. The evaluation of wanted status (R61, R64, R65), of one source and of the sources that a notice touches (R59); RESTATE
(R21, R66, R123): O24. -/

namespace Sys2Proof.Evaluations

open Sys2Proof.Machine Sys2Proof.Safety Sys2Proof.Requests Sys2Proof.Reports Sys2Proof.Pass Sys2Proof.Admitted Sys2Proof.Placement

variable {s t u : State} {tag : Nat} {r : Source} {x : Transfer}

/-- The order store with a source's record replaced. -/
def rewritten (tag : Nat) (q : Source) (s : State) : State :=
  { s with store := { s.store with sources := s.store.sources.map fun e => if e.tag = tag then q else e } }

theorem updateSource_rewritten (tags : (s.store.sources.map (·.tag)).Nodup) (hr : visibleSource s.store tag = some r)
    (f : Source → Source) : updateSource tag f s = rewritten tag (f r) s := updateSource_visible tags hr f

theorem rewritten_twice {q p : Source} (same : q.tag = tag) : rewritten tag p (rewritten tag q s) = rewritten tag p s := by
  unfold rewritten
  dsimp only
  rw [List.map_map]
  congr 2
  refine List.map_congr_left fun e _ => ?_
  by_cases h : e.tag = tag
  · simp [h, same]
  · simp [h]

theorem updateSource_twice (f : Source → Source) {q : Source} (same : q.tag = tag) :
    updateSource tag f (rewritten tag q s) = rewritten tag (f q) s := by
  unfold rewritten updateSource
  dsimp only
  rw [List.map_map]
  congr 2
  refine List.map_congr_left fun e _ => ?_
  by_cases h : e.tag = tag
  · simp [h, same]
  · simp [h]

/-- A source with its class-mismatch flag judged (R61). -/
def judged (view : Vector LaneView 9) (r : Source) : Source := { r with mismatch := otherWantStands view r.tag r.cls }

theorem dequeue_rewritten {q : Source} (same : q.tag = tag) : dequeue tag (rewritten tag q s) =
    { rewritten tag { q with state := .dormant, entryNo := none } s with store := {
        (rewritten tag { q with state := .dormant, entryNo := none } s).store with queue := s.store.queue.filter (· ≠ tag) } } := by
  unfold dequeue
  dsimp only
  rw [updateSource_twice (fun r => { r with state := .dormant, entryNo := none }) same]
  rfl

/-- The evaluation of a visible source, by its state (R65). -/
theorem evalSource_state (tags : (s.store.sources.map (·.tag)).Nodup) (hr : visibleSource s.store tag = some r) :
    evalSource tag s = match r.state, isWanted s.view r with
      | .dormant, true => enqueue tag (rewritten tag (judged s.view r) s)
      | .queued, false => dequeue tag (rewritten tag (judged s.view r) s)
      | .offered, true => rewritten tag { judged s.view r with releaseCount := 0 } s
      | _, _ => rewritten tag (judged s.view r) s := by
  obtain ⟨-, rfl, -⟩ := visibleSource_some hr
  unfold evalSource
  rw [hr]
  dsimp only
  rw [show updateSource r.tag (fun r => { r with mismatch := otherWantStands s.view r.tag r.cls }) s =
      rewritten r.tag (judged s.view r) s from updateSource_rewritten tags hr _,
    updateSource_twice (tag := r.tag) (q := judged s.view r) (fun r => { r with releaseCount := 0 }) rfl]
  rfl

theorem evalSource_dormant (tags : (s.store.sources.map (·.tag)).Nodup) (hr : visibleSource s.store tag = some r)
    (dormant : r.state = .dormant) : evalSource tag s =
      if isWanted s.view r then enqueue tag (rewritten tag (judged s.view r) s) else rewritten tag (judged s.view r) s := by
  rw [evalSource_state tags hr, dormant]
  cases isWanted s.view r <;> rfl

theorem evalSource_queued (tags : (s.store.sources.map (·.tag)).Nodup) (hr : visibleSource s.store tag = some r)
    (queued : r.state = .queued) : evalSource tag s =
      if isWanted s.view r then rewritten tag (judged s.view r) s else dequeue tag (rewritten tag (judged s.view r) s) := by
  rw [evalSource_state tags hr, queued]
  cases isWanted s.view r <;> rfl

theorem evalSource_offered (tags : (s.store.sources.map (·.tag)).Nodup) (hr : visibleSource s.store tag = some r)
    (offered : r.state = .offered) : evalSource tag s =
      if isWanted s.view r then rewritten tag { judged s.view r with releaseCount := 0 } s
      else rewritten tag (judged s.view r) s := by
  rw [evalSource_state tags hr, offered]
  cases isWanted s.view r <;> rfl

theorem evalSource_retiring (tags : (s.store.sources.map (·.tag)).Nodup) (hr : visibleSource s.store tag = some r)
    (retiring : r.state = .retiring) : evalSource tag s = rewritten tag (judged s.view r) s := by
  rw [evalSource_state tags hr, retiring]

/-! ### The record after an evaluation -/

/-- A source after its evaluation, but for its entry number (R65). -/
def evaluated (view : Vector LaneView 9) (r : Source) : Source :=
  { judged view r with
    state := if r.state = .dormant ∧ isWanted view r = true then .queued
      else if r.state = .queued ∧ isWanted view r = false then .dormant else r.state
    releaseCount := if r.state = .offered ∧ isWanted view r = true then 0 else r.releaseCount }

/-- A source without its entry number, which a renumbering of the queue writes (R67). -/
def unnumbered (r : Source) : Source := { r with entryNo := none }

theorem enqueue_rewritten {q : Source} (same : q.tag = tag) (few : s.store.queueCounter ≠ 4294967295) :
    ∃ queue, enqueue tag (rewritten tag q s) = { rewritten tag { q with state := .queued, entryNo := some s.store.queueCounter } s with
      store := { (rewritten tag { q with state := .queued, entryNo := some s.store.queueCounter } s).store with
        queue := queue, queueCounter := s.store.queueCounter + 1 } } := by
  refine ⟨queueInsert (rewritten tag { q with state := .queued, entryNo := some s.store.queueCounter } s).store tag, ?_⟩
  unfold enqueue
  dsimp only
  rw [show (rewritten tag q s).store.queueCounter = s.store.queueCounter from rfl, if_neg few, updateSource_twice (fun r => { r with state := .queued, entryNo := some s.store.queueCounter }) same]

/-! ### RESTATE -/

theorem rewritten_tags {q : Source} (same : q.tag = tag) :
    (rewritten tag q s).store.sources.map (·.tag) = s.store.sources.map (·.tag) := by
  unfold rewritten
  dsimp only
  rw [List.map_map]
  refine List.map_congr_left fun e _ => ?_
  by_cases h : e.tag = tag
  · simp [h, same]
  · simp [h]

theorem visibleSource_rewritten {q : Source} (tags : (s.store.sources.map (·.tag)).Nodup)
    (hr : visibleSource s.store tag = some r) (same : q.tag = tag) (visible : q.removed = false) :
    visibleSource (rewritten tag q s).store tag = some q := by
  subst same
  obtain ⟨mem, here, -⟩ := visibleSource_some hr
  have tags' : ((rewritten q.tag q s).store.sources.map (·.tag)).Nodup := by rwa [rewritten_tags rfl]
  have mem' : q ∈ (rewritten q.tag q s).store.sources := List.mem_map.mpr ⟨r, mem, if_pos here⟩
  exact FarEnd.visibleSource_of_mem tags' mem' visible

theorem noteSource_key (s t : State) (e : Nat × Item SourceReport) :
    ((noteSource s t e).1, (noteSource s t e).2.snap) = (e.1, e.2.snap) := by
  unfold noteSource
  split
  · split
    · split <;> rfl
    · rfl
  · rfl

theorem noteChanges_keys (s t : State) :
    (noteChanges s t).sources.map (fun e => (e.1, e.2.snap)) = t.report.sources.map fun e => (e.1, e.2.snap) :=
  List.map_map.trans (List.map_congr_left fun e _ => noteSource_key s t e)

/-- The report of a command that changes nothing but source orders. -/
theorem finish_sources (running : t.station.state ≠ .cold) (sinks : t.store.sinks = s.store.sinks) (lanes : t.lanes = s.lanes)
    (ports : t.carriers.ports = s.carriers.ports) (station : stationReport t = stationReport s) : finish s t = { t with
      report := { t.report with sources := (noteChanges s t).sources, attn := (finish s t).report.attn } } := by
  have items : noteChanges s t = { t.report with sources := (noteChanges s t).sources } :=
    calc noteChanges s t = { t.report with sources := (noteChanges s t).sources, sinks := (noteChanges s t).sinks
                                           lanes := (noteChanges s t).lanes, ports := (noteChanges s t).ports
                                           station := (noteChanges s t).station } := rfl
      _ = _ := by rw [noteChanges_sinks sinks, noteChanges_lanes lanes, noteChanges_ports ports, noteChanges_station station]
  rw [finish_running running, items]
  rfl

/-- The source with its failure record cleared (R21, R123). -/
def cleared (r : Source) : Source := { r with latch := false, faultCount := 0 }

theorem restate_unlatched (tags : (s.store.sources.map (·.tag)).Nodup) (hr : visibleSource s.store tag = some r)
    (h : ¬ (r.latch = true ∧ r.action = .withdraw)) : restate tag s = (.done, rewritten tag (cleared r) s) := by
  unfold restate
  rw [hr]
  dsimp only
  rw [if_neg (by simpa using h), updateSource_rewritten tags hr]
  rfl

theorem restate_latched (tags : (s.store.sources.map (·.tag)).Nodup) (hr : visibleSource s.store tag = some r)
    (h : r.latch = true ∧ r.action = .withdraw) : restate tag s = (.done, evalSource tag (rewritten tag (cleared r) s)) := by
  unfold restate
  rw [hr]
  dsimp only
  rw [if_pos (by simpa using h), updateSource_rewritten tags hr]
  rfl

/-- The record of an evaluated source with the queue's number. -/
def numbered (counter : Nat) (view : Vector LaneView 9) (r : Source) : Source :=
  { evaluated view r with
    entryNo := if r.state = .dormant ∧ isWanted view r = true then some counter
      else if r.state = .queued ∧ isWanted view r = false then none else r.entryNo }

/-- An evaluation writes the one record, and beside it the queue and its counter alone. -/
theorem evalSource_numbered (tags : (s.store.sources.map (·.tag)).Nodup) (hr : visibleSource s.store tag = some r)
    (few : s.store.queueCounter ≠ 4294967295) : ∃ queue counter, evalSource tag s =
      { rewritten tag (numbered s.store.queueCounter s.view r) s with store := {
        (rewritten tag (numbered s.store.queueCounter s.view r) s).store with queue := queue, queueCounter := counter } } := by
  obtain ⟨-, here, -⟩ := visibleSource_some hr
  have plain : ∀ q, numbered s.store.queueCounter s.view r = q → evalSource tag s = rewritten tag q s → ∃ queue counter,
      evalSource tag s = { rewritten tag (numbered s.store.queueCounter s.view r) s with store := {
        (rewritten tag (numbered s.store.queueCounter s.view r) s).store with queue := queue, queueCounter := counter } } := by
    rintro q rfl h
    exact ⟨s.store.queue, s.store.queueCounter, h⟩
  have same : (judged s.view r).tag = tag := here
  rcases state : r.state with _ | _ | _ | _
  · rcases wanted : isWanted s.view r with _ | _
    · exact plain (judged s.view r) (by simp [numbered, evaluated, judged, state, wanted])
        (by rw [evalSource_dormant tags hr state, wanted]; rfl)
    · obtain ⟨queue, entered⟩ := enqueue_rewritten (s := s) same few
      have record : numbered s.store.queueCounter s.view r =
          { judged s.view r with state := .queued, entryNo := some s.store.queueCounter } := by
        simp [numbered, evaluated, judged, state, wanted]
      rw [evalSource_dormant tags hr state, wanted, if_pos rfl, entered, record]
      exact ⟨queue, _, rfl⟩
  · rcases wanted : isWanted s.view r with _ | _
    · have record : numbered s.store.queueCounter s.view r = { judged s.view r with state := .dormant, entryNo := none } := by
        simp [numbered, evaluated, judged, state, wanted]
      rw [evalSource_queued tags hr state, wanted, if_neg Bool.false_ne_true, dequeue_rewritten same, record]
      exact ⟨_, s.store.queueCounter, rfl⟩
    · exact plain (judged s.view r) (by simp [numbered, evaluated, judged, state, wanted])
        (by rw [evalSource_queued tags hr state, wanted]; rfl)
  · rcases wanted : isWanted s.view r with _ | _
    · exact plain (judged s.view r) (by simp [numbered, evaluated, judged, state, wanted])
        (by rw [evalSource_offered tags hr state, wanted]; rfl)
    · exact plain { judged s.view r with releaseCount := 0 } (by simp [numbered, evaluated, judged, state, wanted])
        (by rw [evalSource_offered tags hr state, wanted]; rfl)
  · exact plain (judged s.view r) (by simp [numbered, evaluated, judged, state]) (evalSource_retiring tags hr state)

theorem exec_restate (accepted : Accepted 4 3 x s) : exec (.restate x) s = .next (finish s
    (answer 4 (restate (paramBe x.params 0 3) (shifted none (transferSize x) s)))) :=
  congrArg Host.Outcome.next (request_of_accepted accepted _)

/-- The engine after RESTATE, before the end of the command: one record, the queue and the response (R21). -/
def restated (tag : Nat) (q : Source) (queue : List Nat) (counter : Nat) (x : Transfer) (s : State) : State :=
  { s with
    store := { (rewritten tag q s).store with queue := queue, queueCounter := counter }
    mport := portAfter (plainResponse 4 .done) x s }

theorem finish_restated {q : Source} {queue : List Nat} {counter : Nat} (running : s.station.state ≠ .cold) :
    ∃ t, finish s (restated tag q queue counter x s) = t ∧ t.store = (restated tag q queue counter x s).store ∧ t = { s with
      store := { s.store with sources := t.store.sources, queue := t.store.queue, queueCounter := t.store.queueCounter }
      mport := portAfter (plainResponse 4 .done) x s
      report := { s.report with sources := t.report.sources, attn := t.report.attn } } ∧
    t.report.sources.map (fun e => (e.1, e.2.snap)) = s.report.sources.map fun e => (e.1, e.2.snap) := by
  have ended := finish_sources (s := s) (t := restated tag q queue counter x s) running rfl rfl rfl rfl
  refine ⟨_, rfl, finish_store _ _, ?_, ?_⟩
  · rw [ended]
    rfl
  · rw [ended]
    exact noteChanges_keys s _

/-- A source with its failure record cleared is wanted while its WANT stands. -/
theorem isWanted_cleared (view : Vector LaneView 9) (r : Source) : isWanted view (cleared r) = wantStands view r.tag r.cls :=
  Bool.and_true _

/-- Settles O24. -/
theorem restateClearsTheFailureRecord : Obligations.RestateClearsTheFailureRecord := by
  refine ⟨fun x s tag r wanted accepted ht tile few hr hw => ?_, fun x s accepted none => ?_⟩
  · have runs := accepted.runs
    have port := respond_shifted_mport (code := 4) (st := .done) (payload := []) (x := x) runs
    rw [responseBytes_plain] at port
    obtain ⟨-, here, visible⟩ := visibleSource_some hr
    have same : (cleared r).tag = tag := here
    by_cases latched : r.latch = true ∧ r.action = .withdraw
    · have cleared_tags : ((rewritten tag (cleared r) (shifted none (transferSize x) s)).store.sources.map (·.tag)).Nodup :=
        (rewritten_tags (s := shifted none (transferSize x) s) same).symm ▸ tile.tags
      obtain ⟨queue, counter, numbered⟩ := evalSource_numbered cleared_tags
        (visibleSource_rewritten (s := shifted none (transferSize x) s) tile.tags hr same visible) few.ne
      have done : answer 4 (restate tag (shifted none (transferSize x) s)) =
          restated tag (Evaluations.numbered s.store.queueCounter s.view (cleared r)) queue counter x s := by
        rw [restate_latched (s := shifted none (transferSize x) s) tile.tags hr latched, numbered,
          rewritten_twice (s := shifted none (transferSize x) s) same, restated, ← port]
        rfl
      obtain ⟨t, ended, store, frame, keys⟩ := finish_restated (tag := tag)
        (q := Evaluations.numbered s.store.queueCounter s.view (cleared r)) (queue := queue) (counter := counter) (x := x) runs
      refine ⟨t, Evaluations.numbered s.store.queueCounter s.view (cleared r), ?_, frame, ?_, keys, ?_⟩
      · rw [exec_restate accepted, ← ht, done, ended]
      · rw [store]
        rfl
      · rw [if_pos latched, hw, ← isWanted_cleared]
        rfl
    · have done : answer 4 (restate tag (shifted none (transferSize x) s)) =
          restated tag (cleared r) s.store.queue s.store.queueCounter x s := by
        rw [restate_unlatched (s := shifted none (transferSize x) s) tile.tags hr latched, restated, ← port]
        rfl
      obtain ⟨t, ended, store, frame, keys⟩ := finish_restated (tag := tag) (q := cleared r) (queue := s.store.queue)
        (counter := s.store.queueCounter) (x := x) runs
      refine ⟨t, cleared r, ?_, frame, ?_, keys, ?_⟩
      · rw [exec_restate accepted, ← ht, done, ended]
      · rw [store]
        rfl
      · rw [if_neg latched, store]
        exact ⟨rfl, rfl, rfl⟩
  · refine congrArg _ (request_onlyAnswered (code := 4) accepted ?_)
    unfold answer restate
    rw [show (shifted Option.none (transferSize x) s).store = s.store from rfl, none]
    rfl

end Sys2Proof.Evaluations
end

section
/-! PROOFS. REMOVE (R15 to R20, R102): O23. -/

namespace Sys2Proof.Removal

open Sys2Proof.Machine Sys2Proof.Safety Sys2Proof.Requests Sys2Proof.Reports Sys2Proof.Admitted Sys2Proof.Stores

variable {s t u : State} {tag : Nat} {r : Source} {k : Sink} {x : Transfer} {n : Fin 96} {o : Option (Fin 96)}

/-! ### Items that a comparison leaves -/

/-- A comparison of `t` with `s` flags no item. -/
structure Settled (s t : State) : Prop where
  sources : ∀ e ∈ t.report.sources, noteSource s t e = e
  sinks : ∀ e ∈ t.report.sinks, noteSink s t e = e
  lanes : t.lanes = s.lanes
  ports : t.carriers.ports = s.carriers.ports
  station : stationReport t = stationReport s

theorem Settled.refl (s : State) : Settled s s :=
  ⟨fun _ _ => noteSource_alike rfl, fun _ _ => noteSink_alike rfl, rfl, rfl, rfl⟩

theorem noteSource_congr {e : Nat × Item SourceReport} (same : visibleSource u.store e.1 = visibleSource t.store e.1)
    (ports : u.carriers.ports = t.carriers.ports) : noteSource s u e = noteSource s t e := by
  unfold noteSource
  rw [same, ports]

theorem noteSink_congr {e : Nat × Item SinkReport} (same : findSink u.store e.1 = findSink t.store e.1) :
    noteSink s u e = noteSink s t e := by
  unfold noteSink
  rw [same]

/-- After its own comparison a step of the orders is settled. -/
theorem settled_noted (running : t.station.state ≠ .cold) (lanes : t.lanes = s.lanes)
    (carriers : t.carriers = s.carriers) (station : stationReport t = stationReport s) : Settled s (noted s t) := by
  have compared : (noted s t).report = noteChanges s t := by
    unfold noted
    rw [if_neg running]
  refine ⟨fun e he => ?_, fun e he => ?_, ?_, ?_, ?_⟩
  · rw [compared] at he
    obtain ⟨e, -, rfl⟩ := List.mem_map.mp he
    exact noteSource_noteSource s t (noted s t) (noted_store s t) (noted_carriers s t) e
  · rw [compared] at he
    obtain ⟨e, -, rfl⟩ := List.mem_map.mp he
    exact noteSink_noteSink s t (noted s t) (noted_store s t) e
  · rw [noted_lanes, lanes]
  · rw [noted_carriers, carriers]
  · unfold stationReport at *
    rw [noted_station, noted_timing, noted_carriers, noted_pins, station]

theorem settled_spanEnd (running : s.station.state ≠ .cold) (o : Option (Fin 96)) : Settled s (spanEndAt o s) := by
  cases o with
  | none => exact .refl s
  | some n =>
    change Settled s (spanEndOf n s)
    unfold spanEndOf
    split
    · exact .refl s
    · rename_i a ha
      split
      · exact .refl s
      · rename_i e he
        have only : OnlyStore s (healthOf a (a.outcome e) (setAdapter n (some (a.endSpan e)) s)) := healthOf_onlyStore ..
        refine settled_noted ?_ ?_ ?_ ?_
        · rw [only]
          exact running
        · rw [only]
        · rw [only]
        · rw [only]
          rfl

/-! ### A span end and the management port -/

/-- The engine with another management port. -/
def ported (m : ManagementPort) (s : State) : State := { s with mport := m }

/-- What an evaluation does by the source's state and its wanted status (R65). -/
def settle (state : SourceState) (wanted : Bool) (tag : Nat) (s : State) : State :=
  match state, wanted with
  | .dormant, true => enqueue tag s
  | .queued, false => dequeue tag s
  | .offered, true => updateSource tag (fun r => { r with releaseCount := 0 }) s
  | _, _ => s

theorem evalSource_settle (hr : visibleSource s.store tag = some r) : evalSource tag s =
    settle r.state (isWanted s.view r) tag (updateSource tag (fun r => { r with mismatch := otherWantStands s.view r.tag r.cls }) s) := by
  unfold evalSource
  rw [hr]
  rfl

theorem enqueue_ported (m : ManagementPort) (tag : Nat) (s : State) : enqueue tag (ported m s) = ported m (enqueue tag s) := by
  unfold enqueue
  dsimp only
  rw [show (ported m s).store.queueCounter = s.store.queueCounter from rfl]
  by_cases last : s.store.queueCounter = 4294967295
  · rw [if_pos last, if_pos last]
    rfl
  · rw [if_neg last, if_neg last]
    rfl

theorem settle_ported (m : ManagementPort) (state : SourceState) (wanted : Bool) (tag : Nat) (s : State) :
    settle state wanted tag (ported m s) = ported m (settle state wanted tag s) := by
  cases state with
  | dormant =>
    cases wanted with
    | false => rfl
    | true => exact enqueue_ported m tag s
  | queued => cases wanted <;> rfl
  | offered => cases wanted <;> rfl
  | retiring => rfl

theorem evalSource_ported (m : ManagementPort) (tag : Nat) (s : State) :
    evalSource tag (ported m s) = ported m (evalSource tag s) := by
  rcases hr : visibleSource s.store tag with _ | r
  · unfold evalSource
    rw [hr, show visibleSource (ported m s).store tag = none from hr]
  · rw [evalSource_settle hr, evalSource_settle (s := ported m s) hr, ← settle_ported]
    rfl

theorem healthOf_ported (m : ManagementPort) (a : Adapter) (d : Detections) (s : State) :
    healthOf a d (ported m s) = ported m (healthOf a d s) := by
  have source : healthSource a.tag d (ported m s) = ported m (healthSource a.tag d s) := by
    rcases hr : visibleSource s.store a.tag with _ | r
    · unfold healthSource
      rw [hr, show visibleSource (ported m s).store a.tag = none from hr]
    · unfold healthSource
      rw [hr, show visibleSource (ported m s).store a.tag = some r from hr]
      dsimp only
      by_cases latched : (latches d r && decide (r.action = .withdraw)) = true
      · rw [if_pos latched, if_pos latched, ← evalSource_ported]
        rfl
      · rw [if_neg latched, if_neg latched]
        rfl
  unfold healthOf
  cases a.kind
  · exact source
  · exact source
  · rfl

theorem noted_ported (m : ManagementPort) (s t : State) : noted (ported m s) (ported m t) = ported m (noted s t) := by
  unfold noted
  rw [show (ported m t).station.state = t.station.state from rfl]
  by_cases cold : t.station.state = .cold
  · rw [if_pos cold, if_pos cold]
  · rw [if_neg cold, if_neg cold]
    rfl

theorem spanEndOf_ported (m : ManagementPort) (n : Fin 96) (s : State) :
    spanEndOf n (ported m s) = ported m (spanEndOf n s) := by
  rcases ha : s.store.pool[n] with _ | a
  · have none : ∀ b, s.store.pool[n] = some b → b.ended = none :=
      fun b hb => (Option.some_ne_none b (hb.symm.trans ha)).elim
    rw [spanEndOf_none none, spanEndOf_none (s := ported m s) none]
  · rcases he : a.ended with _ | e
    · have none : ∀ b, s.store.pool[n] = some b → b.ended = none := fun b hb => by
        rw [ha] at hb
        exact Option.some.inj hb ▸ he
      rw [spanEndOf_none none, spanEndOf_none (s := ported m s) none]
    · rw [spanEndOf_some ha he, spanEndOf_some (s := ported m s) ha he, ← noted_ported, ← healthOf_ported]
      rfl

theorem spanEndAt_ported (m : ManagementPort) (o : Option (Fin 96)) (s : State) :
    spanEndAt o (ported m s) = ported m (spanEndAt o s) := by
  cases o with
  | none => rfl
  | some n => exact spanEndOf_ported m n s

/-! ### A span end and the orders' identities -/

/-- The same source records in the same places, but for what an evaluation writes. -/
def SameOrders (s t : State) : Prop :=
  t.store.sources.map idOf = s.store.sources.map idOf ∧ t.store.sinks.map (fun k => (k.tag, k.adapter)) =
    s.store.sinks.map fun k => (k.tag, k.adapter)

theorem SameOrders.refl (s : State) : SameOrders s s := ⟨rfl, rfl⟩

theorem SameOrders.trans (h : SameOrders s t) (g : SameOrders t u) : SameOrders s u := ⟨g.1.trans h.1, g.2.trans h.2⟩

theorem SameOrders.of_map {f : Source → Source} (hf : ∀ r, idOf (f r) = idOf r) (sources : t.store.sources = s.store.sources.map f)
    (sinks : t.store.sinks = s.store.sinks) : SameOrders s t := by
  refine ⟨?_, by rw [sinks]⟩
  rw [sources, List.map_map]
  exact List.map_congr_left fun r _ => hf r

theorem sameOrders_update {f : Source → Source} (hf : ∀ r, idOf (f r) = idOf r) (tag : Nat) (s : State) :
    SameOrders s (updateSource tag f s) := by
  refine .of_map (f := fun r => if r.tag = tag then f r else r) (fun r => ?_) rfl rfl
  split
  · exact hf r
  · rfl

theorem sameOrders_enqueue (tag : Nat) (s : State) : SameOrders s (enqueue tag s) := by
  have queued : SameOrders s (updateSource tag (fun r => { r with state := .queued, entryNo := some s.store.queueCounter }) s) :=
    sameOrders_update (by intro; rfl) tag s
  unfold enqueue
  dsimp only
  split
  · refine SameOrders.trans ⟨queued.1, queued.2⟩ ?_
    refine .of_map (f := fun r => if r.tag ∈ _ then { r with entryNo := some _ } else r) (fun r => ?_) rfl rfl
    split <;> rfl
  · exact ⟨queued.1, queued.2⟩

theorem sameOrders_eval (tag : Nat) (s : State) : SameOrders s (evalSource tag s) := by
  unfold evalSource
  split
  · exact .refl s
  · have judged : SameOrders s (updateSource tag (fun r => { r with mismatch := otherWantStands s.view r.tag r.cls }) s) :=
      sameOrders_update (by intro; rfl) tag s
    dsimp only
    split
    · exact judged.trans (sameOrders_enqueue tag _)
    · exact judged.trans (sameOrders_update (f := fun r => { r with state := .dormant, entryNo := none }) (by intro; rfl) tag _)
    · exact judged.trans (sameOrders_update (by intro; rfl) tag _)
    · exact judged

theorem sameOrders_health (a : Adapter) (d : Detections) (s : State) : SameOrders s (healthOf a d s) := by
  have source : SameOrders s (healthSource a.tag d s) := by
    unfold healthSource
    split
    · exact .refl s
    · have counted : SameOrders s (updateSource a.tag (fun r =>
          { r with faultCount := nextFaultCount d r.faultCount, latch := r.latch || latches d r }) s) :=
        sameOrders_update (by intro; rfl) a.tag s
      dsimp only
      split
      · exact counted.trans (sameOrders_eval a.tag _)
      · exact counted
  unfold healthOf
  split
  · refine ⟨rfl, ?_⟩
    unfold healthSink updateSink
    rw [List.map_map]
    refine List.map_congr_left fun k _ => ?_
    dsimp only [Function.comp]
    split <;> rfl
  · exact source

theorem sameOrders_spanEnd (o : Option (Fin 96)) (s : State) : SameOrders s (spanEndAt o s) := by
  cases o with
  | none => exact .refl s
  | some n =>
    change SameOrders s (spanEndOf n s)
    unfold spanEndOf
    split
    · exact .refl s
    · rename_i a ha
      split
      · exact .refl s
      · rename_i e he
        have health := sameOrders_health a (a.outcome e) (setAdapter n (some (a.endSpan e)) s)
        unfold SameOrders
        rw [noted_store]
        exact health

theorem SameOrders.source_adapter (h : SameOrders s t) (tag : Nat) :
    (visibleSource t.store tag).bind (·.adapter) = (visibleSource s.store tag).bind (·.adapter) := by
  have by_id : ∀ rs : List Source, (rs.find? fun r => decide (r.tag = tag) && !r.removed).bind (·.adapter) =
      ((rs.map idOf).find? fun i => decide (i.1 = tag) && !i.2.2.2.2.2.1).bind (·.2.2.2.2.2.2) := by
    intro rs
    rw [List.find?_map, Option.bind_map]
    rfl
  unfold visibleSource
  rw [by_id, by_id, h.1]

theorem SameOrders.sink_adapter (h : SameOrders s t) (tag : Nat) :
    (findSink t.store tag).bind (·.adapter) = (findSink s.store tag).bind (·.adapter) := by
  have by_id : ∀ ks : List Sink, (ks.find? fun k => decide (k.tag = tag)).bind (·.adapter) =
      ((ks.map fun k => (k.tag, k.adapter)).find? fun i => decide (i.1 = tag)).bind (·.2) := by
    intro ks
    rw [List.find?_map, Option.bind_map]
    rfl
  unfold findSink
  rw [by_id, by_id, h.2]

theorem healthOf_pool (a : Adapter) (d : Detections) (s : State) : (healthOf a d s).store.pool = s.store.pool := by
  have source : (healthSource a.tag d s).store.pool = s.store.pool := by
    unfold healthSource
    split
    · rfl
    · dsimp only
      split
      · exact (evalSource_tended a.tag _).pool
      · rfl
  unfold healthOf
  split
  · rfl
  · exact source

/-- A span end that has been taken is not taken again. -/
theorem spanEndOf_spanEndOf (n : Fin 96) (s : State) : spanEndOf n (spanEndOf n s) = spanEndOf n s := by
  rcases ha : s.store.pool[n] with _ | a
  · have none : ∀ b, s.store.pool[n] = some b → b.ended = none := fun b hb => (Option.some_ne_none b (hb.symm.trans ha)).elim
    rw [spanEndOf_none none, spanEndOf_none none]
  · rcases he : a.ended with _ | e
    · have none : ∀ b, s.store.pool[n] = some b → b.ended = none := fun b hb => by
        rw [ha] at hb
        exact Option.some.inj hb ▸ he
      rw [spanEndOf_none none, spanEndOf_none none]
    · refine spanEndOf_none fun b hb => ?_
      rw [spanEndOf_some ha he, noted_store] at hb
      simp only [healthOf_pool] at hb
      have ended : a.endSpan e = b := Option.some.inj ((Vector.getElem_set_self _).symm.trans hb)
      exact ended ▸ rfl

/-! ### A source order removed -/

/-- The record of a removed source (R16 to R18). -/
def removedSources (r : Source) (sources : List Source) : List Source :=
  if r.state = .offered ∨ r.state = .retiring then sources.map fun e => if e.tag = r.tag then e.retired else e
  else sources.filter (·.tag ≠ r.tag)

theorem find_filter_other {l : List Source} {other : Nat} (ne : other ≠ tag) :
    ((l.filter (·.tag ≠ tag)).find? fun e => decide (e.tag = other) && !e.removed) =
      l.find? fun e => decide (e.tag = other) && !e.removed := by
  rw [List.find?_filter]
  congr 1
  funext e
  by_cases here : e.tag = other
  · simp [here, ne]
  · simp [here]

theorem find_map_other {f : Source → Source} (keeps : ∀ e, (f e).tag = e.tag) {l : List Source} {other : Nat} (ne : other ≠ tag) :
    ((l.map fun e => if e.tag = tag then f e else e).find? fun e => decide (e.tag = other) && !e.removed) =
      l.find? fun e => decide (e.tag = other) && !e.removed := by
  induction l with
  | nil => rfl
  | cons e l ih =>
    rw [List.map_cons]
    by_cases here : e.tag = tag
    · have skip : ∀ q : Source, q.tag = tag → (decide (q.tag = other) && !q.removed) = false := fun q h => by
        rw [decide_eq_false (fun same => ne (same.symm.trans h)), Bool.false_and]
      rw [if_pos here, List.find?_cons_of_neg (by rw [skip (f e) ((keeps e).trans here)]; exact Bool.false_ne_true),
        List.find?_cons_of_neg (by rw [skip e here]; exact Bool.false_ne_true), ih]
    · rw [if_neg here]
      cases found : (decide (e.tag = other) && !e.removed)
      · rw [List.find?_cons_of_neg (by rw [found]; exact Bool.false_ne_true),
          List.find?_cons_of_neg (by rw [found]; exact Bool.false_ne_true), ih]
      · rw [List.find?_cons_of_pos (p := fun e : Source => decide (e.tag = other) && !e.removed) found,
          List.find?_cons_of_pos (p := fun e : Source => decide (e.tag = other) && !e.removed) found]

theorem visibleSource_removed {st st' : OrderStore} {other : Nat} (table : st'.sources = removedSources r st.sources)
    (ne : other ≠ r.tag) : visibleSource st' other = visibleSource st other := by
  unfold visibleSource
  rw [table, removedSources]
  split
  · exact find_map_other (f := Source.retired) (by intro; rfl) ne
  · exact find_filter_other ne

theorem freeAdapter_orders (o : Option (Fin 96)) (st : OrderStore) :
    freeAdapter o st = { st with pool := (freeAdapter o st).pool, freeStore := (freeAdapter o st).freeStore } := by
  unfold freeAdapter
  split
  · rfl
  · unfold freeRecordOf
    split <;> rfl

theorem removeSource_eq (r : Source) (s : State) : removeSource r s = { s with
    store := { freedStore .source r.binding r.cls r.adapter s.store with
      sources := removedSources r s.store.sources
      queue := if r.state = .offered ∨ r.state = .retiring then s.store.queue else s.store.queue.filter (· ≠ r.tag) }
    report := dropItem .source r.tag s.report } := by
  have kept : freedStore .source r.binding r.cls r.adapter s.store = { freedStore .source r.binding r.cls r.adapter s.store with
      sources := s.store.sources, queue := s.store.queue } := by
    unfold freedStore
    rw [freeAdapter_orders, bindPositions_source]
  unfold removeSource retireOrDelete removedSources
  dsimp only
  rw [show freeAdapter r.adapter (bindPositions .source r.binding r.cls none s.store) =
    freedStore .source r.binding r.cls r.adapter s.store from rfl, kept]
  rcases r.state with _ | _ | _ | _ <;> rfl

theorem removeSink_eq (k : Sink) (s : State) : removeSink k s = { s with
    store := { s.store with
      sinks := s.store.sinks.filter (·.tag ≠ k.tag)
      pool := (freeAdapter k.adapter (bindPositions .sink k.binding k.cls none s.store)).pool
      freeStore := (freeAdapter k.adapter (bindPositions .sink k.binding k.cls none s.store)).freeStore
      clientEgr := (match k.binding with | .client p => s.store.clientEgr.set p none | .carrier _ _ => s.store.clientEgr)
      carrierEgr := (match k.binding with
        | .client _ => s.store.carrierEgr
        | .carrier p first => s.store.carrierEgr.set p (setRange s.store.carrierEgr[p] first k.cls none)) }
    report := dropItem .sink k.tag s.report
    pins := { s.pins with clientOut := dropEgress k.binding s.pins.clientOut } } := by
  unfold removeSink
  dsimp only
  rw [freeAdapter_orders]
  rcases k.binding with p | ⟨p, f⟩ <;> rfl

/-- The free of an adapter with its record. -/
theorem freeAdapter_some {a : Adapter} {st : OrderStore} (hn : o = some n) (ha : st.pool[n] = some a) :
    freeAdapter o st = { st with pool := st.pool.set n none, freeStore := st.freeStore + 4096 * a.cls } := by
  subst hn
  unfold freeAdapter freeRecordOf
  dsimp only
  rw [ha]

/-! ### The end of a removal -/

/-- The engine after the REMOVE of a source whose span end has been taken. -/
def sourceGone (x : Transfer) (r : Source) (t : State) : State := { removeSource r t with
  mport := portAfter (plainResponse 3 .done) x t, report := attended t.station.state (dropItem .source r.tag t.report) }

/-- The engine after the REMOVE of a sink whose span end has been taken. -/
def sinkGone (x : Transfer) (k : Sink) (t : State) : State := { removeSink k t with
  mport := portAfter (plainResponse 3 .done) x t, report := attended t.station.state (dropItem .sink k.tag t.report) }

theorem noteSource_dropped {st : OrderStore} {e : Nat × Item SourceReport} (settled : Settled s t)
    (table : st.sources = removedSources r t.store.sources) (he : e ∈ (dropItem .source r.tag t.report).sources)
    (hu : u.store = st) (ports : u.carriers.ports = t.carriers.ports) : noteSource s u e = e := by
  obtain ⟨kept, other⟩ := List.mem_filter.mp he
  rw [noteSource_congr (t := t) (hu ▸ visibleSource_removed table (of_decide_eq_true other)) ports]
  exact settled.sources e kept

/-- What the end of REMOVE of a source makes of it. -/
theorem finish_sourceGone (running : t.station.state ≠ .cold) (settled : Settled s t) (m : ManagementPort) :
    finish s (ported m (removeSource r t)) =
      { removeSource r t with mport := m, report := attended t.station.state (dropItem .source r.tag t.report) } := by
  rw [removeSource_eq]
  have ended := finish_settled (s := s) (t := ported m { t with
    store := { freedStore .source r.binding r.cls r.adapter t.store with
      sources := removedSources r t.store.sources
      queue := if r.state = .offered ∨ r.state = .retiring then t.store.queue else t.store.queue.filter (· ≠ r.tag) }
    report := dropItem .source r.tag t.report }) running
    (fun e he => noteSource_dropped settled rfl he rfl rfl)
    (fun e he => ?_) settled.lanes settled.ports settled.station
  · rw [ended]
    rfl
  · have kept : (freedStore .source r.binding r.cls r.adapter t.store).sinks = t.store.sinks := by
      unfold freedStore
      rw [freeAdapter_orders, bindPositions_source]
    refine (noteSink_congr (t := t) ?_).trans (settled.sinks e he)
    unfold findSink
    exact congrArg (List.find? _) kept

/-- What the end of REMOVE of a sink makes of it. -/
theorem finish_sinkGone (running : t.station.state ≠ .cold) (settled : Settled s t) (m : ManagementPort) :
    finish s (ported m (removeSink k t)) =
      { removeSink k t with mport := m, report := attended t.station.state (dropItem .sink k.tag t.report) } := by
  have table : (removeSink k t).store.sinks = t.store.sinks.filter (·.tag ≠ k.tag) := by rw [removeSink_eq]
  have sources : (removeSink k t).store.sources = t.store.sources := by rw [removeSink_eq]
  refine (finish_settled (t := ported m (removeSink k t)) running (fun e he => ?_) (fun e he => ?_) settled.lanes
    settled.ports settled.station).trans rfl
  · refine (noteSource_congr (t := t) (u := ported m (removeSink k t)) ?_ rfl).trans (settled.sources e he)
    exact congrArg (List.find? _) sources
  · obtain ⟨kept, other⟩ := List.mem_filter.mp he
    refine (noteSink_congr (t := t) ?_).trans (settled.sinks e kept)
    refine (congrArg (List.find? _) table).trans ?_
    rw [List.find?_filter]
    unfold findSink
    congr 1
    funext q
    by_cases here : q.tag = e.1
    · have ne : e.1 ≠ k.tag := of_decide_eq_true other
      simp [here, ne]
    · simp [here]

theorem shifted_ported (x : Transfer) (s : State) :
    shifted none (transferSize x) s = ported (shifted none (transferSize x) s).mport s := rfl

/-- The port that REMOVE leaves is that of the state it started from. -/
theorem respond_gone (runs : s.station.state ≠ .cold) :
    (respond 3 .done [] (shifted none (transferSize x) s)).mport = portAfter (plainResponse 3 .done) x s := by
  have port := respond_shifted_mport (code := 3) (st := .done) (payload := []) (x := x) runs
  rwa [responseBytes_plain] at port

theorem portAfter_spanEnd (response : List Byte) (o : Option (Fin 96)) :
    portAfter response x (spanEndAt o s) = portAfter response x s := by
  unfold portAfter
  rw [spanEndAt_onlyOrders o s]

theorem spanEnd_state (o : Option (Fin 96)) (s : State) : (spanEndAt o s).station.state = s.station.state := by
  rw [spanEndAt_onlyOrders o s]

theorem exec_remove (accepted : Accepted 3 4 x s) : exec (.remove x) s =
    .next (finish s (answer 3 (removeOrder (param x.params 0) (paramBe x.params 1 3) (shifted none (transferSize x) s)))) :=
  congrArg Host.Outcome.next (request_of_accepted accepted _)

theorem completeSource_ported (m : ManagementPort) : completeSource tag (ported m s) = ported m (completeSource tag s) :=
  spanEndAt_ported m _ s

theorem completeSink_ported (m : ManagementPort) : completeSink tag (ported m s) = ported m (completeSink tag s) :=
  spanEndAt_ported m _ s

theorem removeOrder_source (m : ManagementPort) (hr : visibleSource (completeSource tag s).store tag = some r) :
    removeOrder 1 tag (ported m s) = (.done, ported m (removeSource r (completeSource tag s))) := by
  unfold removeOrder
  rw [show directionOfCode 1 = some Direction.source from rfl, completeSource_ported]
  dsimp only
  rw [show visibleSource (ported m (completeSource tag s)).store tag = some r from hr]
  dsimp only
  rw [removeSource_eq, removeSource_eq] <;> rfl

theorem removeOrder_sink (m : ManagementPort) (hk : findSink (completeSink tag s).store tag = some k) :
    removeOrder 2 tag (ported m s) = (.done, ported m (removeSink k (completeSink tag s))) := by
  unfold removeOrder
  rw [show directionOfCode 2 = some Direction.sink from rfl, completeSink_ported]
  dsimp only
  rw [show findSink (ported m (completeSink tag s)).store tag = some k from hk]
  rfl

/-- The answer of REMOVE goes into the port that the transfer left. -/
theorem answer_gone (runs : s.station.state ≠ .cold) (u : State) :
    answer 3 (.done, ported (shifted none (transferSize x) s).mport u) = ported (portAfter (plainResponse 3 .done) x s) u := by
  rw [← respond_gone runs]
  rfl

/-- REMOVE of a source is fixed by the engine whose span end has been taken. -/
theorem exec_removeSource (accepted : Accepted 3 4 x s) (direction : param x.params 0 = 1) (ht : tag = paramBe x.params 1 3)
    (hr : visibleSource (completeSource tag s).store tag = some r) :
    exec (.remove x) s = .next (sourceGone x r (completeSource tag s)) := by
  have runs := accepted.runs
  have after : (completeSource tag s).station.state ≠ .cold := by
    rw [completeSource, spanEnd_state]
    exact runs
  rw [exec_remove accepted, direction, ← ht, shifted_ported, removeOrder_source _ hr, answer_gone runs,
    finish_sourceGone after (settled_spanEnd runs _), sourceGone]
  unfold completeSource
  rw [portAfter_spanEnd]

/-- REMOVE of a sink is fixed by the engine whose span end has been taken. -/
theorem exec_removeSink (accepted : Accepted 3 4 x s) (direction : param x.params 0 = 2) (ht : tag = paramBe x.params 1 3)
    (hk : findSink (completeSink tag s).store tag = some k) :
    exec (.remove x) s = .next (sinkGone x k (completeSink tag s)) := by
  have runs := accepted.runs
  have after : (completeSink tag s).station.state ≠ .cold := by
    rw [completeSink, spanEnd_state]
    exact runs
  rw [exec_remove accepted, direction, ← ht, shifted_ported, removeOrder_sink _ hk, answer_gone runs,
    finish_sinkGone after (settled_spanEnd runs _), sinkGone]
  unfold completeSink
  rw [portAfter_spanEnd]

theorem accepted_spanEnd (accepted : Accepted 3 4 x s) (o : Option (Fin 96)) : Accepted 3 4 x (spanEndAt o s) :=
  { accepted with runs := (spanEnd_state o s).symm ▸ accepted.runs }

theorem completeSource_twice (h : (visibleSource s.store tag).bind (·.adapter) = some n) :
    completeSource tag s = spanEndOf n s ∧ completeSource tag (spanEndOf n s) = spanEndOf n s := by
  have same := (sameOrders_spanEnd (some n) s).source_adapter tag
  refine ⟨congrArg (spanEndAt · s) h, ?_⟩
  exact (congrArg (spanEndAt · (spanEndOf n s)) (same.trans h)).trans (spanEndOf_spanEndOf n s)

theorem completeSink_twice (h : (findSink s.store tag).bind (·.adapter) = some n) :
    completeSink tag s = spanEndOf n s ∧ completeSink tag (spanEndOf n s) = spanEndOf n s := by
  have same := (sameOrders_spanEnd (some n) s).sink_adapter tag
  refine ⟨congrArg (spanEndAt · s) h, ?_⟩
  exact (congrArg (spanEndAt · (spanEndOf n s)) (same.trans h)).trans (spanEndOf_spanEndOf n s)

/-- A span end that is left comes first: REMOVE after it does the same. -/
theorem exec_remove_spanEnd (accepted : Accepted 3 4 x s) (ht : tag = paramBe x.params 1 3)
    (left : (param x.params 0 = 1 ∧ (visibleSource s.store tag).bind (·.adapter) = some n) ∨
      (param x.params 0 = 2 ∧ (findSink s.store tag).bind (·.adapter) = some n)) :
    exec (.remove x) s = exec (.remove x) (spanEndOf n s) := by
  have after : Accepted 3 4 x (spanEndOf n s) := accepted_spanEnd accepted (some n)
  rcases left with ⟨direction, held⟩ | ⟨direction, held⟩
  · obtain ⟨here, there⟩ := completeSource_twice held
    have same : (visibleSource (spanEndOf n s).store tag).bind (·.adapter) = _ :=
      (sameOrders_spanEnd (some n) s).source_adapter tag
    obtain ⟨r, hr, -⟩ := Option.bind_eq_some_iff.mp (same.trans held)
    rw [exec_removeSource (r := r) accepted direction ht (by rw [here]; exact hr),
      exec_removeSource (r := r) after direction ht (by rw [there]; exact hr), here, there]
  · obtain ⟨here, there⟩ := completeSink_twice held
    have same : (findSink (spanEndOf n s).store tag).bind (·.adapter) = _ :=
      (sameOrders_spanEnd (some n) s).sink_adapter tag
    obtain ⟨k, hk, -⟩ := Option.bind_eq_some_iff.mp (same.trans held)
    rw [exec_removeSink (k := k) accepted direction ht (by rw [here]; exact hk),
      exec_removeSink (k := k) after direction ht (by rw [there]; exact hk), here, there]

/-! ### Without a span end left -/

theorem completeSource_settled {a : Adapter} (hr : visibleSource s.store tag = some r) (hn : r.adapter = some n)
    (ha : s.store.pool[n] = some a) (done : a.ended = none) : completeSource tag s = s := by
  unfold completeSource
  rw [hr]
  refine (congrArg (spanEndAt · s) hn).trans (spanEndOf_none fun b hb => ?_)
  rw [ha] at hb
  exact Option.some.inj hb ▸ done

theorem completeSink_settled (hk : findSink s.store tag = some k)
    (done : ∀ n, k.adapter = some n → ∃ a, s.store.pool[n] = some a ∧ a.ended = none) : completeSink tag s = s := by
  unfold completeSink
  rw [hk]
  change spanEndAt k.adapter s = s
  rcases hn : k.adapter with _ | n
  · rfl
  · obtain ⟨a, ha, ended⟩ := done n hn
    refine spanEndOf_none fun b hb => ?_
    rw [ha] at hb
    exact Option.some.inj hb ▸ ended

/-- The queue holds no order that lies on the lane. -/
theorem queue_filter_placed (tile : TileLaw s) (hr : visibleSource s.store tag = some r)
    (placed : r.state = .offered ∨ r.state = .retiring) : s.store.queue.filter (· ≠ tag) = s.store.queue := by
  obtain ⟨mem, here, -⟩ := visibleSource_some hr
  refine List.filter_eq_self.mpr fun e he => decide_eq_true fun same => ?_
  obtain ⟨q, hq, tagged, queued⟩ := (tile.queued e).mp he
  obtain rfl : q = r := List.inj_on_of_nodup_map tile.tags hq mem (tagged.trans (same.trans here.symm))
  rcases placed with h | h <;> exact nomatch h.symm.trans queued

theorem dropEgress_getElem (b : Binding) (out : Vector ClientEgress 32) (p : Fin 32) :
    (dropEgress b out)[p] = if b = .client p then (match out[p] with | .departure blocks => .removed blocks | e => e) else out[p] := by
  cases b with
  | client q =>
    by_cases same : q = p
    · subst same
      rw [if_pos rfl]
      exact (Vector.getElem_set_self _).trans rfl
    · rw [if_neg fun h => same (Binding.client.inj h)]
      exact SourceChoice.getElem_set_ne _ _ (fun h => same h.symm)
  | carrier q f =>
    rw [if_neg nofun]
    rfl

theorem directionOfCode_none {c : Nat} (one : c ≠ 1) (two : c ≠ 2) : directionOfCode c = none := by
  unfold directionOfCode
  split
  · exact absurd rfl one
  · exact absurd rfl two
  · rfl

/-- A tag without an order of the direction is answered so. -/
theorem removeOrder_unknown (s : State) : (visibleSource s.store tag = none → removeOrder 1 tag s = (.tagUnknown, s)) ∧
    (findSink s.store tag = none → removeOrder 2 tag s = (.tagUnknown, s)) := by
  constructor <;> intro none
  · have done : completeSource tag s = s := by
      unfold completeSource
      rw [none]
      rfl
    unfold removeOrder
    rw [show directionOfCode 1 = some Direction.source from rfl]
    dsimp only
    rw [done, none]
  · have done : completeSink tag s = s := by
      unfold completeSink
      rw [none]
      rfl
    unfold removeOrder
    rw [show directionOfCode 2 = some Direction.sink from rfl]
    dsimp only
    rw [done, none]

/-- A REMOVE that removes nothing changes nothing but the slot. -/
theorem exec_remove_refused {st : Status} (accepted : Accepted 3 4 x s)
    (refused : ∀ t, t.store = s.store → removeOrder (param x.params 0) (paramBe x.params 1 3) t = (st, t)) :
    exec (.remove x) s = .next (onlyAnswered 3 st x s) := by
  refine (exec_remove accepted).trans (congrArg Host.Outcome.next ?_)
  rw [← request_of_accepted accepted fun ps s => answer 3 (removeOrder (param ps 0) (paramBe ps 1 3) s)]
  refine request_onlyAnswered accepted ?_
  rw [refused (shifted none (transferSize x) s) rfl]
  rfl

/-- Settles O23. -/
theorem removeFreesRetiresAndDeletes : Obligations.RemoveFreesRetiresAndDeletes := by
  refine ⟨fun x s tag r n a accepted direction ht tile hr hn ha done => ?_,
    fun x s tag n accepted ht left => exec_remove_spanEnd accepted ht left,
    fun x s accepted => ⟨fun direction none => ?_, fun one two => ?_⟩,
    fun x s tag k accepted direction ht table hk done => ?_, fun x s accepted direction none => ?_⟩
  · obtain ⟨-, here, -⟩ := visibleSource_some hr
    have settled := completeSource_settled hr hn ha done
    rw [exec_removeSource (r := r) accepted direction ht (by rw [settled]; exact hr), settled, sourceGone, removeSource_eq,
      removedSources, freedStore, freeAdapter_some hn (by rw [bindPositions_source]; exact ha), bindPositions_source, here]
    by_cases placed : r.state = .offered ∨ r.state = .retiring
    · rw [if_pos placed, if_pos placed, if_pos placed, queue_filter_placed tile hr placed] <;> rfl
    · rw [if_neg placed, if_neg placed, if_neg placed] <;> rfl
  · exact exec_remove_refused accepted fun t same => by
      rw [direction]
      exact (removeOrder_unknown t).1 (same.symm ▸ none)
  · exact exec_remove_refused accepted fun t _ => by
      unfold removeOrder
      rw [directionOfCode_none one two]
  · have settled := completeSink_settled hk done
    have here : k.tag = tag := (findSink_some hk).2
    refine ⟨_, exec_removeSink (k := k) accepted direction ht (by rw [settled]; exact hk), ?_, ?_, ?_, ?_⟩
    · rw [settled, sinkGone, removeSink_eq, here] <;> rfl
    · rw [settled, sinkGone, removeSink_eq]
      exact fun p => dropEgress_getElem k.binding s.pins.clientOut p
    · intro no
      rw [settled, sinkGone, removeSink_eq, no]
      simp only [freeAdapter, bindPositions_sink, and_self]
    · intro n a hn ha
      rw [settled, sinkGone, removeSink_eq, freeAdapter_some hn (by rw [bindPositions_sink]; exact ha), bindPositions_sink]
      exact ⟨rfl, rfl⟩
  · exact exec_remove_refused accepted fun t same => by
      rw [direction]
      exact (removeOrder_unknown t).2 (same.symm ▸ none)

end Sys2Proof.Removal
end

section
/-! PROOFS. The Selector's candidates, evaluation and wait-to-restore (R78 to R88), case by case. -/

namespace Sys2Proof.Selecting

open Sys2Proof.Machine Sys2Proof.Safety Sys2Proof.Works Sys2Proof.Notices

variable {s t : State} {l : Fin 9} {tag cls : Nat} {k : Sink} {cs : List Selection} {hold : Bool} {o cur b c : Selection}

/-! ### Candidates (R78) -/

theorem candidateOn_some {v : LaneView} (h : candidateOn v l tag cls = some c) :
    c.lane = l ∧ Entry.offer tag cls c.first c.quality c.standing ∈ v.entries := by
  obtain ⟨e, mem, he⟩ := List.exists_of_findSome?_eq_some h
  cases e with
  | want t q => exact nomatch he
  | offer t q f m st =>
    dsimp only at he
    split at he
    · rename_i same
      obtain ⟨rfl, rfl⟩ := same
      obtain rfl := Option.some.inj he
      exact ⟨rfl, mem⟩
    · exact nomatch he

/-- The OFFER of a tag in entries that hold no two different ones. -/
theorem candidateOn_of_mem {v : LaneView} {f : Nat} {m : Quality} {st : Standing}
    (unique : ∀ c2 f2 m2 st2, Entry.offer tag c2 f2 m2 st2 ∈ v.entries → f = f2 ∧ m = m2 ∧ st = st2)
    (mem : Entry.offer tag cls f m st ∈ v.entries) :
    candidateOn v l tag cls = some { lane := l, first := f, standing := st, quality := m } := by
  rcases h : candidateOn v l tag cls with _ | c
  · have absent := List.findSome?_eq_none_iff.mp h _ mem
    simp at absent
  · obtain ⟨lane, here⟩ := candidateOn_some h
    obtain ⟨rfl, rfl, rfl⟩ := unique _ _ _ _ here
    exact congrArg some (lane ▸ rfl)

theorem mem_candidates : c ∈ candidates s tag cls ↔
    s.lanes[c.lane].state = .aligned ∧ candidateOn s.view[c.lane] c.lane tag cls = some c := by
  constructor
  · intro mem
    obtain ⟨l, -, hl⟩ := List.mem_filterMap.mp mem
    split at hl
    · obtain ⟨rfl, -⟩ := candidateOn_some hl
      exact ⟨‹_›, hl⟩
    · exact nomatch hl
  · rintro ⟨aligned, found⟩
    exact List.mem_filterMap.mpr ⟨c.lane, List.mem_finRange _, (if_pos aligned).trans found⟩

/-! ### Evaluation (R82 to R86, R89) -/

theorem choose_some (k : Sink) (best : bestOf cs = some b) :
    k.choose cs = { k with sel := some b, wtr := 0, switches := min 65535 (k.switches + 1) } := by
  unfold Sink.choose
  rw [best]
  rfl

theorem choose_nil (k : Sink) : k.choose [] = if k.sel.isSome then { k with sel := none, wtr := 0 } else k := rfl

theorem evaluate_free (free : k.sel = none) : k.evaluate cs hold = k.choose cs := by
  unfold Sink.evaluate
  rw [free]

theorem evaluate_lost (sel : k.sel = some o) (lost : ∀ c ∈ cs, c.lane ≠ o.lane) : k.evaluate cs hold = k.choose cs := by
  unfold Sink.evaluate
  rw [sel]
  dsimp only
  rw [List.find?_eq_none.mpr fun c hc => by simp [lost c hc]]

theorem evaluate_offered (sel : k.sel = some o) (offered : cs.find? (·.lane = o.lane) = some cur) :
    k.evaluate cs hold = k.keep cs cur hold := by
  unfold Sink.evaluate
  rw [sel]
  dsimp only
  rw [offered]

theorem restoreCondition_iff {w : Nat} : restoreCondition w b cur = true ↔
    1 ≤ w ∧ b.standing = .primary ∧ cur.standing = .standby ∧ b.quality = cur.quality := by
  simp only [restoreCondition, Bool.and_eq_true, decide_eq_true_iff, and_assoc]

theorem keep_better (best : bestOf cs = some b) (better : b.quality.rank < cur.quality.rank) (free : hold = false) :
    k.keep cs cur hold = { k with sel := some b, wtr := 0, switches := min 65535 (k.switches + 1) } := by
  unfold Sink.keep
  rw [best]
  dsimp only
  rw [if_pos (by rw [decide_eq_true better, free]; rfl)]
  rfl

theorem keep_stays (best : bestOf cs = some b) (stays : ¬ (b.quality.rank < cur.quality.rank ∧ hold = false)) :
    k.keep cs cur hold = { k with
      sel := some cur
      wtr := if (1 ≤ k.w ∧ b.standing = .primary ∧ cur.standing = .standby ∧ b.quality = cur.quality) ∨ hold = true
        then k.wtr else 0 } := by
  unfold Sink.keep
  rw [best]
  dsimp only
  rw [if_neg fun both => stays (by simpa using both)]
  by_cases kept : (1 ≤ k.w ∧ b.standing = .primary ∧ cur.standing = .standby ∧ b.quality = cur.quality) ∨ hold = true
  · rw [if_pos kept, if_pos (by rw [Bool.or_eq_true, restoreCondition_iff]; exact kept)]
  · rw [if_neg kept, if_neg (by rw [Bool.or_eq_true, restoreCondition_iff]; exact kept)]

/-! ### Wait-to-restore (R85, R87, R88) -/

theorem wtrStep_still (still : k.sel = none ∨ hold = true) : k.wtrStep cs hold = k := by
  refine if_pos ?_
  rcases still with sel | held
  · rw [sel]
    rfl
  · rw [held, Bool.or_true]

theorem restoring_eq (sel : k.sel = some o) (offered : cs.find? (·.lane = o.lane) = some cur) (best : bestOf cs = some b) :
    k.restoring cs = restoreCondition k.w b cur := by
  unfold Sink.restoring
  rw [sel]
  dsimp only
  rw [offered, best]

theorem wtrStep_eq (sel : k.sel = some o) (free : hold = false) : k.wtrStep cs hold = if k.restoring cs then
    if k.wtr + 1 = k.w then { k with wtr := k.wtr + 1 }.choose cs else { k with wtr := k.wtr + 1 } else { k with wtr := 0 } := by
  refine if_neg ?_
  rw [sel, free]
  exact nofun

theorem wtrStep_tag (k : Sink) (cs : List Selection) (hold : Bool) : (k.wtrStep cs hold).tag = k.tag :=
  (Walk.wtrStep_keeps k cs hold).tag

/-- A sink order after a change of every record that keeps the tags. -/
theorem findSink_map {st : OrderStore} {f : Sink → Sink} (keeps : ∀ k, (f k).tag = k.tag) (tag : Nat) :
    findSink { st with sinks := st.sinks.map f } tag = (findSink st tag).map f := by
  unfold findSink
  rw [List.find?_map]
  congr 2
  funext k
  exact congrArg (decide <| · = tag) (keeps k)

/-- The engine with the WTR step taken for every sink. -/
def waited (s : State) : State := { leaving (s.tx.due.filter (· ≠ .wtr)) s with
  store := { s.store with sinks := s.store.sinks.map fun k => k.wtrStep (candidates s k.tag k.cls) s.pins.hold } }

theorem finish_takeWork_wtr (due : RoundWork.wtr ∈ s.tx.due) : finish s (takeWork s .wtr) = finish s (waited s) :=
  finish_takeWork (w := .wtr) nofun due

theorem exec_wtrExpiry_idle (idle : RoundWork.wtr ∉ s.tx.due ∨ s.pins.hold = true) : exec (.wtrExpiry tag) s = .next s := by
  change Host.Outcome.next (match findSink s.store tag with | none => _ | some k => _) = _
  rcases findSink s.store tag with _ | k
  · rfl
  · refine congrArg _ (if_neg fun all => ?_)
    simp only [Bool.and_eq_true, List.contains_iff_mem, Sink.wtrExpires, Bool.not_eq_true'] at all
    obtain ⟨⟨-, due⟩, ⟨⟨-, free⟩, -⟩, -⟩ := all
    rcases idle with h | h
    · exact h due
    · exact Bool.false_ne_true (free.symm.trans h)

theorem exec_wtrExpiry (running : s.station.state ≠ .cold) (found : findSink s.store tag = some k)
    (within : s.tx.boundary = false) (due : RoundWork.wtr ∈ s.tx.due)
    (expires : k.wtrExpires (candidates s k.tag k.cls) s.pins.hold = true) :
    exec (.wtrExpiry tag) s = .next (finish s (waited s)) := by
  change Host.Outcome.next (match findSink s.store tag with | none => _ | some k => _) = _
  rw [found]
  have all : (Machine.running s && !s.tx.boundary && s.tx.due.contains .wtr &&
      k.wtrExpires (candidates s k.tag k.cls) s.pins.hold) = true := by
    rw [expires, Arrival.running_iff.mpr running, within, List.contains_iff_mem.mpr due]
    rfl
  dsimp only
  rw [if_pos all, finish_takeWork_wtr due]

end Sys2Proof.Selecting
end

section
/-! PROOFS. The source table under evaluations, span ends and departures, but for the entry numbers of the queue (R65, R67,
R105, R121, R122). -/

namespace Sys2Proof.Tables

open Sys2Proof.Machine Sys2Proof.Safety Sys2Proof.Evaluations

variable {s t u : State} {tag : Nat} {r e : Source}

/-- The source records but for their entry numbers. -/
def table (s : State) : List Source := s.store.sources.map unnumbered

/-- The visible record of a tag in a table. -/
def visibleIn (rs : List Source) (tag : Nat) : Option Source := rs.find? fun r => decide (r.tag = tag) && !r.removed

theorem visibleIn_table (s : State) (tag : Nat) :
    visibleIn (table s) tag = (visibleSource s.store tag).map unnumbered := List.find?_map ..

theorem visible_of_table {rs : List Source} (h : table s = rs) (tag : Nat) :
    (visibleSource s.store tag).map unnumbered = visibleIn rs tag := by
  rw [← h, visibleIn_table]

theorem table_tags (s : State) : (table s).map (·.tag) = s.store.sources.map (·.tag) := List.map_map

theorem table_update {f : Source → Source} (free : ∀ e, unnumbered (f e) = f (unnumbered e)) (tag : Nat) (s : State) :
    table (updateSource tag f s) = (table s).map fun e => if e.tag = tag then f e else e := by
  unfold table updateSource
  rw [List.map_map, List.map_map]
  refine List.map_congr_left fun e _ => ?_
  dsimp only [Function.comp]
  rw [show (unnumbered e).tag = e.tag from rfl]
  by_cases here : e.tag = tag
  · rw [if_pos here, if_pos here, free]
  · rw [if_neg here, if_neg here]

theorem table_rewritten {q : Source} : table (rewritten tag q s) =
    (table s).map fun e => if e.tag = tag then unnumbered q else e := by
  unfold table rewritten
  rw [List.map_map, List.map_map]
  refine List.map_congr_left fun e _ => ?_
  dsimp only [Function.comp]
  rw [show (unnumbered e).tag = e.tag from rfl]
  by_cases here : e.tag = tag
  · rw [if_pos here, if_pos here]
  · rw [if_neg here, if_neg here]

/-! ### Evaluation (R65) -/

theorem table_enqueue {q : Source} (same : q.tag = tag) :
    table (enqueue tag (rewritten tag q s)) = table (rewritten tag { q with state := .queued } s) := by
  have entered : ∀ n, updateSource tag (fun r => { r with state := .queued, entryNo := some n }) (rewritten tag q s) =
      rewritten tag { q with state := .queued, entryNo := some n } s := fun n =>
    updateSource_twice (fun r => { r with state := .queued, entryNo := some n }) same
  have plain : ∀ n, table (rewritten tag { q with state := .queued, entryNo := some n } s) =
      table (rewritten tag { q with state := .queued } s) := fun n => by
    rw [table_rewritten, table_rewritten]
    rfl
  unfold enqueue
  dsimp only
  rw [entered]
  split
  · refine Eq.trans ?_ (plain (rewritten tag q s).store.queueCounter)
    unfold table renumber
    rw [List.map_map]
    refine List.map_congr_left fun e _ => ?_
    dsimp only [Function.comp]
    split <;> rfl
  · exact plain _

theorem table_dequeue {q : Source} (same : q.tag = tag) :
    table (dequeue tag (rewritten tag q s)) = table (rewritten tag { q with state := .dormant } s) := by
  rw [dequeue_rewritten same]
  refine (table_rewritten (q := { q with state := .dormant, entryNo := none })).trans ?_
  rw [table_rewritten]
  rfl

/-- What an evaluation of `tag` makes of a record (R65). -/
def evaluatedAt (view : Vector LaneView 9) (tag : Nat) (e : Source) : Source :=
  if e.tag = tag ∧ e.removed = false then evaluated view e else e

theorem evaluated_unnumbered (view : Vector LaneView 9) (e : Source) :
    unnumbered (evaluated view e) = evaluated view (unnumbered e) := rfl

/-- An evaluation as it writes the table. -/
theorem table_evalSource (tags : (s.store.sources.map (·.tag)).Nodup) (tag : Nat) :
    table (evalSource tag s) = (table s).map (evaluatedAt s.view tag) := by
  rcases hr : visibleSource s.store tag with _ | r
  · have same : evalSource tag s = s := by
      unfold evalSource
      rw [hr]
    have hidden : ∀ e ∈ table s, evaluatedAt s.view tag e = e := fun e he => by
      obtain ⟨e, mem, rfl⟩ := List.mem_map.mp he
      refine if_neg fun both => ?_
      have := List.find?_eq_none.mp hr e mem
      simp [show e.tag = tag from both.1, show e.removed = false from both.2] at this
    rw [same, List.map_congr_left hidden, List.map_id']
  · obtain ⟨mem, rfl, visible⟩ := visibleSource_some hr
    have one : ∀ q, unnumbered q = evaluated s.view (unnumbered r) →
        table (rewritten r.tag q s) = (table s).map (evaluatedAt s.view r.tag) := fun q hq => by
      rw [table_rewritten]
      refine List.map_congr_left fun e he => ?_
      obtain ⟨e, mem', rfl⟩ := List.mem_map.mp he
      rw [show (unnumbered e).tag = e.tag from rfl]
      by_cases here : e.tag = r.tag
      · obtain rfl := List.inj_on_of_nodup_map tags mem' mem here
        rw [if_pos here, hq]
        exact (if_pos ⟨here, visible⟩).symm
      · rw [if_neg here]
        exact (if_neg fun both => here both.1).symm
    rw [evalSource_state tags hr]
    rcases state : r.state with _ | _ | _ | _ <;> rcases wanted : isWanted s.view r with _ | _
    · exact one _ (by rw [← evaluated_unnumbered]; simp [evaluated, judged, unnumbered, state, wanted])
    · exact (table_enqueue (q := judged s.view r) rfl).trans (one _ (by
        rw [← evaluated_unnumbered]; simp [evaluated, judged, unnumbered, state, wanted]))
    · exact (table_dequeue (q := judged s.view r) rfl).trans (one _ (by
        rw [← evaluated_unnumbered]; simp [evaluated, judged, unnumbered, state, wanted]))
    · exact one _ (by rw [← evaluated_unnumbered]; simp [evaluated, judged, unnumbered, state, wanted])
    · exact one _ (by rw [← evaluated_unnumbered]; simp [evaluated, judged, unnumbered, state, wanted])
    · exact one _ (by rw [← evaluated_unnumbered]; simp [evaluated, judged, unnumbered, state, wanted])
    · exact one _ (by rw [← evaluated_unnumbered]; simp [evaluated, judged, unnumbered, state])
    · exact one _ (by rw [← evaluated_unnumbered]; simp [evaluated, judged, unnumbered, state])

theorem evaluatedAt_tag (view : Vector LaneView 9) (tag : Nat) (e : Source) : (evaluatedAt view tag e).tag = e.tag := by
  unfold evaluatedAt
  split <;> rfl

theorem evaluatedAt_removed (view : Vector LaneView 9) (tag : Nat) (e : Source) :
    (evaluatedAt view tag e).removed = e.removed := by
  unfold evaluatedAt
  split <;> rfl

theorem tags_of_table {g : Source → Source} (keeps : ∀ e, (g e).tag = e.tag) (h : table t = (table s).map g) :
    t.store.sources.map (·.tag) = s.store.sources.map (·.tag) := by
  rw [← table_tags, ← table_tags, h, List.map_map]
  exact List.map_congr_left fun e _ => keeps e

/-- Sources of distinct tags are each evaluated once. -/
theorem table_evalSources (order : List Nat) (distinct : order.Nodup) (tags : (s.store.sources.map (·.tag)).Nodup) :
    table (order.foldl (fun s tag => evalSource tag s) s) = (table s).map fun e =>
      if e.tag ∈ order ∧ e.removed = false then evaluated s.view e else e := by
  induction order generalizing s with
  | nil => simp
  | cons tag order ih =>
    obtain ⟨fresh, distinct⟩ := List.nodup_cons.mp distinct
    have once := table_evalSource tags tag
    have tags' : ((evalSource tag s).store.sources.map (·.tag)).Nodup := by
      rwa [tags_of_table (evaluatedAt_tag s.view tag) once]
    rw [List.foldl_cons, ih distinct tags', once, List.map_map, evalSource_onlyStore tag s]
    refine List.map_congr_left fun e _ => ?_
    dsimp only [Function.comp]
    rw [evaluatedAt_tag, evaluatedAt_removed]
    unfold evaluatedAt
    by_cases here : e.tag = tag
    · simp [here, fresh]
    · simp [here]

/-- A notice of a manifest's change as it writes the table: it evaluates exactly the visible sources whose tags stand in the old
or the new manifest (R59). -/
theorem table_noticePlacement (tags : (s.store.sources.map (·.tag)).Nodup) (old new : Option Manifest) :
    table (noticePlacement old new s) = (table s).map fun e =>
      if e.removed = false ∧ (e.tag ∈ manifestTags old ∨ e.tag ∈ manifestTags new) then evaluated s.view e else e := by
  unfold noticePlacement
  have kept : ((s.store.sources.filter fun r => !r.removed && (decide (r.tag ∈ manifestTags old) || decide (r.tag ∈ manifestTags new))).map
      (·.tag)).Nodup := tags.sublist (List.filter_sublist.map _)
  refine (table_evalSources _ ((List.perm_insertionSort _ _).nodup_iff.mpr kept) tags).trans (List.map_congr_left fun e he => ?_)
  obtain ⟨e, mem, rfl⟩ := List.mem_map.mp he
  have member : e.tag ∈ evalOrder s.store ((s.store.sources.filter fun r =>
      !r.removed && (decide (r.tag ∈ manifestTags old) || decide (r.tag ∈ manifestTags new))).map (·.tag)) ↔
      e.removed = false ∧ (e.tag ∈ manifestTags old ∨ e.tag ∈ manifestTags new) := by
    refine (List.perm_insertionSort _ _).mem_iff.trans ?_
    constructor
    · intro h
      obtain ⟨q, hq, same⟩ := List.mem_map.mp h
      obtain ⟨mem', touched⟩ := List.mem_filter.mp hq
      obtain rfl := List.inj_on_of_nodup_map tags mem' mem same
      simpa using touched
    · rintro ⟨visible, touched⟩
      exact List.mem_map.mpr ⟨e, List.mem_filter.mpr ⟨mem, by simpa [visible] using touched⟩, rfl⟩
  by_cases touched : e.removed = false ∧ (e.tag ∈ manifestTags old ∨ e.tag ∈ manifestTags new)
  · exact (if_pos ⟨member.mpr touched, touched.1⟩).trans (if_pos touched).symm
  · exact (if_neg fun both => touched (member.mp both.1)).trans (if_neg touched).symm

/-! ### What the departures of a boundary make of a source record -/

/-- A source record before and after the departures and span ends of a boundary. -/
structure Departs (r q : Source) : Prop where
  keeps : q = { r with
    state := q.state, mismatch := q.mismatch, releaseCount := q.releaseCount, faultCount := q.faultCount, latch := q.latch }
  offered : q.state = .offered ↔ r.state = .offered
  latched : r.latch = true → q.latch = true
  quiet : r.latch = true ∨ r.action ≠ .withdraw →
    q.state = r.state ∧ q.mismatch = r.mismatch ∧ q.releaseCount = r.releaseCount

theorem Departs.refl (r : Source) : Departs r r := ⟨rfl, .rfl, id, fun _ => ⟨rfl, rfl, rfl⟩⟩

theorem Departs.action {q : Source} (h : Departs r q) : q.action = r.action := by rw [h.keeps]

theorem Departs.tag_eq {q : Source} (h : Departs r q) : q.tag = r.tag := by rw [h.keeps]

theorem Departs.removed {q : Source} (h : Departs r q) : q.removed = r.removed := by rw [h.keeps]

theorem Departs.trans {p q : Source} (h : Departs r q) (g : Departs q p) : Departs r p where
  keeps := by
    refine g.keeps.trans ?_
    rw [h.keeps]
  offered := g.offered.trans h.offered
  latched := fun l => g.latched (h.latched l)
  quiet := fun c => by
    obtain ⟨state, mismatch, count⟩ := h.quiet c
    have c' : q.latch = true ∨ q.action ≠ .withdraw := c.imp h.latched (h.action ▸ ·)
    obtain ⟨state', mismatch', count'⟩ := g.quiet c'
    exact ⟨state'.trans state, mismatch'.trans mismatch, count'.trans count⟩

/-- What a span end of a source makes of its record (R66, R121, R122). -/
def healed (view : Vector LaneView 9) (d : Detections) (e : Source) : Source :=
  let q := { e with faultCount := nextFaultCount d e.faultCount, latch := e.latch || latches d e }
  if latches d e = true ∧ e.action = .withdraw then evaluated view q else q

theorem departs_healed (view : Vector LaneView 9) (d : Detections) (e : Source) : Departs e (healed view d e) := by
  unfold healed
  by_cases latching : latches d e = true ∧ e.action = .withdraw
  · dsimp only
    rw [if_pos latching]
    have unlatched : e.latch = false := by
      have h := latching.1
      simp only [latches, Bool.and_eq_true, Bool.not_eq_true'] at h
      exact h.1
    refine ⟨rfl, ?_, fun l => absurd l (by simp [unlatched]), fun c => ?_⟩
    · rcases state : e.state with _ | _ | _ | _ <;> simp [evaluated]
      · split <;> nofun
      · split <;> nofun
    · rcases c with l | a
      · exact absurd l (by simp [unlatched])
      · exact absurd latching.2 a
  · dsimp only
    rw [if_neg latching]
    exact ⟨rfl, .rfl, fun l => by simp [l], fun _ => ⟨rfl, rfl, rfl⟩⟩

/-- A span end as it writes the table. -/
theorem table_healthSource (tags : (s.store.sources.map (·.tag)).Nodup) (d : Detections) : table (healthSource tag d s) =
    (table s).map fun e => if e.tag = tag ∧ e.removed = false then healed s.view d e else e := by
  unfold healthSource
  rcases hr : visibleSource s.store tag with _ | r
  · refine (List.map_id' _).symm.trans (List.map_congr_left fun e he => ?_)
    obtain ⟨e, mem, rfl⟩ := List.mem_map.mp he
    refine (if_neg fun both => ?_).symm
    have := List.find?_eq_none.mp hr e mem
    simp [show e.tag = tag from both.1, show e.removed = false from both.2] at this
  · obtain ⟨mem, rfl, visible⟩ := visibleSource_some hr
    have only : ∀ e ∈ table s, e.tag = r.tag → e = unnumbered r := fun e he same => by
      obtain ⟨e, mem', rfl⟩ := List.mem_map.mp he
      rw [List.inj_on_of_nodup_map tags mem' mem same]
    have counted := table_update (f := fun r : Source =>
      { r with faultCount := nextFaultCount d r.faultCount, latch := r.latch || latches d r }) (by intro; rfl) r.tag s
    dsimp only
    by_cases latching : (latches d r && decide (r.action = .withdraw)) = true
    · have both : latches d r = true ∧ r.action = .withdraw := by simpa using latching
      rw [if_pos latching, table_evalSource (by rwa [tags_of_table (fun e => by split <;> rfl) counted]), counted, List.map_map]
      refine List.map_congr_left fun e he => ?_
      dsimp only [Function.comp]
      by_cases here : e.tag = r.tag
      · obtain rfl := only e he here
        rw [if_pos here, if_pos ⟨here, visible⟩]
        exact (if_pos ⟨here, visible⟩).trans (if_pos both).symm
      · rw [if_neg here, if_neg fun h => here h.1]
        exact if_neg fun h => here h.1
    · have not : ¬ (latches d r = true ∧ r.action = .withdraw) := by simpa using latching
      rw [if_neg latching, counted]
      refine List.map_congr_left fun e he => ?_
      by_cases here : e.tag = r.tag
      · obtain rfl := only e he here
        rw [if_pos here, if_pos ⟨here, visible⟩]
        exact (if_neg not).symm
      · rw [if_neg here, if_neg fun h => here h.1]

/-- The source table after departures and span ends. -/
def Departed (s t : State) : Prop := ∃ g : Source → Source, (∀ e, Departs e (g e)) ∧ table t = (table s).map g

theorem Departed.of_sources (h : t.store.sources = s.store.sources) : Departed s t :=
  ⟨id, .refl, by rw [List.map_id]; exact congrArg (List.map unnumbered) h⟩

theorem Departed.refl (s : State) : Departed s s := .of_sources rfl

theorem Departed.trans (h : Departed s t) (g : Departed t u) : Departed s u := by
  obtain ⟨f, hf, tf⟩ := h
  obtain ⟨k, hk, tk⟩ := g
  exact ⟨k ∘ f, fun e => (hf e).trans (hk (f e)), by rw [tk, tf, List.map_map]⟩

theorem Departed.tags (h : Departed s t) : t.store.sources.map (·.tag) = s.store.sources.map (·.tag) := by
  obtain ⟨g, departs, written⟩ := h
  exact tags_of_table (fun e => (departs e).tag_eq) written

/-- The visible record of a table written record by record. -/
theorem visible_mapped {g : Source → Source} (keeps : ∀ e, (g e).tag = e.tag ∧ (g e).removed = e.removed)
    (written : table t = (table s).map g) (hr : visibleSource s.store tag = some r) :
    ∃ q, visibleSource t.store tag = some q ∧ unnumbered q = g (unnumbered r) := by
  have found := visible_of_table written tag
  have alike : ((fun r : Source => decide (r.tag = tag) && !r.removed) ∘ g) = fun r => decide (r.tag = tag) && !r.removed := by
    funext e
    simp only [Function.comp, (keeps e).1, (keeps e).2]
  have image : visibleIn ((table s).map g) tag = some (g (unnumbered r)) := by
    unfold visibleIn
    rw [List.find?_map, alike, show (table s).find? _ = visibleIn (table s) tag from rfl, visibleIn_table, hr]
    rfl
  rw [image] at found
  exact Option.map_eq_some_iff.mp found

/-- The visible record after departures. -/
theorem Departed.visible (h : Departed s t) (hr : visibleSource s.store tag = some r) :
    ∃ q, visibleSource t.store tag = some q ∧ Departs (unnumbered r) (unnumbered q) := by
  obtain ⟨g, departs, written⟩ := h
  obtain ⟨q, hq, same⟩ := visible_mapped (fun e => ⟨(departs e).tag_eq, (departs e).removed⟩) written hr
  exact ⟨q, hq, same ▸ departs _⟩

theorem departed_health (tags : (s.store.sources.map (·.tag)).Nodup) (a : Adapter) (d : Detections) :
    Departed s (healthOf a d s) := by
  have source : Departed s (healthSource a.tag d s) :=
    ⟨_, fun e => by
      split
      · exact departs_healed s.view d e
      · exact .refl e, table_healthSource tags d⟩
  unfold healthOf
  split
  · exact .of_sources rfl
  · exact source

theorem departed_spanEnd (tags : (s.store.sources.map (·.tag)).Nodup) (n : Fin 96) : Departed s (spanEndOf n s) := by
  unfold spanEndOf
  split
  · exact .refl s
  · rename_i a _
    split
    · exact .refl s
    · rename_i e _
      refine .trans ?_ (.of_sources (congrArg OrderStore.sources (noted_store _ _)))
      exact (Departed.of_sources rfl).trans (departed_health (s := setAdapter n (some (a.endSpan e)) s) tags a _)

theorem noteQuality_store (s : State) (tag : Nat) : (noteQuality s tag).store = s.store := by
  unfold noteQuality
  split <;> rfl

theorem departed_departSource (spans : List (Fin 96)) (acc : State × List HandOver)
    (tags : (acc.1.store.sources.map (·.tag)).Nodup) (tag : Nat) : Departed acc.1 (departSource spans acc tag).1 := by
  unfold departSource
  split
  · exact .refl _
  · rename_i n _
    have ended := departed_spanEnd tags n
    dsimp only
    split
    · rename_i a _ _ _
      have left : Departed acc.1 (noteQuality (setAdapter n (some a.depart.adapter) (spanEndOf n acc.1)) tag) :=
        ended.trans (.of_sources (by rw [noteQuality_store]; rfl))
      dsimp only
      split
      · exact left
      · exact left.trans (departed_spanEnd (left.tags ▸ tags) n)
    · exact ended

theorem departed_sourceDepartures (spans : List (Fin 96)) (tags : (s.store.sources.map (·.tag)).Nodup) :
    Departed s (sourceDepartures spans s).1 := by
  have all : ∀ (order : List Nat) (acc : State × List HandOver), (acc.1.store.sources.map (·.tag)).Nodup →
      Departed acc.1 (order.foldl (departSource spans) acc).1 := by
    intro order
    induction order with
    | nil => exact fun acc _ => .refl acc.1
    | cons tag order ih =>
      intro acc tags
      have first := departed_departSource spans acc tags tag
      exact first.trans (ih _ (first.tags ▸ tags))
  exact all _ (s, []) tags

end Sys2Proof.Tables
end

section
/-! PROOFS. An evaluation by the source's state and the notices of a manifest's change (R59, R61, R64, R65). -/

namespace Sys2Proof.Tables

open Sys2Proof.Machine Sys2Proof.Safety Sys2Proof.Evaluations

variable {s t u : State} {tag : Nat} {r : Source} {wanted : Bool}

theorem isWanted_eq {view : Vector LaneView 9} (h : wanted = true ↔
    wantStands view r.tag r.cls = true ∧ ¬ (r.latch = true ∧ r.action = .withdraw)) : isWanted view r = wanted :=
  Bool.eq_iff_iff.mpr (Pass.isWanted_iff.trans h.symm)

/-! ### What an evaluation leaves -/

/-- From `s` to `t` nothing moved but source records and the placement queue. -/
def OnlySources (s t : State) : Prop := t = { s with store := { s.store with
  sources := t.store.sources, queue := t.store.queue, queueCounter := t.store.queueCounter } }

theorem OnlySources.refl (s : State) : OnlySources s s := rfl

theorem OnlySources.trans (h : OnlySources s t) (g : OnlySources t u) : OnlySources s u := by
  unfold OnlySources at *
  rw [g, h]

theorem onlySources_enqueue (tag : Nat) (s : State) : OnlySources s (enqueue tag s) := by
  unfold enqueue
  dsimp only
  split <;> rfl

theorem onlySources_evalSource (tag : Nat) (s : State) : OnlySources s (evalSource tag s) := by
  unfold evalSource
  split
  · rfl
  · dsimp only
    split
    · exact OnlySources.trans (t := updateSource tag _ s) rfl (onlySources_enqueue tag _)
    · rfl
    · rfl
    · rfl

theorem onlySources_noticePlacement (old new : Option Manifest) (s : State) : OnlySources s (noticePlacement old new s) := by
  unfold noticePlacement
  exact List.foldlRecOn (motive := OnlySources s) _ _ (.refl s) fun _ h tag _ => h.trans (onlySources_evalSource tag _)

/-- An evaluation by the source's state (R65). -/
theorem evaluation_by_state (tile : TileLaw s) (hr : visibleSource s.store tag = some r)
    (hw : wanted = true ↔ wantStands s.view r.tag r.cls = true ∧ ¬ (r.latch = true ∧ r.action = .withdraw))
    (ht : t = rewritten tag (judged s.view r) s) :
    (r.state = .dormant → evalSource tag s = if wanted then enqueue tag t else t) ∧
    (r.state = .queued → evalSource tag s = if wanted then t else dequeue tag t) ∧
    (r.state = .offered → evalSource tag s = if wanted then rewritten tag { judged s.view r with releaseCount := 0 } s else t) ∧
    (r.state = .retiring → evalSource tag s = t) := by
  obtain rfl := isWanted_eq hw
  subst ht
  exact ⟨evalSource_dormant tile.tags hr, evalSource_queued tile.tags hr, evalSource_offered tile.tags hr,
    evalSource_retiring tile.tags hr⟩

/-- A notice keeps the first law and evaluates each touched source once (R59). -/
theorem notice_evaluates (tile : TileLaw s) (old new : Option Manifest) :
    TileLaw (noticePlacement old new s) ∧ OnlySources s (noticePlacement old new s) ∧
      table (noticePlacement old new s) = (table s).map fun e =>
        if e.removed = false ∧ (e.tag ∈ manifestTags old ∨ e.tag ∈ manifestTags new) then evaluated s.view e else e :=
  ⟨Placement.placementLaw_none_iff.mp (Placement.noticePlacement_placementLaw old new (Placement.placementLaw_none_iff.mpr tile)),
    onlySources_noticePlacement old new s, table_noticePlacement tile.tags old new⟩

end Sys2Proof.Tables
end

section
/-! PROOFS. The boundary of an own frame: departures, the frame with its reads, and the notices of the own header, each with what
it leaves (R23, R42, R62, R93 to R98, R105). -/

namespace Sys2Proof.Boundary

open Sys2Proof.Machine Sys2Proof.Safety Sys2Proof.Tables Sys2Proof.Frames Sys2Proof.Works Sys2Proof.Notices

variable {s t u : State} {spans : List (Fin 96)} {leave : List RoundWork} {f : Nat}

/-! ### What departures, deliveries and notices leave of the order store -/

/-- From `s` to `t` the order store changed in its records, the queue and the pool alone. -/
def OnlyTables (s t : State) : Prop := t.store = { s.store with
  sources := t.store.sources, sinks := t.store.sinks, queue := t.store.queue, queueCounter := t.store.queueCounter
  pool := t.store.pool }

theorem OnlyTables.refl (s : State) : OnlyTables s s := rfl

theorem OnlyTables.trans (h : OnlyTables s t) (g : OnlyTables t u) : OnlyTables s u := by
  unfold OnlyTables at *
  rw [g, h]

theorem OnlyTables.of_store (h : t.store = s.store) : OnlyTables s t := by
  unfold OnlyTables
  rw [h]

theorem OnlyTables.of_sources (h : OnlySources s t) : OnlyTables s t := by
  unfold OnlyTables
  rw [h]

theorem OnlyTables.foldl {α β : Type} {step : β → α → β} {state : β → State} (h : ∀ b a, OnlyTables (state b) (state (step b a)))
    (as : List α) (b : β) : OnlyTables (state b) (state (as.foldl step b)) := by
  induction as generalizing b with
  | nil => exact .refl _
  | cons a as ih => exact (h b a).trans (ih _)

theorem onlyTables_health (a : Adapter) (d : Detections) (s : State) : OnlyTables s (healthOf a d s) := by
  have source : OnlyTables s (healthSource a.tag d s) := by
    unfold healthSource
    split
    · rfl
    · dsimp only
      split
      · refine OnlyTables.trans (t := updateSource a.tag _ s) rfl (.of_sources (onlySources_evalSource a.tag _))
      · rfl
  unfold healthOf
  split
  · rfl
  · exact source

theorem onlyTables_spanEnd (n : Fin 96) (s : State) : OnlyTables s (spanEndOf n s) := by
  unfold spanEndOf
  split
  · rfl
  · rename_i a _
    split
    · rfl
    · rename_i e _
      exact ((OnlyTables.refl s).trans (onlyTables_health a _ (setAdapter n (some (a.endSpan e)) s))).trans
        (.of_store (noted_store _ _))

theorem onlyTables_departSource (spans : List (Fin 96)) (acc : State × List HandOver) (tag : Nat) :
    OnlyTables acc.1 (departSource spans acc tag).1 := by
  unfold departSource
  split
  · rfl
  · rename_i n _
    have ended := onlyTables_spanEnd n acc.1
    dsimp only
    split
    · rename_i a _ _ _
      have left : OnlyTables acc.1 (noteQuality (setAdapter n (some a.depart.adapter) (spanEndOf n acc.1)) tag) :=
        (ended.trans (t := spanEndOf n acc.1) (u := setAdapter n (some a.depart.adapter) (spanEndOf n acc.1)) rfl).trans
          (.of_store (noteQuality_store _ tag))
      split
      · exact left
      · exact left.trans (onlyTables_spanEnd n _)
    · exact ended

theorem onlyTables_sourceDepartures (spans : List (Fin 96)) (s : State) : OnlyTables s (sourceDepartures spans s).1 :=
  OnlyTables.foldl (state := Prod.fst) (onlyTables_departSource spans) _ (s, [])

theorem onlyTables_arrive (n : Fin 96) (blocks : List Block) (s : State) : OnlyTables s (arriveAt n blocks s) := by
  unfold arriveAt
  split <;> rfl

theorem onlyTables_deliver (s : State) (e : Sink × Option (Quality × List Block)) : OnlyTables s (deliver s e) := by
  unfold deliver
  dsimp only
  split
  · exact OnlyTables.trans (t := updateSink e.1.tag (·.afterRead e.2) s) rfl (onlyTables_arrive _ _ _)
  · rfl

theorem onlyTables_noticeSelector (old new : Option Manifest) (s : State) : OnlyTables s (noticeSelector old new s) := by
  unfold noticeSelector
  exact OnlyTables.foldl (state := id) (step := evalSink true) (fun _ _ => rfl) _ s

theorem onlyTables_setView (l : Fin 9) (v : LaneView) (arrived : Bool) (s : State) : OnlyTables s (setView l v arrived s) := by
  unfold setView
  dsimp only
  split
  · exact OnlyTables.trans (t := noticePlacement s.view[l].manifest v.manifest { s with view := s.view.set l v })
      (OnlyTables.of_sources (s := { s with view := s.view.set l v }) (onlySources_noticePlacement _ _ _))
      (onlyTables_noticeSelector _ _ _)
  · rfl

/-! ### The sinks at the departures of the sources -/

theorem sinks_of_onlySources (h : OnlySources s t) : t.store.sinks = s.store.sinks := by rw [h]

/-- From `s` to `t` the sink orders changed in their fault counts alone. -/
def SinksDeparted (s t : State) : Prop := ∃ g : Sink → Sink,
  (∀ k, g k = { k with faultCount := (g k).faultCount }) ∧ t.store.sinks = s.store.sinks.map g

theorem SinksDeparted.of_sinks (h : t.store.sinks = s.store.sinks) : SinksDeparted s t :=
  ⟨id, fun _ => rfl, h.trans (List.map_id _).symm⟩

theorem SinksDeparted.trans (h : SinksDeparted s t) (k : SinksDeparted t u) : SinksDeparted s u := by
  obtain ⟨f, hf, tf⟩ := h
  obtain ⟨g, hg, tg⟩ := k
  refine ⟨g ∘ f, fun k => ?_, by rw [tg, tf, List.map_map]⟩
  rw [Function.comp, hg, hf]

theorem sinksDeparted_health (a : Adapter) (d : Detections) (s : State) : SinksDeparted s (healthOf a d s) := by
  have source : (healthSource a.tag d s).store.sinks = s.store.sinks := by
    unfold healthSource
    split
    · rfl
    · dsimp only
      split
      · exact sinks_of_onlySources (onlySources_evalSource a.tag _)
      · rfl
  unfold healthOf
  split
  · exact ⟨fun k => if k.tag = a.tag then { k with faultCount := nextFaultCount d k.faultCount } else k,
      fun k => by dsimp only; split <;> rfl, rfl⟩
  · exact .of_sinks source

theorem sinksDeparted_spanEnd (n : Fin 96) (s : State) : SinksDeparted s (spanEndOf n s) := by
  unfold spanEndOf
  split
  · exact .of_sinks rfl
  · rename_i a _
    split
    · exact .of_sinks rfl
    · rename_i e _
      refine (sinksDeparted_health a (a.outcome e) (setAdapter n (some (a.endSpan e)) s)).trans (.of_sinks ?_)
      rw [noted_store]

theorem sinksDeparted_departSource (spans : List (Fin 96)) (acc : State × List HandOver) (tag : Nat) :
    SinksDeparted acc.1 (departSource spans acc tag).1 := by
  unfold departSource
  split
  · exact .of_sinks rfl
  · rename_i n _
    have ended := sinksDeparted_spanEnd n acc.1
    dsimp only
    split
    · rename_i a _ _ _
      have left : SinksDeparted acc.1 (noteQuality (setAdapter n (some a.depart.adapter) (spanEndOf n acc.1)) tag) :=
        ended.trans (.of_sinks (by rw [noteQuality_store]; rfl))
      split
      · exact left
      · exact left.trans (sinksDeparted_spanEnd n _)
    · exact ended

theorem sinksDeparted_sourceDepartures (spans : List (Fin 96)) (s : State) : SinksDeparted s (sourceDepartures spans s).1 :=
  List.foldlRecOn (motive := fun acc : State × List HandOver => SinksDeparted s acc.1) _ _ (.of_sinks rfl)
    fun acc h tag _ => h.trans (sinksDeparted_departSource spans acc tag)

/-! ### The parts of a boundary at which no pass and no snapshot is due -/

/-- The engine when the sources have departed (R105). -/
def departed (spans : List (Fin 96)) (s : State) : State := noted (beginFrame s) (sourceDepartures spans (beginFrame s)).1

/-- The tile groups that the departures fill (R26). -/
def sentGroups (spans : List (Fin 96)) (s : State) : List Group :=
  (sourceDepartures spans (beginFrame s)).2.filterMap (·.group (departed spans s).store)

/-- The engine when the own frame's header has been heard back. -/
def framed (spans : List (Fin 96)) (s : State) : State := frameBody (sentGroups spans s) (departed spans s)

theorem departed_eq (spans : List (Fin 96)) (s : State) : departed spans s =
    { beginFrame s with store := (departed spans s).store, report := (departed spans s).report } := by
  exact (sourceDepartures_onlyOrders spans (beginFrame s)).trans (noted_onlyOrders _ _)

theorem departed_store (spans : List (Fin 96)) (s : State) :
    (departed spans s).store = (sourceDepartures spans (beginFrame s)).1.store := noted_store _ _

theorem takeDue_snapshot_idle (pass : .pass ∉ s.tx.due) (snapshot : .snapshot ∉ s.tx.due) : takeWork s .snapshot = s := by
  unfold takeWork
  rw [if_pos rfl, takeDue_idle pass, takeDue_idle snapshot]

/-- The engine before the frame begins: a round start still to come, and the pass unless it is left (R68, R76). -/
def roundTaken (leave : List RoundWork) (s : State) : State :=
  let s := if s.tx.boundary then s else s.tx.due.foldl takeWork s
  let s := if s.tx.frame = 15 ∧ s.tx.boundary = false then roundStart (boundaryOrder leave) s else s
  if .pass ∈ leave then s else takeWork s .pass

/-- The frame with the hand-overs `hs`, and the works that are taken after it. -/
def frameFrom (leave : List RoundWork) (hs : List HandOver) (d : State) : State :=
  let b := frameBody (hs.filterMap (·.group d.store)) d
  (b.tx.due.filter (· ∉ leave)).foldl takeWork b

theorem frameStart_eq (leave : List RoundWork) (spans : List (Fin 96)) (s : State) : frameStart leave spans s =
    frameFrom leave (sourceDepartures spans (beginFrame (roundTaken leave s))).2
      (takeWork (departed spans (roundTaken leave s)) .snapshot) := by
  unfold frameStart roundTaken frameFrom departed
  dsimp only

theorem roundTaken_quiet (begun : s.tx.boundary = true ∨ (s.tx.frame ≠ 15 ∧ s.tx.due = [])) (pass : .pass ∉ s.tx.due)
    (leave : List RoundWork) : roundTaken leave s = s := by
  have here : (if s.tx.boundary then s else s.tx.due.foldl takeWork s) = s := by
    rcases begun with h | ⟨-, h⟩
    · rw [h]
      rfl
    · rw [h]
      exact ite_self _
  have within : (if s.tx.frame = 15 ∧ s.tx.boundary = false then roundStart (boundaryOrder leave) s else s) = s := by
    refine if_neg fun both => ?_
    rcases begun with h | ⟨h, -⟩
    · exact Bool.false_ne_true (both.2.symm.trans h)
    · exact h both.1
  unfold roundTaken
  dsimp only
  rw [here, within, takeWork_idle (w := .pass) nofun pass, ite_self]

/-- The boundary without a round start of its own, where neither pass nor snapshot is due. -/
theorem frameStart_framed (begun : s.tx.boundary = true ∨ (s.tx.frame ≠ 15 ∧ s.tx.due = [])) (pass : .pass ∉ s.tx.due)
    (snapshot : .snapshot ∉ s.tx.due) (leave : List RoundWork) (spans : List (Fin 96)) : frameStart leave spans s =
      ((framed spans s).tx.due.filter (· ∉ leave)).foldl takeWork (framed spans s) := by
  have due : (departed spans s).tx.due = s.tx.due := by rw [departed_eq]; rfl
  rw [frameStart_eq, roundTaken_quiet begun pass, takeDue_snapshot_idle (by rw [due]; exact pass) (by rw [due]; exact snapshot)]
  unfold frameFrom framed sentGroups
  dsimp only

theorem exec_ownFrameStart (running : s.station.state ≠ .cold) (leave : List RoundWork) (spans : List (Fin 96)) :
    exec (.ownFrameStart leave spans) s = .next (finish s (frameStart leave spans s)) :=
  congrArg Host.Outcome.next (if_pos (Arrival.running_iff.mpr running))

/-! ### The engine after its own frame, field by field -/

theorem readOut_eq (groups : List Group) (d : State) : readOut groups d = { d with
    tx := { d.tx with snapshot := snapshotSent d }
    store := (readOut groups d).store
    lanes := d.lanes.set d.station.number (ownLane groups d)
    pins := { d.pins with
      laneOut := some (frameSent groups d)
      carrierOut := carriersSent (heardBack groups d)
      clientOut := clientsStart (heardBack groups d) } } := by
  have read := readAndDeliver_eq (heardBack groups d)
  refine read.trans ?_
  exact congrArg (fun h : State => { h with
    store := (readOut groups d).store
    pins := { h.pins with carrierOut := carriersSent (heardBack groups d), clientOut := clientsStart (heardBack groups d) } })
      (heardBack_eq groups d)

theorem readOut_view (groups : List Group) (d : State) : (readOut groups d).view = d.view :=
  (congrArg State.view (readOut_eq groups d)).trans rfl

theorem departed_view (spans : List (Fin 96)) (s : State) : (departed spans s).view = s.view :=
  (congrArg State.view (departed_eq spans s)).trans rfl

theorem departed_station (spans : List (Fin 96)) (s : State) : (departed spans s).station = s.station :=
  (congrArg State.station (departed_eq spans s)).trans rfl

theorem framed_def (spans : List (Fin 96)) (s : State) :
    framed spans s = frameBody (sentGroups spans s) (departed spans s) := rfl

theorem framed_eq (spans : List (Fin 96)) (s : State) : framed spans s = { beginFrame s with
    tx := { (beginFrame s).tx with snapshot := snapshotSent (departed spans s) }
    store := (framed spans s).store
    lanes := (beginFrame s).lanes.set s.station.number (ownLane (sentGroups spans s) (departed spans s))
    view := s.view.set s.station.number (ownRecord (departed spans s).lanes[(departed spans s).station.number].heard
      (readOut (sentGroups spans s) (departed spans s))).1
    report := (framed spans s).report
    pins := { s.pins with
      laneOut := some (frameSent (sentGroups spans s) (departed spans s))
      carrierOut := carriersSent (heardBack (sentGroups spans s) (departed spans s))
      clientOut := clientsStart (heardBack (sentGroups spans s) (departed spans s)) } } := by
  have body := frameBody_eq (sentGroups spans s) (departed spans s)
  rw [← framed_def, readOut_view, departed_view] at body
  generalize (loopbackHeader (departed spans s).lanes[(departed spans s).station.number].heard
      (readOut (sentGroups spans s) (departed spans s))).store = st at body
  have store : (framed spans s).store = st := (congrArg State.store body).trans rfl
  subst store
  refine body.trans ?_
  generalize (framed spans s).store = st, (framed spans s).report = rp,
    (ownRecord (departed spans s).lanes[(departed spans s).station.number].heard
      (readOut (sentGroups spans s) (departed spans s))).1 = rec
  rw [readOut_eq]
  generalize ownLane (sentGroups spans s) (departed spans s) = lane, frameSent (sentGroups spans s) (departed spans s) = sent,
    carriersSent (heardBack (sentGroups spans s) (departed spans s)) = cs,
    clientsStart (heardBack (sentGroups spans s) (departed spans s)) = cl, snapshotSent (departed spans s) = sn
  rw [departed_eq]
  rfl

end Sys2Proof.Boundary
end

section
/-! PROOFS. The boundary of an own frame within a round, or at frame 0 with the WTR step due: what it comes to. -/

namespace Sys2Proof.Boundary

open Sys2Proof.Machine Sys2Proof.Safety Sys2Proof.Tables Sys2Proof.Frames Sys2Proof.Works Sys2Proof.Notices Sys2Proof.Selecting

variable {s t u : State} {spans : List (Fin 96)} {leave : List RoundWork} {f : Nat}

theorem framed_due (spans : List (Fin 96)) (s : State) : (framed spans s).tx.due = s.tx.due :=
  (congrArg (fun u : State => u.tx.due) (framed_eq spans s)).trans rfl

theorem plain_running (plain : PlainBoundary f s) : s.station.state ≠ .cold := plain.1

theorem plain_place (plain : PlainBoundary f s) : nextFrag s.tx.frame = f := by
  unfold nextFrag
  rcases plain.2 with ⟨low, rfl, -⟩ | ⟨last, rfl, -⟩
  · exact if_pos low
  · rw [last]
    rfl

/-- A plain boundary takes the frame, and the WTR step if it is due and not left. -/
theorem exec_plain (plain : PlainBoundary f s) (leave : List RoundWork) (spans : List (Fin 96)) :
    exec (.ownFrameStart leave spans) s =
      .next (finish s (((framed spans s).tx.due.filter (· ∉ leave)).foldl takeWork (framed spans s))) := by
  rw [exec_ownFrameStart plain.1]
  rcases plain.2 with ⟨low, -, -, due⟩ | ⟨-, -, begun, due⟩
  · rw [frameStart_framed (.inr ⟨by omega, due⟩) (by simp [due]) (by simp [due])]
  · rw [frameStart_framed (.inl begun) (by simp [due]) (by simp [due])]

/-- The frame alone: nothing is due, or the WTR step is left. -/
theorem exec_plain_alone (plain : PlainBoundary f s) (alone : leave = [.wtr] ∨ f ≠ 0) :
    exec (.ownFrameStart leave spans) s = .next (finish s (framed spans s)) := by
  have none : s.tx.due.filter (· ∉ leave) = [] := by
    rcases plain.2 with ⟨low, -, -, due⟩ | ⟨-, first, begun, due⟩
    · rw [due]
      rfl
    · rw [due]
      rcases alone with rfl | later
      · rfl
      · exact absurd first later
  rw [exec_plain plain, framed_due, none, List.foldl_nil]

theorem unleft : [RoundWork.wtr].filter (· ∉ ([] : List RoundWork)) = [.wtr] := rfl

/-- At frame 0 the WTR step that is due and not left follows the frame. -/
theorem exec_plain_wtr (plain : PlainBoundary 0 s) : exec (.ownFrameStart [] spans) s =
    .next (finish s (takeWork (framed spans s) .wtr)) := by
  rcases plain.2 with ⟨-, first, -⟩ | ⟨-, -, begun, due⟩
  · exact absurd first (by omega)
  · rw [exec_plain plain, framed_due, due, unleft, List.foldl_cons, List.foldl_nil]

/-- The WTR step after the frame, with the comparison it brings. -/
theorem takeWork_wtr (b : State) (due : b.tx.due = [.wtr]) : takeWork b .wtr = { b with
    tx := { b.tx with due := [] }
    store := { b.store with sinks := b.store.sinks.map fun k => k.wtrStep (candidates b k.tag k.cls) b.pins.hold }
    report := (takeWork b .wtr).report } := by
  rw [takeWork_due (w := .wtr) nofun (by rw [due]; exact List.mem_singleton_self _), due]
  exact noted_report _ _

theorem finish_report (s t : State) : finish s t = { t with report := (finish s t).report } := by
  have compared := noted_report s t
  exact congrArg (fun u : State => { u with report := (finish s t).report }) compared

/-- What a plain boundary leaves, but for its report: the frame, and the sinks after a WTR step that is due and not left. -/
structure Ended (leave : List RoundWork) (f : Nat) (b t : State) : Prop where
  rest : t = { b with tx := { b.tx with due := t.tx.due }, store := { b.store with sinks := t.store.sinks }, report := t.report }
  due : leave = [] → t.tx.due = []
  sinks : t.store.sinks = b.store.sinks ∨
    t.store.sinks = b.store.sinks.map fun k => k.wtrStep (candidates b k.tag k.cls) b.pins.hold
  alone : leave = [.wtr] ∨ f ≠ 0 → t.store.sinks = b.store.sinks

theorem ended_alone {b : State} (due : leave = [] → b.tx.due = []) (t : State) : Ended leave f b (finish t b) := by
  have store := finish_store t b
  have tx := finish_tx t b
  refine ⟨?_, fun l => by rw [tx]; exact due l, .inl (by rw [store]), fun _ => by rw [store]⟩
  rw [store, tx]
  exact finish_report t b

theorem ended_wtr {b : State} (due : b.tx.due = [.wtr]) (t : State) : Ended [] 0 b (finish t (takeWork b .wtr)) := by
  have work := takeWork_wtr b due
  generalize takeWork b .wtr = w at work ⊢
  have sinks : (finish t w).store.sinks = b.store.sinks.map fun k => k.wtrStep (candidates b k.tag k.cls) b.pins.hold := by
    rw [finish_store, work]
  have left : (finish t w).tx.due = [] := by rw [finish_tx, work]
  refine ⟨?_, fun _ => left, .inr sinks, fun alone => ?_⟩
  · rw [sinks, left]
    refine (finish_report t w).trans ?_
    exact congrArg (fun u : State => { u with report := (finish t w).report }) work
  · rcases alone with h | h
    · exact nomatch h
    · exact absurd rfl h

theorem plain_ended (plain : PlainBoundary f s) (usual : leave = [] ∨ leave = [.wtr])
    (h : exec (.ownFrameStart leave spans) s = .next t) : Ended leave f (framed spans s) t := by
  by_cases alone : leave = [.wtr] ∨ f ≠ 0
  · rw [exec_plain_alone plain alone] at h
    obtain rfl := Host.Outcome.next.inj h
    refine ended_alone (fun l => ?_) s
    rcases plain.2 with ⟨-, -, -, due⟩ | ⟨-, first, -, -⟩
    · rw [framed_due, due]
    · rcases alone with w | later
      · exact nomatch l.symm.trans w
      · exact absurd first later
  · obtain ⟨unleft, zero⟩ := not_or.mp alone
    obtain rfl := of_not_not zero
    obtain rfl := usual.resolve_right unleft
    rw [exec_plain_wtr plain] at h
    obtain rfl := Host.Outcome.next.inj h
    refine ended_wtr ?_ s
    rcases plain.2 with ⟨-, first, -⟩ | ⟨-, -, -, due⟩
    · exact absurd first (by omega)
    · rw [framed_due, due]

/-- The engine with the WTR step taken, against the engine without it. -/
theorem wtr_after {b w : State} (hu : u = { b with report := u.report }) (hw : w = { b with
      tx := { b.tx with due := [] }
      store := { b.store with sinks := b.store.sinks.map fun k => k.wtrStep (candidates b k.tag k.cls) b.pins.hold }
      report := w.report }) (ht : t = { w with report := t.report }) : t = { u with
    tx := { u.tx with due := [] }
    store := { u.store with sinks := u.store.sinks.map fun k => k.wtrStep (candidates u k.tag k.cls) u.pins.hold }
    report := t.report } := by
  generalize u.report = r at hu
  generalize w.report = q at hw
  subst hu hw
  exact ht

/-- Settles O49. -/
theorem waitToRestoreCountsAndReverts : Obligations.WaitToRestoreCountsAndReverts := by
  refine ⟨fun k cs hold => ⟨wtrStep_still, fun o cur b sel free offered best => ⟨fun w primary standby quality => ?_,
    fun unmet => ?_⟩⟩, ?_, fun tag s => exec_wtrExpiry_idle, ?_⟩
  · have restoring : k.restoring cs = true := by
      rw [restoring_eq sel offered best]
      exact restoreCondition_iff.mpr ⟨w, primary, standby, quality⟩
    refine ⟨fun short => ?_, fun full => ?_⟩
    · rw [wtrStep_eq sel free, if_pos restoring, if_neg short]
    · rw [wtrStep_eq sel free, if_pos restoring, if_pos full, choose_some _ best]
  · have not : ¬ k.restoring cs = true := by
      rw [restoring_eq sel offered best, restoreCondition_iff]
      exact unmet
    rw [wtrStep_eq sel free, if_neg not]
  · intro tag s k o cur b running table found within due free sel offered best w primary standby quality full
    have restoring : k.restoring (candidates s k.tag k.cls) = true := by
      rw [restoring_eq sel offered best]
      exact restoreCondition_iff.mpr ⟨w, primary, standby, quality⟩
    have expires : k.wtrExpires (candidates s k.tag k.cls) s.pins.hold = true := by
      unfold Sink.wtrExpires
      rw [restoring, sel, free, decide_eq_true full]
      rfl
    refine ⟨_, exec_wtrExpiry running found within due expires, ?_, rfl, exec_wtrExpiry_idle (.inl ?_)⟩
    · rw [finish_store]
      refine (findSink_map (st := s.store) (fun k => wtrStep_tag k (candidates s k.tag k.cls) s.pins.hold) tag).trans ?_
      rw [found, Option.map_some, wtrStep_eq sel free, if_pos restoring, if_pos full, choose_some _ best]
    · rw [finish_tx]
      exact fun mem => absurd rfl (of_decide_eq_true (List.mem_filter.mp mem).2)
  · intro spans s running begun due
    have due' := (framed_due spans s).trans due
    have frame : ∀ leave, exec (.ownFrameStart leave spans) s =
        .next (finish s (([RoundWork.wtr].filter (· ∉ leave)).foldl takeWork (framed spans s))) := fun leave => by
      rw [exec_ownFrameStart running, frameStart_framed (.inl begun) (by simp [due]) (by simp [due]), due']
    have left : [RoundWork.wtr].filter (· ∉ [RoundWork.wtr]) = [] := rfl
    have with_step := frame []
    have without := frame [.wtr]
    rw [unleft, List.foldl_cons, List.foldl_nil] at with_step
    rw [left, List.foldl_nil] at without
    refine ⟨_, _, without, with_step, wtr_after (finish_report s _)
      (takeWork_wtr (framed spans s) due') (finish_report s _)⟩

end Sys2Proof.Boundary
end

section
/-! PROOFS. The orders at the notices of the own lane's record (R59, R62): O31, O46. -/

namespace Sys2Proof.Boundary

open Sys2Proof.Machine Sys2Proof.Safety Sys2Proof.Tables Sys2Proof.Frames Sys2Proof.Works Sys2Proof.Notices Sys2Proof.Selecting
open Sys2Proof.Evaluations

variable {s t u : State} {spans : List (Fin 96)} {leave : List RoundWork} {f : Nat} {me : Fin 9} {r : Source} {k : Sink}

/-! ### The own record's notices -/

/-- The engine whose orders take the notices of the own record: its view is in place. -/
def viewed (spans : List (Fin 96)) (s : State) : State :=
  { readOut (sentGroups spans s) (departed spans s) with view := (framed spans s).view }

theorem framed_view (spans : List (Fin 96)) (s : State) : (framed spans s).view = s.view.set s.station.number
    (ownRecord (departed spans s).lanes[(departed spans s).station.number].heard (readOut (sentGroups spans s) (departed spans s))).1 :=
  congrArg State.view (framed_eq spans s)

/-- The header of the own frame (R24). -/
def header (spans : List (Fin 96)) (s : State) : Heard := ownHeard (sentFrom (departed spans s))

theorem departed_lanes (spans : List (Fin 96)) (s : State) : (departed spans s).lanes = (beginFrame s).lanes :=
  (congrArg State.lanes (departed_eq spans s)).trans rfl

theorem beginFrame_ownLane (s : State) : (beginFrame s).lanes[s.station.number] = s.lanes[s.station.number] := by
  refine (Vector.getElem_mapIdx ..).trans ?_
  exact if_pos rfl

theorem old_heard (spans : List (Fin 96)) (s : State) :
    (departed spans s).lanes[(departed spans s).station.number].heard = s.lanes[s.station.number].heard := by
  simp only [departed_lanes, departed_station, beginFrame_ownLane]

theorem framed_heard (spans : List (Fin 96)) (s : State) :
    (framed spans s).lanes[s.station.number].heard = some (header spans s) := by
  have lanes : (framed spans s).lanes = _ := (congrArg State.lanes (framed_eq spans s)).trans rfl
  rw [lanes]
  exact congrArg LaneRx.heard (Vector.getElem_set_self _)

theorem readOut_heard (groups : List Group) (d : State) : ownHeard (readOut groups d) = ownHeard (sentFrom d) := by
  rw [readOut_eq]
  rfl

theorem readOut_tx (groups : List Group) (d : State) : (readOut groups d).tx = { d.tx with snapshot := snapshotSent d } :=
  (congrArg State.tx (readOut_eq groups d)).trans rfl

theorem departed_tx (spans : List (Fin 96)) (s : State) : (departed spans s).tx = (beginFrame s).tx :=
  (congrArg State.tx (departed_eq spans s)).trans rfl

theorem framed_tx (spans : List (Fin 96)) (s : State) :
    (framed spans s).tx = { (beginFrame s).tx with snapshot := snapshotSent (departed spans s) } :=
  (congrArg State.tx (framed_eq spans s)).trans rfl

theorem ownRecord_framed (spans : List (Fin 96)) (s : State) :
    ownRecord (departed spans s).lanes[(departed spans s).station.number].heard (readOut (sentGroups spans s) (departed spans s)) =
      s.view[s.station.number].header (header spans s) (fragmentSlots (framed spans s).tx.snapshot (framed spans s).tx.frame)
        (epochChanged s.lanes[s.station.number].heard (header spans s).epoch) := by
  have tx : (readOut (sentGroups spans s) (departed spans s)).tx = (framed spans s).tx := by
    rw [framed_tx, readOut_tx, departed_tx]
  have station : (readOut (sentGroups spans s) (departed spans s)).station = s.station := by
    rw [readOut_eq]
    exact departed_station spans s
  have view : (readOut (sentGroups spans s) (departed spans s)).view = s.view :=
    (readOut_view _ _).trans (departed_view spans s)
  have epoch : (header spans s).epoch = s.station.epoch := congrArg Station.epoch (departed_station spans s)
  unfold ownRecord
  simp only [old_heard, readOut_heard, tx, station, view, epoch]
  rfl

/-- Whether the own header sent notices, as `ownNotice` says (R62). -/
theorem ownNotice_framed (spans : List (Fin 96)) (s : State) : ownNotice s (framed spans s) =
    ((ownRecord (departed spans s).lanes[(departed spans s).station.number].heard
      (readOut (sentGroups spans s) (departed spans s))).2 ||
      (s.view[s.station.number].manifest.isSome && (framed spans s).view[s.station.number].manifest.isNone)) := by
  unfold ownNotice
  dsimp only
  rw [framed_heard, ownRecord_framed]

/-- The orders after the own header: the notices of its record, when there are any, upon the orders of the reads. -/
theorem framed_store (spans : List (Fin 96)) (s : State) : (framed spans s).store =
    (if ownNotice s (framed spans s) then
      notify s.view[s.station.number].manifest (framed spans s).view[s.station.number].manifest (viewed spans s)
    else viewed spans s).store := by
  have seen : (framed spans s).store = (loopbackHeader (departed spans s).lanes[(departed spans s).station.number].heard
      (readOut (sentGroups spans s) (departed spans s))).store :=
    (frameBody_seen (sentGroups spans s) (departed spans s)).store
  have station : (readOut (sentGroups spans s) (departed spans s)).station = s.station := by
    rw [readOut_eq]
    exact departed_station spans s
  have view : (readOut (sentGroups spans s) (departed spans s)).view = s.view :=
    (readOut_view _ _).trans (departed_view spans s)
  have record : (framed spans s).view[s.station.number] = (ownRecord (departed spans s).lanes[(departed spans s).station.number].heard
      (readOut (sentGroups spans s) (departed spans s))).1 := by
    rw [framed_view]
    exact Vector.getElem_set_self _
  rw [seen, loopbackHeader_eq, ownNotice_framed]
  unfold setView viewed
  simp only [station, view, record]
  rw [framed_view]

/-! ### The sinks at the reads of the frame (R94, R96, R98) -/

theorem arriveAt_sinks (n : Fin 96) (blocks : List Block) (s : State) : (arriveAt n blocks s).store.sinks = s.store.sinks := by
  unfold arriveAt
  split <;> rfl

theorem deliver_sinks (s : State) (e : Sink × Option (Quality × List Block)) : (deliver s e).store.sinks =
    s.store.sinks.map fun k => if k.tag = e.1.tag then k.afterRead e.2 else k := by
  unfold deliver
  dsimp only
  split
  · exact arriveAt_sinks _ _ _
  · rfl

theorem afterRead_tag (k : Sink) (read : Option (Quality × List Block)) : (k.afterRead read).tag = k.tag :=
  (Walk.afterRead_keeps read k).tag

/-- A sink record after the reads of `ks`: its own, if it is among them. -/
def readAmong (read : Sink → Option (Quality × List Block)) (ks : List Sink) (x : Sink) : Sink :=
  (ks.find? fun k => k.tag = x.tag).elim x fun k => x.afterRead (read k)

theorem readAmong_none {read : Sink → Option (Quality × List Block)} {ks : List Sink} {x : Sink} (absent : ∀ k ∈ ks, k.tag ≠ x.tag) :
    readAmong read ks x = x := by
  unfold readAmong
  rw [List.find?_eq_none.mpr fun k hk same => absent k hk (of_decide_eq_true same)]
  rfl

theorem readAmong_self {read : Sink → Option (Quality × List Block)} {ks : List Sink} {x : Sink} (distinct : (ks.map (·.tag)).Nodup)
    (mem : k ∈ ks) (same : k.tag = x.tag) : readAmong read ks x = x.afterRead (read k) := by
  unfold readAmong
  obtain ⟨j, found⟩ := Option.isSome_iff_exists.mp
    (List.find?_isSome (p := fun j : Sink => j.tag = x.tag).mpr ⟨k, mem, decide_eq_true same⟩)
  have tag : j.tag = x.tag := of_decide_eq_true (List.find?_some (p := fun j : Sink => j.tag = x.tag) found)
  obtain rfl := List.inj_on_of_nodup_map distinct (List.mem_of_find?_eq_some found) mem (tag.trans same.symm)
  rw [found]
  rfl

/-- Sinks of distinct tags take their reads each once. -/
theorem foldl_deliver_sinks (read : Sink → Option (Quality × List Block)) (ks : List Sink) (distinct : (ks.map (·.tag)).Nodup)
    (s : State) : ((ks.map fun k => (k, read k)).foldl deliver s).store.sinks = s.store.sinks.map (readAmong read ks) := by
  induction ks generalizing s with
  | nil => exact (List.map_id' _).symm
  | cons k ks ih =>
    have whole := distinct
    obtain ⟨fresh, distinct⟩ := List.nodup_cons.mp distinct
    rw [List.map_cons, List.foldl_cons, ih distinct, deliver_sinks, List.map_map]
    refine List.map_congr_left fun x _ => ?_
    dsimp only [Function.comp]
    by_cases here : x.tag = k.tag
    · rw [if_pos here, readAmong_self whole List.mem_cons_self here.symm]
      exact readAmong_none fun j hj same => fresh (List.mem_map.mpr ⟨j, hj, same.trans ((afterRead_tag x _).trans here)⟩)
    · rw [if_neg here]
      unfold readAmong
      rw [List.find?_cons_of_neg (p := fun j : Sink => j.tag = x.tag)
        (by rw [decide_eq_false fun same => here same.symm]; exact Bool.false_ne_true)]

theorem readAndDeliver_sinks (distinct : (s.store.sinks.map (·.tag)).Nodup) :
    (readAndDeliver s).store.sinks = s.store.sinks.map fun k => k.afterRead (sinkRead s.lanes k) := by
  have store : (readAndDeliver s).store = ((reads s).foldl deliver s).store := (congrArg State.store (readAndDeliver_eq s)).trans rfl
  rw [store, reads, foldl_deliver_sinks (sinkRead s.lanes) _ distinct]
  exact List.map_congr_left fun k hk => readAmong_self distinct hk rfl

/-- What the departures and the reads make of a sink record: its fault count, its delivered mark and its slips move. -/
structure SinkServed (k j : Sink) : Prop where
  keeps : j = { k with faultCount := j.faultCount, delivered := j.delivered, slips := j.slips }

theorem afterRead_served (k : Sink) (read : Option (Quality × List Block)) : SinkServed k (k.afterRead read) := by
  unfold Sink.afterRead
  split <;> exact ⟨rfl⟩

theorem departed_sinks (spans : List (Fin 96)) (s : State) : SinksDeparted s (departed spans s) := by
  obtain ⟨g, keeps, sinks⟩ := sinksDeparted_sourceDepartures spans (beginFrame s)
  exact ⟨g, keeps, by rw [departed_store]; exact sinks⟩

theorem SinksDeparted.tags {u : State} (h : SinksDeparted s u) : u.store.sinks.map (·.tag) = s.store.sinks.map (·.tag) := by
  obtain ⟨g, keeps, sinks⟩ := h
  rw [sinks, List.map_map]
  exact List.map_congr_left fun k _ => by rw [Function.comp, keeps]

theorem heardBack_store (groups : List Group) (d : State) : (heardBack groups d).store = d.store :=
  (congrArg State.store (heardBack_eq groups d)).trans rfl

theorem heardBack_lanes (spans : List (Fin 96)) (s : State) :
    (heardBack (sentGroups spans s) (departed spans s)).lanes = (framed spans s).lanes := by
  have lanes : (framed spans s).lanes = _ := (congrArg State.lanes (framed_eq spans s)).trans rfl
  have back : (heardBack (sentGroups spans s) (departed spans s)).lanes = (departed spans s).lanes.set
    (departed spans s).station.number (ownLane (sentGroups spans s) (departed spans s)) :=
      (congrArg State.lanes (heardBack_eq _ _)).trans rfl
  rw [lanes, back]
  simp only [departed_lanes, departed_station]

theorem readOut_sinks (distinct : (s.store.sinks.map (·.tag)).Nodup) (spans : List (Fin 96)) :
    (readOut (sentGroups spans s) (departed spans s)).store.sinks =
      (departed spans s).store.sinks.map fun k => k.afterRead (sinkRead (framed spans s).lanes k) := by
  have distinct' : ((heardBack (sentGroups spans s) (departed spans s)).store.sinks.map (·.tag)).Nodup := by
    rw [heardBack_store, (departed_sinks spans s).tags]
    exact distinct
  have read := readAndDeliver_sinks distinct'
  rwa [heardBack_store, heardBack_lanes] at read

/-! ### The sinks at the own notice (R59, R62, R81) -/

theorem choose_served (k : Sink) (cs : List Selection) (a : Nat) (b : Quality) (c : Nat) :
    ({ k with faultCount := a, delivered := b, slips := c } : Sink).choose cs =
      { k.choose cs with faultCount := a, delivered := b, slips := c } := by
  unfold Sink.choose
  rcases bestOf cs with _ | best
  · dsimp only
    split <;> rfl
  · rfl

theorem keep_served (k : Sink) (cs : List Selection) (cur : Selection) (hold : Bool) (a : Nat) (b : Quality) (c : Nat) :
    ({ k with faultCount := a, delivered := b, slips := c } : Sink).keep cs cur hold =
      { k.keep cs cur hold with faultCount := a, delivered := b, slips := c } := by
  unfold Sink.keep
  rcases bestOf cs with _ | best
  · rfl
  · dsimp only
    split
    · rfl
    · split <;> rfl

/-- An evaluation does not see what the departures and reads move. -/
theorem evaluate_served (k : Sink) (cs : List Selection) (hold : Bool) (a : Nat) (b : Quality) (c : Nat) :
    ({ k with faultCount := a, delivered := b, slips := c } : Sink).evaluate cs hold =
      { k.evaluate cs hold with faultCount := a, delivered := b, slips := c } := by
  rcases Option.eq_none_or_eq_some k.sel with sel | ⟨o, sel⟩
  · rw [evaluate_free sel, ← choose_served]
    exact evaluate_free sel
  · rcases found : cs.find? fun x => decide (x.lane = o.lane) with _ | cur
    · have lost : ∀ x ∈ cs, x.lane ≠ o.lane := fun x hx same => List.find?_eq_none.mp found x hx (decide_eq_true same)
      rw [evaluate_lost sel lost, ← choose_served]
      exact evaluate_lost sel lost
    · rw [evaluate_offered sel found, ← keep_served]
      exact evaluate_offered sel found

theorem notify_sinks (distinct : (u.store.sinks.map (·.tag)).Nodup) (old new : Option Manifest) : (notify old new u).store.sinks =
    u.store.sinks.map fun k => if k.tag ∈ manifestTags old ∨ k.tag ∈ manifestTags new then judgedSink u k else k := by
  have sinks := noticePlacement_sinks old new u
  have only : OnlySources u (noticePlacement old new u) := onlySources_noticePlacement old new u
  have same : judgedSink (noticePlacement old new u) = judgedSink u := by
    rw [only]
    rfl
  unfold notify
  rw [noticeSelector_eq (by rw [sinks]; exact distinct), same]
  exact congrArg (List.map _) sinks

theorem readOut_lanes (spans : List (Fin 96)) (s : State) :
    (readOut (sentGroups spans s) (departed spans s)).lanes = (framed spans s).lanes := by
  rw [← heardBack_lanes]
  exact (congrArg State.lanes (readAndDeliver_eq _)).trans rfl

theorem framed_hold (spans : List (Fin 96)) (s : State) : (framed spans s).pins.hold = s.pins.hold :=
  (congrArg (fun u : State => u.pins.hold) (framed_eq spans s)).trans rfl

theorem readOut_hold (spans : List (Fin 96)) (s : State) :
    (readOut (sentGroups spans s) (departed spans s)).pins.hold = s.pins.hold :=
  ((congrArg (fun u : State => u.pins.hold) (readOut_eq _ _)).trans rfl).trans
    ((congrArg (fun u : State => u.pins.hold) (departed_eq spans s)).trans rfl)

/-- What the Selector judges its sinks by: lanes, views and HOLD. -/
theorem judgedSink_of {b v : State} (lanes : v.lanes = b.lanes) (view : v.view = b.view) (hold : v.pins.hold = b.pins.hold) :
    judgedSink v = judgedSink b :=
  judgedSink_congr (fun _ => by rw [lanes]) (fun _ _ => by rw [view]) hold

theorem viewed_parts (spans : List (Fin 96)) (s : State) : (viewed spans s).lanes = (framed spans s).lanes ∧
    (viewed spans s).view = (framed spans s).view ∧ (viewed spans s).pins.hold = (framed spans s).pins.hold := by
  have lanes := readOut_lanes spans s
  have hold := (readOut_hold spans s).trans (framed_hold spans s).symm
  unfold viewed
  generalize readOut (sentGroups spans s) (departed spans s) = r at lanes hold ⊢
  generalize (framed spans s).view = view
  exact ⟨lanes, rfl, hold⟩

theorem viewed_judged (spans : List (Fin 96)) (s : State) : judgedSink (viewed spans s) = judgedSink (framed spans s) := by
  obtain ⟨lanes, view, hold⟩ := viewed_parts spans s
  exact judgedSink_of lanes view hold

/-- The sinks after the own frame: departed, read and, where the own notice touches them, judged. -/
theorem framed_sinks (distinct : (s.store.sinks.map (·.tag)).Nodup) (spans : List (Fin 96)) : (framed spans s).store.sinks =
    (readOut (sentGroups spans s) (departed spans s)).store.sinks.map fun k =>
      if ownNotice s (framed spans s) = true ∧ (k.tag ∈ manifestTags s.view[s.station.number].manifest ∨
        k.tag ∈ manifestTags (framed spans s).view[s.station.number].manifest) then judgedSink (framed spans s) k else k := by
  have tags : ((viewed spans s).store.sinks.map (·.tag)).Nodup := by
    change ((readOut (sentGroups spans s) (departed spans s)).store.sinks.map (·.tag)).Nodup
    rw [readOut_sinks distinct, List.map_map]
    refine (List.map_congr_left fun k _ => afterRead_tag k _).symm ▸ ?_
    rw [(departed_sinks spans s).tags]
    exact distinct
  rw [framed_store]
  by_cases noticed : ownNotice s (framed spans s) = true
  · rw [if_pos noticed, notify_sinks tags, viewed_judged]
    refine List.map_congr_left fun k _ => ?_
    simp only [noticed, true_and]
  · rw [if_neg noticed]
    refine (List.map_id' _).symm.trans (List.map_congr_left fun k _ => ?_)
    rw [if_neg fun both => noticed both.1]

theorem findSink_of_mem {st : OrderStore} (distinct : (st.sinks.map (·.tag)).Nodup) (mem : k ∈ st.sinks) :
    findSink st k.tag = some k := by
  rcases h : findSink st k.tag with _ | j
  · have absent := List.find?_eq_none.mp h k mem
    simp at absent
  · obtain ⟨mem', same⟩ := findSink_some h
    exact congrArg some (List.inj_on_of_nodup_map distinct mem' mem same)

theorem findSink_written {st st' : OrderStore} {F : Sink → Sink} (written : st'.sinks = st.sinks.map F)
    (keeps : ∀ k, (F k).tag = k.tag) (distinct : (st.sinks.map (·.tag)).Nodup) (mem : k ∈ st.sinks) :
    findSink st' k.tag = some (F k) := by
  have tags : st'.sinks.map (·.tag) = st.sinks.map (·.tag) := by
    rw [written, List.map_map]
    exact List.map_congr_left fun k _ => keeps k
  have distinct' : (st'.sinks.map (·.tag)).Nodup := tags.symm ▸ distinct
  rw [← keeps k]
  exact findSink_of_mem distinct' (written ▸ List.mem_map_of_mem mem)

theorem sinkRead_count (lanes : Vector LaneRx 9) (k : Sink) (a : Nat) :
    sinkRead lanes { k with faultCount := a } = sinkRead lanes k := rfl

/-- A sink record when its frame has been read: departed, and with the mark and the slips of its read. -/
def servedSink (a : Nat) (t : State) (k : Sink) : Sink :=
  ({ k with faultCount := a } : Sink).afterRead (sinkRead t.lanes k)

theorem servedSink_tag (a : Nat) (t : State) (k : Sink) : (servedSink a t k).tag = k.tag := afterRead_tag _ _

theorem judgedSink_tag (t : State) (k : Sink) : (judgedSink t k).tag = k.tag := by
  unfold judgedSink
  rw [evaluate_keeps]

/-- The record of a sink after the own frame. -/
theorem framed_findSink (distinct : (s.store.sinks.map (·.tag)).Nodup) (spans : List (Fin 96)) (mem : k ∈ s.store.sinks) :
    ∃ a, findSink (framed spans s).store k.tag = some (if ownNotice s (framed spans s) = true ∧
        (k.tag ∈ manifestTags s.view[s.station.number].manifest ∨
          k.tag ∈ manifestTags (framed spans s).view[s.station.number].manifest)
      then judgedSink (framed spans s) (servedSink a (framed spans s) k) else servedSink a (framed spans s) k) := by
  obtain ⟨g, keeps, sinks⟩ := departed_sinks spans s
  refine ⟨(g k).faultCount, ?_⟩
  have written := framed_sinks distinct spans
  rw [readOut_sinks distinct, sinks, List.map_map, List.map_map] at written
  refine (findSink_written written (fun k => ?_) distinct mem).trans ?_
  · dsimp only [Function.comp]
    have tag : ((g k).afterRead (sinkRead (framed spans s).lanes (g k))).tag = k.tag := by rw [afterRead_tag, keeps]
    split
    · rw [judgedSink_tag, tag]
    · exact tag
  · have record : (g k).afterRead (sinkRead (framed spans s).lanes (g k)) = servedSink (g k).faultCount (framed spans s) k := by
      unfold servedSink
      rw [← sinkRead_count _ k (g k).faultCount, ← keeps k]
    simp only [Function.comp, record, servedSink_tag]

theorem Ended.parts {b : State} (h : Ended leave f b t) : t.lanes = b.lanes ∧ t.view = b.view ∧ t.pins = b.pins ∧
    t.tx.snapshot = b.tx.snapshot ∧ t.tx.frame = b.tx.frame :=
  ⟨(congrArg State.lanes h.rest).trans rfl, (congrArg State.view h.rest).trans rfl, (congrArg State.pins h.rest).trans rfl,
    (congrArg (fun u : State => u.tx.snapshot) h.rest).trans rfl, (congrArg (fun u : State => u.tx.frame) h.rest).trans rfl⟩

theorem Ended.ownNotice {b : State} (h : Ended leave f b t) : ownNotice s t = Safety.ownNotice s b := by
  obtain ⟨lanes, view, -, snapshot, frame⟩ := h.parts
  unfold Safety.ownNotice
  rw [lanes, view, snapshot, frame]

theorem Ended.judged {b : State} (h : Ended leave f b t) : judgedSink b = judgedSink t := by
  obtain ⟨lanes, view, pins, -⟩ := h.parts
  exact judgedSink_of lanes.symm view.symm (by rw [pins])

theorem findSink_congr {st st' : OrderStore} (same : st'.sinks = st.sinks) (tag : Nat) : findSink st' tag = findSink st tag := by
  unfold findSink
  rw [same]

theorem servedSink_fields (a : Nat) (b : State) (k : Sink) : ∃ q c, servedSink a b k =
    { k with faultCount := a, delivered := q, slips := c } := by
  unfold servedSink Sink.afterRead
  split <;> exact ⟨_, _, rfl⟩

/-- What a sink holds of selection, count, switches and mismatch, judged with or without what the frame moved. -/
theorem judged_served (t : State) (k : Sink) (a : Nat) (q : Quality) (c : Nat) :
    judgedSink t { k with faultCount := a, delivered := q, slips := c } =
      { judgedSink t k with faultCount := a, delivered := q, slips := c } :=
  evaluate_served { k with mismatch := otherOfferStands t k.tag k.cls } (candidates t k.tag k.cls) t.pins.hold a q c

/-- Settles O31. -/
theorem evaluationSelectsSwitchesOrStays : Obligations.EvaluationSelectsSwitchesOrStays := by
  refine ⟨fun s tag cls unique => ⟨candidates_lanes_nodup s tag cls, fun c => mem_candidates.trans (and_congr_right fun _ => ?_)⟩,
    fun k cs hold => ⟨?_, ?_, ?_, fun o cur b sel offered best => ⟨fun better free => ?_, fun stays => ?_⟩⟩,
    fun old new s table => noticeSelector_eq table.tags old new, ?_⟩
  · constructor
    · exact fun found => (candidateOn_some found).2
    · exact fun mem => candidateOn_of_mem (fun c2 f2 q2 s2 other => (unique c.lane _ _ _ _ _ _ _ _ mem other).2) mem
  · rintro free rfl
    rw [evaluate_free free, choose_nil, free]
    rfl
  · rintro b (free | ⟨o, sel, lost⟩) best
    · rw [evaluate_free free, choose_some k best]
    · rw [evaluate_lost sel lost, choose_some k best]
  · rintro o sel rfl
    rw [evaluate_lost sel (fun _ mem => absurd mem List.not_mem_nil), choose_nil, sel]
    rfl
  · rw [evaluate_offered sel offered, keep_better best better free]
  · rw [evaluate_offered sel offered, keep_stays best stays]
  · intro spans leave f s t k j me plain usual table mem hme run hj
    subst hme
    have choice : leave = [] ∨ leave = [.wtr] := usual.elim .inr fun h => .inl h.2
    have ended := plain_ended plain choice run
    obtain ⟨a, found⟩ := framed_findSink table.tags spans mem
    obtain ⟨q, c, served⟩ := servedSink_fields a (framed spans s) k
    have alone : t.store.sinks = (framed spans s).store.sinks := ended.alone (usual.imp id And.left)
    rw [findSink_congr alone, found, served, ended.judged, ← ended.ownNotice, ← ended.parts.2.1, hj]
    split
    · rw [judged_served]
      rfl
    · rfl

end Sys2Proof.Boundary
end

section
/-! PROOFS. The source orders at the boundary of an own frame (R59, R62, R65): O46. -/

namespace Sys2Proof.Boundary

open Sys2Proof.Machine Sys2Proof.Safety Sys2Proof.Tables Sys2Proof.Frames Sys2Proof.Works Sys2Proof.Notices Sys2Proof.Selecting
open Sys2Proof.Evaluations

variable {s t u : State} {spans : List (Fin 96)} {leave : List RoundWork} {f : Nat} {r : Source} {tag : Nat}

theorem deliver_sources (s : State) (e : Sink × Option (Quality × List Block)) : (deliver s e).store.sources = s.store.sources := by
  unfold deliver arriveAt
  dsimp only
  split
  · split <;> rfl
  · rfl

theorem readOut_sources (groups : List Group) (d : State) : (readOut groups d).store.sources = d.store.sources := by
  have store : (readOut groups d).store = ((reads (heardBack groups d)).foldl deliver (heardBack groups d)).store :=
    (congrArg State.store (readAndDeliver_eq (heardBack groups d))).trans rfl
  have kept : ((reads (heardBack groups d)).foldl deliver (heardBack groups d)).store.sources =
      (heardBack groups d).store.sources :=
    List.foldlRecOn (motive := fun u : State => u.store.sources = (heardBack groups d).store.sources) _ _ rfl
      fun u h e _ => (deliver_sources u e).trans h
  rw [store, kept, heardBack_store]

theorem departed_table (spans : List (Fin 96)) (tags : (s.store.sources.map (·.tag)).Nodup) : Departed s (departed spans s) := by
  have all : Departed s (beginFrame s) := .of_sources rfl
  exact all.trans ((departed_sourceDepartures spans (s := beginFrame s) tags).trans
    (.of_sources (congrArg OrderStore.sources (departed_store spans s))))

theorem viewed_departed (spans : List (Fin 96)) (tags : (s.store.sources.map (·.tag)).Nodup) : Departed s (viewed spans s) := by
  refine (departed_table spans tags).trans (.of_sources ?_)
  exact (readOut_sources (sentGroups spans s) (departed spans s) : _)

theorem evalSink_sources (tags : List Nat) (s : State) : (tags.foldl (evalSink true) s).store.sources = s.store.sources :=
  List.foldlRecOn (motive := fun u : State => u.store.sources = s.store.sources) _ _ rfl fun _ h _ _ => h

theorem notify_table (tags : (u.store.sources.map (·.tag)).Nodup) (old new : Option Manifest) : table (notify old new u) =
    (table u).map fun e =>
      if e.removed = false ∧ (e.tag ∈ manifestTags old ∨ e.tag ∈ manifestTags new) then evaluated u.view e else e := by
  refine Eq.trans ?_ (table_noticePlacement tags old new)
  unfold notify noticeSelector table
  rw [evalSink_sources]

/-- What the own notice makes of a source record. -/
def noticed (s b : State) (e : Source) : Source :=
  if ownNotice s b = true ∧ e.removed = false ∧ (e.tag ∈ manifestTags s.view[s.station.number].manifest ∨
    e.tag ∈ manifestTags b.view[s.station.number].manifest) then evaluated b.view e else e

theorem noticed_keeps (s b : State) (e : Source) : (noticed s b e).tag = e.tag ∧ (noticed s b e).removed = e.removed := by
  unfold noticed
  split <;> exact ⟨rfl, rfl⟩

theorem table_of_store (h : t.store = u.store) : table t = table u := by
  unfold table
  rw [h]

/-- The source table after the own frame: departed and, where the own notice touches it, evaluated. -/
theorem framed_table (tags : (s.store.sources.map (·.tag)).Nodup) (spans : List (Fin 96)) :
    table (framed spans s) = (table (viewed spans s)).map (noticed s (framed spans s)) := by
  have tags' : ((viewed spans s).store.sources.map (·.tag)).Nodup := (viewed_departed spans tags).tags ▸ tags
  rw [table_of_store (framed_store spans s)]
  by_cases h : ownNotice s (framed spans s) = true
  · rw [if_pos h, notify_table tags', (viewed_parts spans s).2.1]
    refine List.map_congr_left fun e _ => ?_
    simp only [noticed, h, true_and]
  · rw [if_neg h]
    refine (List.map_id' _).symm.trans (List.map_congr_left fun e _ => ?_)
    exact (if_neg fun both => h both.1).symm

/-- The visible record of a source after the own frame. -/
theorem framed_visible (tags : (s.store.sources.map (·.tag)).Nodup) (spans : List (Fin 96))
    (hr : visibleSource s.store tag = some r) : ∃ p q, Departs (unnumbered r) p ∧
      visibleSource (framed spans s).store tag = some q ∧ unnumbered q = noticed s (framed spans s) p := by
  obtain ⟨p, hp, departs⟩ := (viewed_departed spans tags).visible hr
  obtain ⟨q, hq, same⟩ := visible_mapped (noticed_keeps s (framed spans s)) (framed_table tags spans) hp
  exact ⟨_, q, departs, hq, same⟩

/-- Departures without a new latch under WITHDRAW leave what an evaluation goes by. -/
theorem wanted_of_departs {p : Source} (h : Departs r p) (quiet : r.latch = true ∨ r.action ≠ .withdraw)
    (view : Vector LaneView 9) : isWanted view p = isWanted view r := by
  have latch : (p.latch && decide (p.action = .withdraw)) = (r.latch && decide (r.action = .withdraw)) := by
    rw [h.action]
    rcases quiet with latched | other
    · rw [latched, h.latched latched]
    · rw [decide_eq_false other, Bool.and_false, Bool.and_false]
  unfold isWanted
  rw [latch, h.keeps]

theorem Ended.sources {b : State} (h : Ended leave f b t) : t.store.sources = b.store.sources :=
  (congrArg (fun u : State => u.store.sources) h.rest).trans rfl

/-- What the own notice makes of a source that the boundary does not latch with WITHDRAW (R62, R65). -/
theorem noticed_fields {b : State} {p : Source} {wanted : Bool} (h : Departs (unnumbered r) p) (visible : r.removed = false)
    (quiet : r.latch = true ∨ r.action ≠ .withdraw) (status : isWanted b.view r = wanted) :
    let q := if ownNotice s b = true ∧ (r.tag ∈ manifestTags s.view[s.station.number].manifest ∨
        r.tag ∈ manifestTags b.view[s.station.number].manifest) then { r with
      mismatch := otherWantStands b.view r.tag r.cls
      state := if r.state = .dormant ∧ wanted = true then .queued
        else if r.state = .queued ∧ wanted = false then .dormant else r.state
      releaseCount := if r.state = .offered ∧ wanted = true then 0 else r.releaseCount } else r
    ((noticed s b p).state, (noticed s b p).mismatch, (noticed s b p).releaseCount) = (q.state, q.mismatch, q.releaseCount) := by
  obtain ⟨state, mismatch, count⟩ := h.quiet quiet
  have tag : p.tag = r.tag := h.tag_eq
  have cls : p.cls = r.cls := by rw [h.keeps]; rfl
  have removed : p.removed = false := h.removed.trans visible
  have wants : isWanted b.view p = wanted := (wanted_of_departs h quiet b.view).trans status
  dsimp only
  unfold noticed
  by_cases touched : ownNotice s b = true ∧ (r.tag ∈ manifestTags s.view[s.station.number].manifest ∨
      r.tag ∈ manifestTags b.view[s.station.number].manifest)
  · rw [if_pos touched, if_pos ⟨touched.1, removed, by rw [tag]; exact touched.2⟩]
    simp only [evaluated, judged, state, count, tag, cls, wants, unnumbered]
  · rw [if_neg touched, if_neg fun both => touched ⟨both.1, by rw [← tag]; exact both.2.2⟩, state, mismatch, count]
    rfl

/-- Settles O46. -/
theorem evaluationQueuesAndDequeues : Obligations.EvaluationQueuesAndDequeues := by
  refine ⟨fun s t tag r wanted tile hr hw ht => ?_, ?_, ?_⟩
  · obtain ⟨dormant, queued, offered, retiring⟩ := evaluation_by_state tile hr hw ht
    obtain ⟨-, here, -⟩ := visibleSource_some hr
    replace ht : t = rewritten tag (judged s.view r) s := ht
    have left := dequeue_rewritten (s := s) (q := judged s.view r) here
    subst ht
    refine ⟨dormant, fun h => (queued h).trans ?_, fun h => offered h, retiring⟩
    rw [left]
    rfl
  · intro old new s t touched wanted tile ht htouched hwanted
    subst ht
    obtain ⟨after, only, written⟩ := notice_evaluates tile old new
    refine ⟨after, only, written.trans ?_⟩
    rw [show table s = s.store.sources.map unnumbered from rfl, List.map_map]
    refine List.map_congr_left fun e _ => ?_
    have status : isWanted s.view e = wanted e := isWanted_eq (hwanted e)
    by_cases h : touched e = true
    · rw [if_pos h]
      refine (if_pos ((htouched e).mp h)).trans ?_
      rw [← status]
      rfl
    · rw [if_neg h]
      exact if_neg fun both => h ((htouched e).mpr both)
  · intro spans leave f s t r q wanted me plain usual tile hr quiet hme run hw hq
    subst hme
    have choice : leave = [] ∨ leave = [.wtr] := usual.elim .inr fun h => .inl h.2
    have ended := plain_ended plain choice run
    obtain ⟨p, e, departs, found, same⟩ := framed_visible tile.tags spans hr
    have sources := ended.sources
    have found' : visibleSource t.store r.tag = some e := by
      unfold visibleSource at found ⊢
      rw [sources]
      exact found
    have fields : (e.state, e.mismatch, e.releaseCount) =
        ((unnumbered e).state, (unnumbered e).mismatch, (unnumbered e).releaseCount) := rfl
    rw [found', Option.map_some, fields, same, hq, ended.ownNotice, ended.parts.2.1]
    exact congrArg some (noticed_fields departs (visibleSource_some hr).2.2 quiet (isWanted_eq (ended.parts.2.1 ▸ hw)))

end Sys2Proof.Boundary
end

section
/-! PROOFS. Reads of a tile group (R93, R94) and the carrier frames built from them (R95, R137, R139). -/

namespace Sys2Proof.Boundary

open Sys2Proof.Machine Sys2Proof.Safety Sys2Proof.Frames Sys2Proof.Tiles

variable {s t u : State} {tiles : List Tile} {first cls tag len : Nat} {q : Quality} {blocks : List Block} {k : Sink}
variable {lanes : Vector LaneRx 9} {p : Fin 4}

/-! ### The tag check -/

theorem payloadOf_length (tiles : List Tile) (n : Nat) : (payloadOf tiles n).length = min n (2500 * tiles.length) := by
  induction tiles generalizing n with
  | nil => simp [payloadOf]
  | cons t ts ih =>
    unfold payloadOf
    dsimp only
    rw [List.length_append, List.length_append, ih, List.length_take, List.length_replicate, List.length_cons,
      show Config.tileBlocks = 2500 from rfl]
    omega

theorem quality_eq_none {m : Mark} : m.quality = none ↔ m = .vacant := by cases m <;> simp [Mark.quality]

theorem quality_mark {m : Mark} (h : m.quality = some q) : q.mark = m := by
  cases m <;> cases h <;> rfl

/-- A group passes the tag check by its tag, its mark and its fill (R94). -/
def Passes (tiles : List Tile) (first cls tag : Nat) : Prop := tileTag (tileAt tiles first) = tag ∧
  tileMark (tileAt tiles first) ≠ .vacant ∧ tileFill (tileAt tiles first) ≤ 2500 * cls

theorem readGroup_passes (h : Passes tiles first cls tag) : ∃ q blocks, readGroup tiles first cls tag = some (q, blocks) ∧
    q.mark = tileMark (tileAt tiles first) ∧ blocks.length = tileFill (tileAt tiles first) := by
  obtain ⟨same, marked, fits⟩ := h
  obtain ⟨q, hq⟩ := Option.ne_none_iff_exists'.mp fun none => marked (quality_eq_none.mp none)
  have check : (decide (tileTag (tileAt tiles first) = tag) &&
      decide (tileFill (tileAt tiles first) ≤ Config.tileBlocks * cls)) = true := by
    rw [decide_eq_true same, decide_eq_true (show tileFill (tileAt tiles first) ≤ Config.tileBlocks * cls from fits)]
    rfl
  refine ⟨q, payloadOf ((List.range cls).map fun i => tileAt tiles (first + i)) (tileFill (tileAt tiles first)), ?_,
    quality_mark hq, ?_⟩
  · unfold readGroup
    dsimp only
    rw [hq]
    dsimp only
    rw [if_pos check]
  · rw [payloadOf_length, List.length_map, List.length_range, Nat.min_eq_left fits]

theorem readGroup_fails (h : ¬ Passes tiles first cls tag) : readGroup tiles first cls tag = none := by
  unfold readGroup
  dsimp only
  rcases hq : (tileMark (tileAt tiles first)).quality with _ | q
  · rfl
  · refine if_neg fun check => h ?_
    rw [Bool.and_eq_true, decide_eq_true_iff, decide_eq_true_iff] at check
    exact ⟨check.1, fun vacant => Option.some_ne_none q (hq.symm.trans (quality_eq_none.mpr vacant)), check.2⟩

theorem readGroup_fits (h : readGroup tiles first cls tag = some (q, blocks)) : blocks.length ≤ 2500 * cls := by
  by_cases passes : Passes tiles first cls tag
  · obtain ⟨q', blocks', read, -, length⟩ := readGroup_passes passes
    obtain ⟨-, rfl⟩ := Prod.mk.inj (Option.some.inj (read.symm.trans h))
    exact length.trans_le passes.2.2
  · rw [readGroup_fails passes] at h
    exact nomatch h

theorem sinkRead_fits (h : sinkRead lanes k = some (q, blocks)) : blocks.length ≤ 2500 * k.cls := by
  unfold sinkRead at h
  split at h
  · exact nomatch h
  · split at h
    · exact nomatch h
    · exact readGroup_fits h

theorem sinkRead_wanting (h : k.sel = none) : sinkRead lanes k = none := by
  unfold sinkRead
  rw [h]

theorem sinkRead_undelivered {sel : Selection} (h : k.sel = some sel) (none : delivered lanes[sel.lane] = none) :
    sinkRead lanes k = .none := by
  unfold sinkRead
  rw [h]
  dsimp only
  rw [none]

theorem sinkRead_delivered {sel : Selection} (h : k.sel = some sel) (some : delivered lanes[sel.lane] = .some tiles) :
    sinkRead lanes k = readGroup tiles sel.first k.cls k.tag := by
  unfold sinkRead
  rw [h]
  dsimp only
  rw [some]

theorem afterRead_none (k : Sink) : k.afterRead none =
    { k with delivered := .failed, slips := if k.sel = none then k.slips else min 255 (k.slips + 1) } := by
  unfold Sink.afterRead
  rcases k.sel with _ | sel <;> rfl

/-! ### The groups of a carrier port -/

/-- What a sink's read delivers: its mark and blocks, or FAILED (R95, R96). -/
def readOr (lanes : Vector LaneRx 9) (k : Sink) : Quality × List Block := (sinkRead lanes k).getD (.failed, [])

/-- The group a carrier sink writes (R95). -/
def groupOf (lanes : Vector LaneRx 9) (first : Nat) (k : Sink) : Group where
  first := first
  cls := k.cls
  tag := k.tag
  mark := (readOr lanes k).1.mark
  fill := (readOr lanes k).2.length
  blocks := (readOr lanes k).2

theorem sinkGroup_carrier (h : k.binding = .carrier p first) :
    sinkGroup k (sinkRead lanes k) = some (p, groupOf lanes first k) := by
  unfold sinkGroup groupOf readOr
  rw [h]
  rcases sinkRead lanes k with _ | ⟨q, blocks⟩ <;> rfl

theorem sinkGroup_client {port : Fin 32} (h : k.binding = .client port) (read : Option (Quality × List Block)) :
    sinkGroup k read = none := by
  unfold sinkGroup
  rw [h]

/-- The groups of a port's frame. -/
def portGroups (lanes : Vector LaneRx 9) (ks : List Sink) (p : Fin 4) : List Group :=
  ((ks.filterMap fun k => sinkGroup k (sinkRead lanes k)).filter (·.1 = p)).map Prod.snd

theorem mem_portGroups {ks : List Sink} {g : Group} : g ∈ portGroups lanes ks p ↔
    ∃ k ∈ ks, ∃ first, k.binding = .carrier p first ∧ g = groupOf lanes first k := by
  unfold portGroups
  constructor
  · intro h
    obtain ⟨⟨port, g⟩, hg, rfl⟩ := List.mem_map.mp h
    obtain ⟨mem, same⟩ := List.mem_filter.mp hg
    obtain rfl : port = p := of_decide_eq_true same
    obtain ⟨k, hk, made⟩ := List.mem_filterMap.mp mem
    rcases hb : k.binding with c | ⟨port', first⟩
    · rw [sinkGroup_client hb] at made
      exact nomatch made
    · rw [sinkGroup_carrier hb] at made
      obtain ⟨rfl, rfl⟩ := Prod.mk.inj (Option.some.inj made)
      exact ⟨k, hk, first, hb, rfl⟩
  · rintro ⟨k, hk, first, hb, rfl⟩
    exact List.mem_map.mpr ⟨(p, groupOf lanes first k), List.mem_filter.mpr
      ⟨List.mem_filterMap.mpr ⟨k, hk, sinkGroup_carrier hb⟩, decide_eq_true rfl⟩, rfl⟩

/-! ### The tiles of a carrier frame (R137) -/

/-- A condition on the places of a frame that no later place meets without the earlier ones cuts the frame. -/
theorem exists_cut {P : Nat → Prop} (down : ∀ i j, i ≤ j → P j → P i) (n : Nat) : ∃ m ≤ n, ∀ i < n, (P i ↔ i < m) := by
  induction n with
  | zero => exact ⟨0, le_rfl, fun i h => absurd h (Nat.not_lt_zero i)⟩
  | succ n ih =>
    obtain ⟨m, low, cut⟩ := ih
    by_cases last : P n
    · exact ⟨n + 1, le_rfl, fun i h => iff_of_true (down i n (Nat.le_of_lt_succ h) last) h⟩
    · refine ⟨m, low.trans (Nat.le_succ n), fun i h => ?_⟩
      rcases Nat.lt_succ_iff_lt_or_eq.mp h with before | rfl
      · exact cut i before
      · exact iff_of_false last (Nat.not_lt.mpr low)

/-- The tiles that a carrier frame of a length sends are its first ones, all of them in a frame of full length (R137). -/
theorem carrierTiles_cut (len : Nat) : ∃ sent ≤ 40, (168 ≤ len → sent = 40) ∧ ∀ groups, carrierTiles groups len =
    (List.range 40).map fun t => if t < sent then tileOf groups t else vacantTile := by
  obtain ⟨sent, low, cut⟩ := exists_cut (P := fun t => Config.nominalFrame ≤ len ∨ Config.carrierTilePlace t < len)
    (fun i j le h => h.imp id (carrierTilePlace_mono le).trans_lt) 40
  refine ⟨sent, low, fun full => ?_, fun groups => List.map_congr_left fun t ht => ?_⟩
  · by_contra short
    exact absurd ((cut sent (by omega)).mp (.inl full)) (lt_irrefl sent)
  · have place := cut t (List.mem_range.mp ht)
    by_cases goes : t < sent
    · rw [if_pos (place.mpr goes), if_pos goes]
    · rw [if_neg fun h => goes (place.mp h), if_neg goes]

theorem carrierTiles_none (len : Nat) : carrierTiles [] len = List.replicate 40 vacantTile := by
  unfold carrierTiles
  refine (List.map_congr_left fun t _ => ?_).trans (List.map_const' ..)
  exact ite_self _

theorem carrierFrame_good (header : Word) (tiles : List Tile) : carrierCheckGood (carrierFrame header tiles) = true :=
  Checks.carrierCheckGood_iff.mpr rfl

end Sys2Proof.Boundary
end

section
/-! PROOFS. The own frame as it begins, part by part (R23 to R27, R42, R137 to R139, R156): O41. -/

namespace Sys2Proof.Boundary

open Sys2Proof.Machine Sys2Proof.Safety Sys2Proof.Frames Sys2Proof.Tiles Sys2Proof.Tables

variable {s t u : State} {spans : List (Fin 96)} {f first len : Nat} {k : Sink} {lanes : Vector LaneRx 9} {p : Fin 4}

/-! ### The carrier frames -/

theorem sinkGroup_departed {g : Sink → Sink} (keeps : ∀ k, g k = { k with faultCount := (g k).faultCount }) (k : Sink) :
    sinkGroup (g k) (sinkRead lanes (g k)) = sinkGroup k (sinkRead lanes k) := by
  rw [keeps, sinkRead_count]
  rfl

/-- The groups of a port, of the sinks before their departures. -/
theorem portGroups_departed (h : SinksDeparted s u) : portGroups lanes u.store.sinks p = portGroups lanes s.store.sinks p := by
  obtain ⟨g, keeps, sinks⟩ := h
  unfold portGroups
  have same : (fun k => sinkGroup k (sinkRead lanes k)) ∘ g = fun k => sinkGroup k (sinkRead lanes k) :=
    funext fun k => sinkGroup_departed keeps k
  rw [sinks, List.filterMap_map, same]

theorem beginFrame_port (s : State) (p : Fin 4) : (beginFrame s).carriers.ports[p] = { s.carriers.ports[p] with
    expected := s.carriers.ports[p].expected.map (· - (s.tx.frameLen : Int)) } := Vector.getElem_map ..

theorem departed_carriers (spans : List (Fin 96)) (s : State) : (departed spans s).carriers = (beginFrame s).carriers :=
  (congrArg State.carriers (departed_eq spans s)).trans rfl

/-- What a carrier port sends in the own frame that begins (R139). -/
theorem carriersSent_framed (spans : List (Fin 96)) (s : State) (p : Fin 4) :
    (carriersSent (heardBack (sentGroups spans s) (departed spans s)))[p] = carrierSend s.station.number (framed spans s).tx.frameLen
      (portGroups (framed spans s).lanes s.store.sinks p) p s.carriers.ports[p].state := by
  have station : (heardBack (sentGroups spans s) (departed spans s)).station = s.station :=
    ((congrArg State.station (heardBack_eq _ _)).trans rfl).trans (departed_station spans s)
  have len : (heardBack (sentGroups spans s) (departed spans s)).tx.frameLen = (framed spans s).tx.frameLen := by
    rw [framed_tx, ← departed_tx spans]
    exact (congrArg (fun u : State => u.tx.frameLen) (heardBack_eq _ _)).trans rfl
  have carriers : (heardBack (sentGroups spans s) (departed spans s)).carriers = (beginFrame s).carriers :=
    ((congrArg State.carriers (heardBack_eq _ _)).trans rfl).trans (departed_carriers spans s)
  have groups : ((((reads (heardBack (sentGroups spans s) (departed spans s))).filterMap fun e => sinkGroup e.1 e.2).filter
      (·.1 = p)).map Prod.snd) = portGroups (framed spans s).lanes s.store.sinks p := by
    rw [← portGroups_departed (departed_sinks spans s), reads, List.filterMap_map, heardBack_store, heardBack_lanes]
    rfl
  refine (Vector.getElem_ofFn ..).trans ?_
  rw [station, len, carriers, groups]
  exact congrArg (carrierSend _ _ _ p) ((congrArg CarrierPort.state (beginFrame_port s p)).trans rfl)

/-- The groups of a port's sinks meet nowhere in the frame (R4). -/
theorem port_apart (owner : OwnerLaw s) (table : SinkTable s) (mem : k ∈ s.store.sinks) (bound : k.binding = .carrier p first)
    (inside : first + k.cls ≤ 40) : Apart (portGroups lanes s.store.sinks p) (groupOf lanes first k) := by
  refine ⟨mem_portGroups.mpr ⟨k, mem, first, bound, rfl⟩, fun h hh other => ?_⟩
  obtain ⟨j, hj, first', bound', rfl⟩ := mem_portGroups.mp hh
  by_contra meet
  obtain ⟨low, high⟩ := not_or.mp meet
  dsimp only [groupOf] at low high
  have cls := classOk_bounds (table.range k mem).2
  have cls' := classOk_bounds (table.range j hj).2
  have common : ∃ i, i < 40 ∧ first ≤ i ∧ i < first + k.cls ∧ first' ≤ i ∧ i < first' + j.cls :=
    ⟨max first first', by omega, by omega, by omega, by omega, by omega⟩
  obtain ⟨i, place, here, within, there, within'⟩ := common
  have mine := (owner.carrierEgr p ⟨i, place⟩ k.tag).mpr ⟨k, mem, rfl, first, bound, here, within⟩
  have yours := (owner.carrierEgr p ⟨i, place⟩ j.tag).mpr ⟨j, hj, rfl, first', bound', there, within'⟩
  obtain rfl := List.inj_on_of_nodup_map owner.sinkTags mem hj (Option.some.inj (mine.symm.trans yours))
  obtain ⟨-, rfl⟩ := Binding.carrier.inj (bound.symm.trans bound')
  exact other rfl

theorem readOr_fits (lanes : Vector LaneRx 9) (k : Sink) : (readOr lanes k).2.length ≤ 2500 * k.cls := by
  unfold readOr
  rcases h : sinkRead lanes k with _ | ⟨q, blocks⟩
  · exact Nat.zero_le _
  · exact sinkRead_fits h

/-- The carrier frame of a LIT port (R137, R139): each sink's group as far as the frame reaches, and nothing elsewhere. -/
theorem litFrame (lanes : Vector LaneRx 9) (s : State) (p : Fin 4) (header : Word) (len : Nat) : ∃ sent,
    let cf := carrierFrame header (carrierTiles (portGroups lanes s.store.sinks p) len)
    carrierCheckGood cf = true ∧ cf.header = header ∧ cf.tiles.length = 40 ∧ sent ≤ 40 ∧ (168 ≤ len → sent = 40) ∧
    (∀ (k : Sink) (first : Nat), OwnerLaw s → SinkTable s → k ∈ s.store.sinks → k.binding = .carrier p first →
      first + k.cls ≤ 40 →
      (first + k.cls ≤ sent → readGroup cf.tiles first k.cls k.tag = some (readOr lanes k)) ∧
      (first < sent → tileTag (tileAt cf.tiles first) = k.tag ∧ tileMark (tileAt cf.tiles first) = (readOr lanes k).1.mark ∧
        tileFill (tileAt cf.tiles first) = (readOr lanes k).2.length)) ∧
    (∀ i, i < 40 → (sent ≤ i ∨
        ∀ k ∈ s.store.sinks, ∀ first, k.binding = .carrier p first → i < first ∨ first + k.cls ≤ i) →
      cf.tiles[i]? = some vacantTile) := by
  obtain ⟨sent, low, full, tiles⟩ := carrierTiles_cut len
  refine ⟨sent, carrierFrame_good _ _, rfl, ?_, low, full, fun k first owner table mem bound inside => ?_, fun i place idle => ?_⟩
  · change (carrierTiles _ len).length = 40
    rw [tiles, List.length_map, List.length_range]
  · have apart := port_apart (lanes := lanes) owner table mem bound inside
    obtain ⟨ok, classes⟩ := table.range k mem
    have cls := classOk_bounds classes
    have fits := readOr_fits lanes k
    have tile : ∀ t, t < sent → tileAt (carrierTiles (portGroups lanes s.store.sinks p) len) t =
        tileOf (portGroups lanes s.store.sinks p) t := fun t ht => by
      rw [tiles, tileAt_map _ (by omega), if_pos ht]
    refine ⟨fun whole => ?_, fun begins => ?_⟩
    · exact readGroup_of_apart (g := groupOf lanes first k) apart cls ok rfl rfl fits fun t held =>
        tile t (by have := held.2; dsimp only [groupOf] at this; omega)
    · have head := (tile first begins).trans (tileOf_of_apart apart ⟨le_rfl, by dsimp only [groupOf]; omega⟩)
      have head' : tileAt (carrierTiles (portGroups lanes s.store.sinks p) len) first =
        headTile k.tag (readOr lanes k).1.mark (readOr lanes k).2.length (share (groupOf lanes first k) first) :=
          head.trans (if_pos rfl)
      change tileTag (tileAt (carrierTiles _ len) first) = _ ∧ tileMark (tileAt (carrierTiles _ len) first) = _ ∧
        tileFill (tileAt (carrierTiles _ len) first) = _
      rw [head']
      exact ⟨tileTag_headTile ok, tileMark_headTile, tileFill_headTile (by omega)⟩
  · change (carrierTiles _ len)[i]? = _
    rw [tiles, List.getElem?_map, List.getElem?_range place]
    refine congrArg some ?_
    by_cases goes : i < sent
    · refine (if_pos goes).trans ?_
      have outside := idle.resolve_left (by omega)
      refine tileOf_vacant fun h hh held => ?_
      obtain ⟨k, mem, first, bound, rfl⟩ := mem_portGroups.mp hh
      have := outside k mem first bound
      obtain ⟨from_first, below⟩ := held
      dsimp only [groupOf] at from_first below
      omega
    · exact if_neg goes

end Sys2Proof.Boundary
end

section
/-! PROOFS. The own frame as it begins: its length, its header and what stays (R23 to R27, R42, R156, R164 to R166): O41. -/

namespace Sys2Proof.Boundary

open Sys2Proof.Machine Sys2Proof.Safety Sys2Proof.Frames Sys2Proof.Tiles Sys2Proof.Tables

variable {s t u : State} {spans : List (Fin 96)} {f len : Nat} {l me : Fin 9} {p : Fin 4} {leave : List RoundWork}

/-! ### The boundary that moves (R30, R31, R156) -/

theorem frameLength_eq (f : Nat) (s : State) :
    frameLength f s = frameLengthFor f s.station.state s.timing.phaseDue (phaseError s) := by
  unfold frameLength frameLengthFor
  rcases phaseError s with _ | e
  · cases s.station.state <;> rfl
  · rcases state : s.station.state with _ | _ | _
    · simp [Config.nominalFrame]
    · simp [Config.nominalFrame]
    · simp [Config.nominalFrame]

theorem moveBoundary_own (len : Nat) (s : State) : (moveBoundary len s).lanes[s.station.number] = s.lanes[s.station.number] :=
  (Vector.getElem_mapIdx ..).trans (if_pos rfl)

theorem moveBoundary_peer (len : Nat) (peer : l ≠ s.station.number) : (moveBoundary len s).lanes[l] =
    stepWindow { s.lanes[l] with capture := s.lanes[l].capture.map (movePosition len) } :=
  (Vector.getElem_mapIdx ..).trans (if_neg fun same => peer (Fin.ext same))

theorem stepWindow_eq (x : LaneRx) : stepWindow x = { x with openWindow :=
    if x.state = .aligning ∨ x.state = .aligned then x.openWindow - 1 else x.openWindow } := by
  unfold stepWindow
  split <;> rfl

theorem phaseError_moved (len : Nat) (s : State) : phaseError (moveBoundary len s) = match s.timing.selected with
    | .ref => s.timing.refPos.map (movePosition len)
    | .lane l => if l = s.station.number then s.lanes[l].capture else s.lanes[l].capture.map (movePosition len)
    | .free => none := by
  unfold phaseError
  change (match s.timing.selected with | .ref => _ | .lane l => _ | .free => _) = _
  rcases s.timing.selected with _ | l | _
  · rfl
  · dsimp only
    by_cases own : l = s.station.number
    · subst own
      rw [if_pos rfl, moveBoundary_own]
    · rw [if_neg own, moveBoundary_peer len own, stepWindow_eq]
  · rfl

theorem beginFrame_peer (peer : l ≠ s.station.number) : (beginFrame s).lanes[l] = { s.lanes[l] with
    capture := s.lanes[l].capture.map (movePosition s.tx.frameLen)
    openWindow := if s.lanes[l].state = .aligning ∨ s.lanes[l].state = .aligned then s.lanes[l].openWindow - 1
      else s.lanes[l].openWindow } :=
  (moveBoundary_peer s.tx.frameLen peer).trans (stepWindow_eq _)

/-! ### The header (R24) -/

theorem any_map_states {g : CarrierPort → CarrierPort} (keeps : ∀ x, (g x).state = x.state) (ports : Vector CarrierPort 4)
    (st : PortState) : (ports.map g).toList.any (fun p => decide (p.state = st)) = ports.toList.any fun p => decide (p.state = st) := by
  rw [Vector.toList_map, List.any_map]
  congr 1
  funext x
  rw [Function.comp, keeps]

theorem announcement_moved (len : Nat) (ports : Vector CarrierPort 4) :
    announcement (ports.map fun p => { p with expected := rebase len p.expected }) = announcement ports := by
  unfold announcement
  rw [any_map_states (by intro; rfl), any_map_states (by intro; rfl)]

/-- The snapshot a frame at place `f` sends from (R44). -/
theorem snapshotSent_departed (place : nextFrag s.tx.frame = f) (spans : List (Fin 96)) :
    snapshotSent (departed spans s) = if f = 0 ∧ s.station.state ≠ .joined then [] else s.tx.snapshot := by
  unfold snapshotSent
  rw [departed_tx, departed_station]
  exact congrArg (fun n => if n = 0 ∧ s.station.state ≠ .joined then [] else s.tx.snapshot) place

theorem departed_timing (spans : List (Fin 96)) (s : State) : (departed spans s).timing = (beginFrame s).timing :=
  (congrArg State.timing (departed_eq spans s)).trans rfl

/-- The fields of the own header (R24). -/
theorem header_eq (place : nextFrag s.tx.frame = f) (spans : List (Fin 96)) : header spans s = {
    station := s.station.number.val, epoch := s.station.epoch, joined := decide (s.station.state = .joined)
    round := s.tx.roundNo, frag := f, level := s.timing.level, source := s.timing.selected.code
    light := (announcement s.carriers.ports).code
    count := (if f = 0 ∧ s.station.state ≠ .joined then [] else s.tx.snapshot).length } := by
  have whole : header spans s = ownHeard { departed spans s with
    tx := { (departed spans s).tx with snapshot := snapshotSent (departed spans s) } } := rfl
  rw [whole, snapshotSent_departed place]
  unfold ownHeard
  dsimp only
  rw [departed_station, departed_tx, departed_timing, departed_carriers]
  have light : announcement (beginFrame s).carriers.ports = announcement s.carriers.ports := announcement_moved _ _
  rw [light, ← place]
  rfl

theorem fragmentSlots_getElem (snapshot : List Entry) (f i : Nat) (h : i < 8) :
    (fragmentSlots snapshot f)[i]? = some ((snapshot[8 * f + i]?).elim Slot.empty Entry.slot) := by
  unfold fragmentSlots
  rw [List.getElem?_map, List.getElem?_range h]
  refine congrArg some ?_
  dsimp only
  rcases snapshot[8 * f + i]? with _ | e <;> rfl

theorem fragmentSlots_length (snapshot : List Entry) (f : Nat) : (fragmentSlots snapshot f).length = 8 := by
  unfold fragmentSlots
  rw [List.length_map, List.length_range]

/-- The tiles of a lane frame are its first ones (R23). -/
theorem laneTiles_eq (groups : List Group) (len : Nat) :
    laneTiles groups len = (List.range (min 160 (len - 8))).map (tileOf groups) := by
  have cut : ∀ n, (List.range n).filter (fun t => decide (8 + t < len)) = List.range (min n (len - 8)) := fun n => by
    induction n with
    | zero => simp
    | succ n ih =>
      rw [List.range_succ, List.filter_append, ih]
      by_cases goes : 8 + n < len
      · have one : [n].filter (fun t => decide (8 + t < len)) = [n] := by simp [goes]
        rw [one, Nat.min_eq_left (by omega), ← List.range_succ, Nat.min_eq_left (by omega)]
      · have none : [n].filter (fun t => decide (8 + t < len)) = [] := by simp [goes]
        rw [none, List.append_nil, Nat.min_eq_right (by omega), Nat.min_eq_right (by omega)]
  unfold laneTiles
  rw [cut]

/-! ### What the boundary leaves -/

theorem onlyTables_framed (spans : List (Fin 96)) (s : State) : OnlyTables s (framed spans s) := by
  have begun : OnlyTables s (departed spans s) :=
    (OnlyTables.trans (t := beginFrame s) rfl (onlyTables_sourceDepartures spans (beginFrame s))).trans
      (.of_store (departed_store spans s))
  have back : OnlyTables (departed spans s) (heardBack (sentGroups spans s) (departed spans s)) :=
    .of_store (heardBack_store _ _)
  have read : OnlyTables (heardBack (sentGroups spans s) (departed spans s)) (readOut (sentGroups spans s) (departed spans s)) :=
    (OnlyTables.foldl (state := id) (step := deliver) onlyTables_deliver _ _).trans
      (.of_store ((congrArg State.store (readAndDeliver_eq _)).trans rfl))
  have noticed : OnlyTables (readOut (sentGroups spans s) (departed spans s)) (framed spans s) :=
    (onlyTables_setView _ _ _ _).trans (.of_store (frameBody_seen (sentGroups spans s) (departed spans s)).store)
  exact ((begun.trans back).trans read).trans noticed

theorem clientEgr_of_onlyTables (h : OnlyTables s t) : t.store.clientEgr = s.store.clientEgr := by
  unfold OnlyTables at h
  rw [h]

theorem clientsStart_framed (spans : List (Fin 96)) (s : State) (p : Fin 32) :
    (clientsStart (heardBack (sentGroups spans s) (departed spans s)))[p] =
      match s.store.clientEgr[p], s.pins.clientOut[p] with
      | some _, .departure blocks => .departure blocks
      | some _, .off => .off
      | _, _ => .free := by
  have egress : (heardBack (sentGroups spans s) (departed spans s)).store.clientEgr = s.store.clientEgr := by
    rw [heardBack_store, departed_store]
    exact clientEgr_of_onlyTables (onlyTables_sourceDepartures spans (beginFrame s))
  have out : (heardBack (sentGroups spans s) (departed spans s)).pins.clientOut = s.pins.clientOut :=
    ((congrArg (fun u : State => u.pins.clientOut) (heardBack_eq _ _)).trans rfl).trans
      ((congrArg (fun u : State => u.pins.clientOut) (departed_eq spans s)).trans rfl)
  refine (Vector.getElem_mapIdx ..).trans ?_
  rw [egress, out, Vector.getElem?_eq_getElem p.isLt]
  change egressStart s.store.clientEgr[p] s.pins.clientOut[p] = _
  rcases s.store.clientEgr[p] with _ | tag <;> rcases s.pins.clientOut[p] with _ | blocks | blocks | _ <;> rfl

theorem framed_own (spans : List (Fin 96)) (s : State) : (framed spans s).lanes[s.station.number] = { s.lanes[s.station.number] with
    capture := some 0
    heard := some (header spans s)
    windows := (some (laneTiles (sentGroups spans s) (framed spans s).tx.frameLen) :: s.lanes[s.station.number].windows).take 4 } := by
  have lanes : (framed spans s).lanes = _ := (congrArg State.lanes (framed_eq spans s)).trans rfl
  have own : (departed spans s).lanes[(departed spans s).station.number] = s.lanes[s.station.number] := by
    simp only [departed_lanes, departed_station, beginFrame_ownLane]
  have len : (departed spans s).tx.frameLen = (framed spans s).tx.frameLen := by rw [framed_tx, departed_tx]
  rw [lanes]
  refine (Vector.getElem_set_self _).trans ?_
  unfold ownLane
  rw [own, len]
  rfl

theorem framed_peer (spans : List (Fin 96)) (peer : l ≠ s.station.number) : (framed spans s).lanes[l] = { s.lanes[l] with
    capture := s.lanes[l].capture.map (movePosition s.tx.frameLen)
    openWindow := if s.lanes[l].state = .aligning ∨ s.lanes[l].state = .aligned then s.lanes[l].openWindow - 1
      else s.lanes[l].openWindow } := by
  have lanes : (framed spans s).lanes = _ := (congrArg State.lanes (framed_eq spans s)).trans rfl
  rw [lanes]
  exact (SourceChoice.getElem_set_ne _ _ peer).trans (beginFrame_peer peer)

/-! ### The boundary as a whole -/

/-- From `s` to `b` nothing moved that the boundary of an own frame leaves (R23, R156). -/
def FrameOnly (s b : State) : Prop := b = { s with
  tx := b.tx
  store := { s.store with
    sources := b.store.sources, sinks := b.store.sinks, queue := b.store.queue, queueCounter := b.store.queueCounter
    pool := b.store.pool }
  lanes := b.lanes
  view := b.view
  timing := b.timing
  carriers := { s.carriers with ports := b.carriers.ports }
  report := b.report
  pins := { s.pins with laneOut := b.pins.laneOut, carrierOut := b.pins.carrierOut, clientOut := b.pins.clientOut } }

theorem frameOnly_of {b : State} {tx : Transmitter} {lanes : Vector LaneRx 9} {view : Vector LaneView 9}
    {lane : Option LaneFrame} {carriers : Vector (Option CarrierFrame) 4} {clients : Vector ClientEgress 32}
    (tables : OnlyTables s b) (parts : b = { beginFrame s with
      tx := tx, store := b.store, lanes := lanes, view := view, report := b.report
      pins := { s.pins with laneOut := lane, carrierOut := carriers, clientOut := clients } }) : FrameOnly s b := by
  unfold FrameOnly OnlyTables at *
  generalize b.store = st at parts tables
  generalize b.report = r at parts
  subst parts
  exact congrArg (fun x : OrderStore => ({ beginFrame s with
    tx := tx, store := x, lanes := lanes, view := view, report := r
    pins := { s.pins with laneOut := lane, carrierOut := carriers, clientOut := clients } } : State)) tables

theorem framed_frameOnly (spans : List (Fin 96)) (s : State) : FrameOnly s (framed spans s) :=
  frameOnly_of (onlyTables_framed spans s) (framed_eq spans s)

/-- The WTR step after the frame leaves the same. -/
theorem Ended.frameOnly {b : State} (h : Ended leave f b t) (k : FrameOnly s b) : FrameOnly s t := by
  have rest := h.rest
  unfold FrameOnly at *
  generalize t.tx.due = due, t.store.sinks = sinks, t.report = r at rest
  subst rest
  exact congrArg (fun x : State => ({ x with
    tx := { x.tx with due := due }, store := { x.store with sinks := sinks }, report := r } : State)) k

end Sys2Proof.Boundary
end

section
/-! PROOFS. An own frame begins (R23 to R27, R42, R137 to R139, R156): O41. -/

namespace Sys2Proof.Boundary

open Sys2Proof.Machine Sys2Proof.Safety Sys2Proof.Frames Sys2Proof.Tiles Sys2Proof.Tables

variable {s t u : State} {spans : List (Fin 96)} {f len : Nat} {l me : Fin 9} {p : Fin 4} {leave : List RoundWork}

/-- The transmitter after a plain boundary that leaves no work (R23). -/
theorem plain_tx (plain : PlainBoundary f s) (ended : Ended [] f (framed spans s) t) : t.tx = { s.tx with
    frame := f
    lastLen := s.tx.frameLen
    frameLen := frameLengthFor f s.station.state s.timing.phaseDue (phaseError (moveBoundary s.tx.frameLen s))
    tileTime := 0
    snapshot := if f = 0 ∧ s.station.state ≠ .joined then [] else s.tx.snapshot
    boundary := false
    due := [] } := by
  have tx : t.tx = { (framed spans s).tx with due := t.tx.due } := (congrArg State.tx ended.rest).trans rfl
  rw [tx, ended.due rfl, framed_tx, snapshotSent_departed (plain_place plain)]
  have begun : (beginFrame s).tx = { s.tx with
      frame := nextFrag s.tx.frame, lastLen := s.tx.frameLen
      frameLen := frameLength (nextFrag s.tx.frame) (moveBoundary s.tx.frameLen s), tileTime := 0, boundary := false } := rfl
  rw [begun, plain_place plain, frameLength_eq]
  rfl

theorem framed_laneOut (spans : List (Fin 96)) (s : State) :
    (framed spans s).pins.laneOut = some (frameSent (sentGroups spans s) (departed spans s)) :=
  (congrArg (fun u : State => u.pins.laneOut) (framed_eq spans s)).trans rfl

theorem framed_carrierOut (spans : List (Fin 96)) (s : State) :
    (framed spans s).pins.carrierOut = carriersSent (heardBack (sentGroups spans s) (departed spans s)) :=
  (congrArg (fun u : State => u.pins.carrierOut) (framed_eq spans s)).trans rfl

theorem framed_clientOut (spans : List (Fin 96)) (s : State) :
    (framed spans s).pins.clientOut = clientsStart (heardBack (sentGroups spans s) (departed spans s)) :=
  (congrArg (fun u : State => u.pins.clientOut) (framed_eq spans s)).trans rfl

theorem framed_timing (spans : List (Fin 96)) (s : State) : (framed spans s).timing = (beginFrame s).timing :=
  (congrArg State.timing (framed_eq spans s)).trans rfl

theorem framed_carriers (spans : List (Fin 96)) (s : State) : (framed spans s).carriers = (beginFrame s).carriers :=
  (congrArg State.carriers (framed_eq spans s)).trans rfl

theorem Ended.timing {b : State} (h : Ended leave f b t) : t.timing = b.timing :=
  (congrArg State.timing h.rest).trans rfl

theorem Ended.carriers {b : State} (h : Ended leave f b t) : t.carriers = b.carriers :=
  (congrArg State.carriers h.rest).trans rfl

theorem Ended.frameLen {b : State} (h : Ended leave f b t) : t.tx.frameLen = b.tx.frameLen :=
  (congrArg (fun u : State => u.tx.frameLen) h.rest).trans rfl

theorem epochChanged_eq (old : Option Heard) (e : Nat) : epochChanged old e =
    match old with | some old => decide (old.epoch ≠ e) | none => false := by
  cases old <;> rfl

/-- Settles O41. -/
theorem ownFrameCarriesItsHeader : Obligations.OwnFrameCarriesItsHeader := by
  intro spans s f len snap moved me h plain hme hsnap hmoved hlen hh
  subst hme hmoved
  have error : phaseError (moveBoundary s.tx.frameLen s) = _ := phaseError_moved s.tx.frameLen s
  obtain ⟨t, run⟩ : ∃ t, exec (.ownFrameStart [] spans) s = .next t := ⟨_, exec_plain plain [] spans⟩
  have ended := plain_ended plain (.inl rfl) run
  have tx := plain_tx plain ended
  obtain ⟨lanes, view, pins, snapshot, frame⟩ := ended.parts
  have header : header spans s = h := by rw [header_eq (plain_place plain), hh, hsnap]
  have length : t.tx.frameLen = len := by
    rw [tx]
    exact (congrArg (frameLengthFor f s.station.state s.timing.phaseDue) error).trans hlen.symm
  have framedLen : (framed spans s).tx.frameLen = len := ended.frameLen.symm.trans length
  have departedLen : (departed spans s).tx.frameLen = len := by rw [departed_tx, ← framedLen, framed_tx]
  have sent : t.pins.laneOut = some (frameSent (sentGroups spans s) (departed spans s)) := by rw [pins, framed_laneOut]
  have slots : fragmentSlots (framed spans s).tx.snapshot (framed spans s).tx.frame = fragmentSlots snap f := by
    rw [← snapshot, ← frame, tx, hsnap]
  have words : (frameSent (sentGroups spans s) (departed spans s)).words = headerWords h (fragmentSlots snap f) := by
    rw [← header, ← slots, framed_tx, ← departed_tx spans]
    rfl
  have tiles : (frameSent (sentGroups spans s) (departed spans s)).tiles = laneTiles (sentGroups spans s) len :=
    congrArg (laneTiles (sentGroups spans s)) departedLen
  have timing : t.timing = (beginFrame s).timing := by
    rw [ended.timing, framed_timing]
  have carriers : t.carriers = (beginFrame s).carriers := by
    rw [ended.carriers, framed_carriers]
  have carrierOut : ∀ p : Fin 4, t.pins.carrierOut[p] = carrierSend s.station.number len
      (portGroups t.lanes s.store.sinks p) p s.carriers.ports[p].state := fun p => by
    rw [lanes, ← framedLen, ← carriersSent_framed, pins, framed_carrierOut]
  refine ⟨t, frameSent (sentGroups spans s) (departed spans s), fragmentSlots snap f, run, ?_, sent, words,
    fragmentSlots_length snap f, fragmentSlots_getElem snap f, ?_, fun p => ⟨fun lighting => ?_, fun lit => ?_, fun other lit => ?_⟩,
    fun p => ?_, fun l peer => ⟨?_, ?_⟩, ?_, ?_, timing, fun p => ?_, ended.frameOnly (framed_frameOnly spans s)⟩
  · rw [← length, hsnap, tx]
  · rw [tiles, laneTiles_eq, List.length_map, List.length_range]
  · refine ⟨_, (carrierOut p).trans (by rw [lighting]; rfl), carrierFrame_good _ _, rfl, carrierTiles_none len⟩
  · obtain ⟨count, whole⟩ := litFrame t.lanes s p (carrierHeader s.station.number.val p.val) len
    exact ⟨_, count, (carrierOut p).trans (by rw [lit]; rfl), whole⟩
  · rw [carrierOut p]
    rcases state : s.carriers.ports[p].state with _ | _ | _ | _ | _
    · rfl
    · rfl
    · rfl
    · exact absurd state other
    · exact absurd state lit
  · rw [pins, framed_clientOut]
    exact clientsStart_framed spans s p
  · rw [view, framed_view]
    exact SourceChoice.getElem_set_ne _ _ peer
  · rw [lanes]
    exact framed_peer spans peer
  · rw [lanes, framed_own, header, framedLen, ← tiles]
  · have epoch : h.epoch = s.station.epoch := by rw [hh]
    have changed := epochChanged_eq s.lanes[s.station.number].heard h.epoch
    rw [view, framed_view, ownRecord_framed, header, slots]
    refine (Vector.getElem_set_self _).trans ?_
    rw [changed, epoch] <;> rfl
  · rw [carriers]
    exact beginFrame_port s p

end Sys2Proof.Boundary
end

section
/-! PROOFS. One source order through the departures of a boundary (R26, R105, R110, R126): O32, O38. -/

namespace Sys2Proof.Boundary

open Sys2Proof.Machine Sys2Proof.Safety Sys2Proof.Frames Sys2Proof.Tiles Sys2Proof.Tables Sys2Proof.Walk Sys2Proof.Evaluations

variable {s t u : State} {spans : List (Fin 96)} {f first len tag : Nat} {n m : Fin 96} {a : Adapter} {r q : Source}
variable {acc : State × List HandOver} {k : Sink}

/-! ### Adapter records -/

theorem spanEndOf_pool_other (other : m ≠ n) (s : State) : (spanEndOf n s).store.pool[m] = s.store.pool[m] := by
  unfold spanEndOf
  split
  · rfl
  · rename_i a _
    split
    · rfl
    · rename_i e _
      rw [noted_store]
      simp only [Removal.healthOf_pool]
      exact SourceChoice.getElem_set_ne _ _ other

theorem spanEndOf_pool_ended (ha : s.store.pool[n] = some a) {e : EndedSpan} (he : a.ended = some e) :
    (spanEndOf n s).store.pool[n] = some (a.endSpan e) := by
  rw [spanEndOf_some ha he, noted_store]
  simp only [Removal.healthOf_pool]
  exact Vector.getElem_set_self _

/-- A departure moves no adapter but its own source's. -/
theorem departSource_pool_other (spans : List (Fin 96)) (acc : State × List HandOver)
    (other : (visibleSource acc.1.store tag).bind (·.adapter) ≠ some m) :
    (departSource spans acc tag).1.store.pool[m] = acc.1.store.pool[m] := by
  unfold departSource
  rcases hn : (visibleSource acc.1.store tag).bind (·.adapter) with _ | n
  · rfl
  · have ne : m ≠ n := fun same => other (hn.trans (congrArg some same.symm))
    have ended := spanEndOf_pool_other ne acc.1
    dsimp only
    split
    · rename_i a _ _ _
      have left : (noteQuality (setAdapter n (some a.depart.adapter) (spanEndOf n acc.1)) tag).store.pool[m] =
          acc.1.store.pool[m] := by
        rw [noteQuality_store]
        exact (SourceChoice.getElem_set_ne _ _ ne).trans ended
      split
      · exact left
      · exact (spanEndOf_pool_other ne _).trans left
    · exact ended

/-- The adapter of a visible source, under the agreement of orders and records (R101). -/
theorem owner_source (owner : OwnerLaw s) (hr : visibleSource s.store tag = some r) :
    ∃ n a, r.adapter = some n ∧ s.store.pool[n] = some a ∧ a.tag = tag ∧ a.kind ≠ .clientSink := by
  obtain ⟨mem, here, visible⟩ := visibleSource_some hr
  obtain ⟨n, held, a, ha, kind, same, -⟩ := owner.sources r mem visible
  refine ⟨n, a, held, ha, same.trans here, ?_⟩
  rw [kind]
  cases r.binding <;> nofun

/-- The adapter of a client sink is no source's. -/
theorem source_adapter_ne (owner : OwnerLaw s) (ha : s.store.pool[m] = some a) (sink : a.kind = .clientSink) (tag : Nat) :
    (visibleSource s.store tag).bind (·.adapter) ≠ some m := by
  rcases hr : visibleSource s.store tag with _ | r
  · exact nofun
  · obtain ⟨n, b, held, hb, -, kind⟩ := owner_source owner hr
    intro same
    obtain rfl : n = m := Option.some.inj (held.symm.trans same)
    obtain rfl := Option.some.inj (ha.symm.trans hb)
    exact kind sink

/-- The adapter of a client sink stays at the departures of the sources. -/
theorem departed_sink_adapter (owner : OwnerLaw s) (ha : s.store.pool[m] = some a) (sink : a.kind = .clientSink)
    (spans : List (Fin 96)) : (departed spans s).store.pool[m] = some a := by
  rw [departed_store]
  have all := List.foldlRecOn (motive := fun acc : State × List HandOver => OwnerLaw acc.1 ∧ acc.1.store.pool[m] = some a)
    (List.map (·.tag) (beginFrame s).store.sources) (departSource spans) (b := (beginFrame s, []))
    ⟨Owners.kept_ownerLaw.beginFrame owner, ha⟩ fun acc h tag _ =>
      ⟨Owners.kept_ownerLaw.departSource spans acc tag h.1,
        (departSource_pool_other spans acc (source_adapter_ne h.1 h.2 sink tag)).trans h.2⟩
  exact all.2

/-! ### One source at its own departure and at the others' -/

theorem foldl_through {α β : Type} {A B : β → Prop} {step : β → α → β} {x : α} (before : ∀ b y, y ≠ x → A b → A (step b y))
    (here : ∀ b, A b → B (step b x)) (after : ∀ b y, B b → B (step b y)) (xs : List α) (mem : x ∈ xs) (b : β) (h : A b) :
    B (xs.foldl step b) := by
  induction xs generalizing b with
  | nil => exact absurd mem List.not_mem_nil
  | cons y xs ih =>
    by_cases same : y = x
    · subst same
      exact List.foldlRecOn xs step (here b h) fun b hb z _ => after b z hb
    · exact ih (List.mem_of_ne_of_mem (Ne.symm same) mem) _ (before b y same h)

/-- The visible record of a tag, but for its entry number. -/
def Stands (tag : Nat) (r : Source) (s : State) : Prop := ∃ q, visibleSource s.store tag = some q ∧ unnumbered q = unnumbered r

theorem stands_spanEnd (tags : (s.store.sources.map (·.tag)).Nodup) (foreign : ∀ a, s.store.pool[n] = some a → a.tag ≠ tag)
    (h : Stands tag r s) : Stands tag r (spanEndOf n s) := by
  obtain ⟨q, hq, same⟩ := h
  rcases ha : s.store.pool[n] with _ | a
  · rw [spanEndOf_none fun b hb => (Option.some_ne_none b (hb.symm.trans ha)).elim]
    exact ⟨q, hq, same⟩
  · rcases he : a.ended with _ | e
    · rw [spanEndOf_none fun b hb => by rw [ha] at hb; exact Option.some.inj hb ▸ he]
      exact ⟨q, hq, same⟩
    · have written : ∃ g : Source → Source, (∀ e, (g e).tag = e.tag ∧ (g e).removed = e.removed) ∧ (∀ e, e.tag = tag → g e = e) ∧
          table (healthOf a (a.outcome e) (setAdapter n (some (a.endSpan e)) s)) = (table s).map g := by
        unfold healthOf
        have source := table_healthSource (tag := a.tag) (s := setAdapter n (some (a.endSpan e)) s) tags (a.outcome e)
        have keeps : ∀ x : Source, (if x.tag = a.tag ∧ x.removed = false then healed s.view (a.outcome e) x else x).tag = x.tag ∧
            (if x.tag = a.tag ∧ x.removed = false then healed s.view (a.outcome e) x else x).removed = x.removed := fun x => by
          split
          · exact ⟨(departs_healed _ _ x).tag_eq, (departs_healed _ _ x).removed⟩
          · exact ⟨rfl, rfl⟩
        split
        · exact ⟨id, fun _ => ⟨rfl, rfl⟩, fun _ _ => rfl, (List.map_id _).symm⟩
        · exact ⟨_, keeps, fun x hx => if_neg fun both => foreign a ha (both.1.symm.trans hx), source⟩
      obtain ⟨g, keeps, still, written⟩ := written
      obtain ⟨p, hp, image⟩ := visible_mapped keeps written hq
      rw [spanEndOf_some ha he]
      refine ⟨p, by rw [noted_store]; exact hp, image.trans ?_⟩
      exact (still (unnumbered q) (visibleSource_some hq).2.1).trans same

/-- The departure of another source. -/
theorem departSource_other (owner : OwnerLaw acc.1) {other : Nat} (ne : other ≠ tag) (h : Stands tag r acc.1) :
    Stands tag r (departSource spans acc other).1 := by
  unfold departSource
  rcases hr : visibleSource acc.1.store other with _ | p
  · exact h
  · obtain ⟨n, a, held, ha, hat, -⟩ := owner_source owner hr
    rw [Option.bind_some, held]
    have foreign : ∀ b, acc.1.store.pool[n] = some b → b.tag ≠ tag := fun b hb => by
      rw [ha] at hb
      exact Option.some.inj hb ▸ fun same => ne (hat.symm.trans same)
    have ended := stands_spanEnd owner.sourceTags foreign h
    have owner' := Owners.kept_ownerLaw.spanEndOf n owner
    dsimp only
    rcases hb : (spanEndOf n acc.1).store.pool[n] with _ | b
    · exact ended
    · rcases hp : visibleSource (spanEndOf n acc.1).store other with _ | p'
      · exact ended
      · have tagged : b.tag = other := by
          obtain ⟨n', b', held', hb', same, -⟩ := owner_source owner' hp
          have adapter := (Removal.sameOrders_spanEnd (some n) acc.1).source_adapter other
          rw [hr, Option.bind_some, held] at adapter
          have here : visibleSource (Machine.spanEndAt (some n) acc.1).store other = some p' := hp
          rw [here, Option.bind_some, held'] at adapter
          obtain rfl := Option.some.inj adapter
          exact Option.some.inj (hb'.symm.trans hb) ▸ same
        have owner'' := Owners.kept_ownerLaw.noteQuality (Owners.kept_ownerLaw.store.record hb (.depart b) owner') other
        have left : Stands tag r (noteQuality (setAdapter n (some b.depart.adapter) (spanEndOf n acc.1)) other) := by
          obtain ⟨q, hq, same⟩ := ended
          exact ⟨q, by rw [noteQuality_store]; exact hq, same⟩
        dsimp only
        split
        · exact left
        · refine stands_spanEnd owner''.sourceTags (fun c hc => ?_) left
          rw [noteQuality_store] at hc
          obtain rfl := Option.some.inj ((Vector.getElem_set_self _).symm.trans hc)
          rw [(depart_keeps b).1, tagged]
          exact ne

/-- What a source's departure fills its group with, by latch and failed action (R26, R127 to R129). -/
def content (r : Source) (blocks : List Block) : List Block :=
  if r.latch = true ∧ r.action = .mark then []
  else if r.latch = true ∧ r.action = .fill then List.replicate blocks.length Block.replacement
  else blocks

theorem handOver_eq (ports : Vector CarrierPort 4) (r : Source) (blocks : List Block) : handOver ports r blocks =
    { tag := r.tag, mark := (sourceQuality ports r).mark, blocks := content r blocks } := by
  unfold handOver content
  rcases r.latch with _ | _ <;> rcases r.action with _ | _ | _ <;> rfl

/-- The engine when a source's adapter has departed, before its span end (R105, R126). -/
def departing (n : Fin 96) (a : Adapter) (tag : Nat) (s : State) : State :=
  noteQuality (setAdapter n (some a.depart.adapter) s) tag

/-- The departure of a source whose adapter has no span end left. -/
theorem departSource_here (hr : visibleSource acc.1.store tag = some r) (held : r.adapter = some n)
    (ha : acc.1.store.pool[n] = some a) (settled : a.ended = none) : departSource spans acc tag =
      (if n ∈ spans then departing n a tag acc.1 else spanEndOf n (departing n a tag acc.1),
        acc.2 ++ [handOver acc.1.carriers.ports r a.depart.blocks]) := by
  have still : spanEndOf n acc.1 = acc.1 := spanEndOf_none fun b hb => by
    rw [ha] at hb
    exact Option.some.inj hb ▸ settled
  have ports : (noteQuality (setAdapter n (some a.depart.adapter) acc.1) tag).carriers = acc.1.carriers := by
    rw [noteQuality_onlyOrders (setAdapter n (some a.depart.adapter) acc.1) tag]
    rfl
  unfold departSource
  rw [hr, Option.bind_some, held]
  dsimp only
  rw [still, ha, hr]
  dsimp only
  rw [ports]
  rfl

/-- A span end that is left comes first (R105). -/
theorem departSource_ended (hr : visibleSource s.store tag = some r) (held : r.adapter = some n) (hs : List HandOver) :
    departSource spans (s, hs) tag = departSource spans (spanEndOf n s, hs) tag := by
  have adapter : (visibleSource (spanEndOf n s).store tag).bind (·.adapter) = some n := by
    refine ((Removal.sameOrders_spanEnd (some n) s).source_adapter tag).trans ?_
    rw [hr]
    exact held
  have first : (visibleSource s.store tag).bind (·.adapter) = some n := by
    rw [hr]
    exact held
  unfold departSource
  rw [adapter, first]
  dsimp only
  rw [Removal.spanEndOf_spanEndOf]

/-- Hand-overs name their sources. -/
theorem departSource_handed (spans : List (Fin 96)) (acc : State × List HandOver) (tag : Nat) :
    ∃ more, (departSource spans acc tag).2 = acc.2 ++ more ∧ (more.map (·.tag)).Sublist [tag] := by
  unfold departSource
  split
  · exact ⟨[], (List.append_nil _).symm, List.nil_sublist _⟩
  · rename_i n _
    dsimp only
    split
    · rename_i r _ hr
      exact ⟨_, rfl, by
        rw [List.map_singleton, handOver_eq, (visibleSource_some hr).2.1]⟩
    · exact ⟨[], (List.append_nil _).symm, List.nil_sublist _⟩

theorem sourceDepartures_handed (spans : List (Fin 96)) (s : State) :
    ((sourceDepartures spans s).2.map (·.tag)).Sublist (s.store.sources.map (·.tag)) := by
  have all : ∀ (tags : List Nat) (acc : State × List HandOver),
      ∃ more, (tags.foldl (departSource spans) acc).2 = acc.2 ++ more ∧ (more.map (·.tag)).Sublist tags := by
    intro tags
    induction tags with
    | nil => exact fun acc => ⟨[], (List.append_nil _).symm, List.nil_sublist _⟩
    | cons tag tags ih =>
      intro acc
      obtain ⟨one, first, single⟩ := departSource_handed spans acc tag
      obtain ⟨more, rest, sub⟩ := ih (departSource spans acc tag)
      refine ⟨one ++ more, by rw [List.foldl_cons, rest, first, List.append_assoc], ?_⟩
      rw [List.map_append]
      exact single.append sub
  obtain ⟨more, whole, sub⟩ := all (s.store.sources.map (·.tag)) (s, [])
  rw [sourceDepartures, whole]
  exact sub

theorem departSource_grows (spans : List (Fin 96)) (acc : State × List HandOver) (tag : Nat) {h : HandOver} (mem : h ∈ acc.2) :
    h ∈ (departSource spans acc tag).2 := by
  obtain ⟨more, whole, -⟩ := departSource_handed spans acc tag
  rw [whole]
  exact List.mem_append_left more mem

/-! ### The source at the boundary -/

/-- What does not read the entry number is alike for records that differ in it alone. -/
theorem alike_unnumbered {α : Type} {g : Source → α} (free : ∀ e, g (unnumbered e) = g e) (same : unnumbered q = unnumbered r) :
    g q = g r := (free q).symm.trans ((congrArg g same).trans (free r))

theorem adapter_unnumbered (same : unnumbered q = unnumbered r) : q.adapter = r.adapter :=
  alike_unnumbered (by intro; rfl) same

/-- The quality of a source does not move with the boundary. -/
theorem sourceQuality_begun (s : State) (r : Source) :
    sourceQuality (beginFrame s).carriers.ports r = sourceQuality s.carriers.ports r := by
  have framer : ∀ p : Fin 4, (beginFrame s).carriers.ports[p].framer = s.carriers.ports[p].framer := fun p =>
    (congrArg CarrierPort.framer (beginFrame_port s p)).trans rfl
  have degraded : ∀ p : Fin 4, (beginFrame s).carriers.ports[p].degraded = s.carriers.ports[p].degraded := fun p =>
    (congrArg CarrierPort.degraded (beginFrame_port s p)).trans rfl
  have failed : carrierFailed (beginFrame s).carriers.ports r = carrierFailed s.carriers.ports r := by
    unfold carrierFailed
    simp only [framer]
  have low : carrierDegraded (beginFrame s).carriers.ports r = carrierDegraded s.carriers.ports r := by
    unfold carrierDegraded
    simp only [degraded]
  unfold sourceQuality
  rw [failed, low]

/-- Before its own departure a source stands as it was. -/
structure Waits (tag : Nat) (r : Source) (n : Fin 96) (a : Adapter) (c : Carriers) (s : State) : Prop where
  owner : OwnerLaw s
  stands : Stands tag r s
  adapter : s.store.pool[n] = some a
  carriers : s.carriers = c

theorem waits_departSource {c : Carriers} (held : r.adapter = some n) {other : Nat} (ne : other ≠ tag)
    (h : Waits tag r n a c acc.1) : Waits tag r n a c (departSource spans acc other).1 where
  owner := Owners.kept_ownerLaw.departSource spans acc other h.owner
  stands := departSource_other h.owner ne h.stands
  carriers := by
    rw [departSource_onlyOrders spans acc other]
    exact h.carriers
  adapter := by
    refine (departSource_pool_other spans acc fun same => ?_).trans h.adapter
    obtain ⟨q, hq, alike⟩ := h.stands
    rcases hp : visibleSource acc.1.store other with _ | p
    · rw [hp] at same
      exact nomatch same
    · rw [hp] at same
      obtain ⟨n', a', held', ha', tagged, -⟩ := owner_source h.owner hp
      obtain ⟨m, b, heldq, hb, taggedq, -⟩ := owner_source h.owner hq
      obtain rfl : n = m := Option.some.inj ((held.symm.trans (adapter_unnumbered alike).symm).trans heldq)
      obtain rfl : n' = n := Option.some.inj (held'.symm.trans same)
      obtain rfl := Option.some.inj (ha'.symm.trans hb)
      exact ne (tagged.symm.trans taggedq)

/-- The hand-over of a source at the boundary (R26, R110, R126). -/
theorem handed (owner : OwnerLaw s) (hr : visibleSource s.store tag = some r) (held : r.adapter = some n)
    (ha : s.store.pool[n] = some a) (settled : a.ended = none) (spans : List (Fin 96)) :
    { tag := tag, mark := (sourceQuality s.carriers.ports r).mark, blocks := content r a.depart.blocks } ∈
      (sourceDepartures spans (beginFrame s)).2 := by
  have start : Waits tag r n a (beginFrame s).carriers (beginFrame s) :=
    ⟨Owners.kept_ownerLaw.beginFrame owner, ⟨r, hr, rfl⟩, ha, rfl⟩
  refine foldl_through (x := tag) (A := fun acc : State × List HandOver => Waits tag r n a (beginFrame s).carriers acc.1)
    (B := fun acc : State × List HandOver => _ ∈ acc.2) (fun acc other ne h => waits_departSource held ne h) (fun acc h => ?_)
    (fun acc other => departSource_grows spans acc other) _ (List.mem_map.mpr ⟨r, (visibleSource_some hr).1, (visibleSource_some hr).2.1⟩)
    (beginFrame s, []) start
  obtain ⟨q, hq, alike⟩ := h.stands
  rw [departSource_here hq ((adapter_unnumbered alike).trans held) h.adapter settled]
  refine List.mem_append_right _ (List.mem_singleton.mpr ?_)
  have quality : sourceQuality (beginFrame s).carriers.ports q = sourceQuality s.carriers.ports r :=
    (alike_unnumbered (g := sourceQuality (beginFrame s).carriers.ports) (by intro; rfl) alike).trans (sourceQuality_begun s r)
  have blocks : content q a.depart.blocks = content r a.depart.blocks :=
    alike_unnumbered (g := fun e => content e a.depart.blocks) (by intro; rfl) alike
  rw [handOver_eq, h.carriers, quality, blocks, (visibleSource_some hq).2.1]

end Sys2Proof.Boundary
end

section
/-! PROOFS. The tile groups that the source departures fill (O38). -/

namespace Sys2Proof.Boundary

open Sys2Proof.Machine Sys2Proof.Safety Sys2Proof.Frames Sys2Proof.Tiles Sys2Proof.Tables

variable {s t u : State} {spans : List (Fin 96)} {f first len tag : Nat} {n : Fin 96} {a : Adapter} {r q : Source} {g : Group}

/-! ### No departure makes a source OFFERED -/

/-- Every OFFERED source of `t` holds the tiles of an OFFERED source of `s`. -/
def Within (s t : State) : Prop := ∀ q ∈ t.store.sources, q.state = .offered →
  ∃ r ∈ s.store.sources, r.state = .offered ∧ r.firstTile = q.firstTile ∧ r.cls = q.cls

theorem Within.refl (s : State) : Within s s := fun q mem offered => ⟨q, mem, offered, rfl, rfl⟩

theorem Within.trans (h : Within s t) (g : Within t u) : Within s u := fun q mem offered => by
  obtain ⟨p, pmem, poffered, ptile, pcls⟩ := g q mem offered
  obtain ⟨r, rmem, roffered, tile, cls⟩ := h p pmem poffered
  exact ⟨r, rmem, roffered, tile.trans ptile, cls.trans pcls⟩

theorem Within.of_sources (h : t.store.sources = s.store.sources) : Within s t := fun q mem offered =>
  ⟨q, h ▸ mem, offered, rfl, rfl⟩

theorem within_map {w : Source → Source} (keeps : ∀ e, (w e).state = .offered →
    e.state = .offered ∧ (w e).firstTile = e.firstTile ∧ (w e).cls = e.cls) (h : t.store.sources = s.store.sources.map w) :
    Within s t := fun q mem offered => by
  rw [h] at mem
  obtain ⟨e, emem, rfl⟩ := List.mem_map.mp mem
  obtain ⟨was, tile, cls⟩ := keeps e offered
  exact ⟨e, emem, was, tile.symm, cls.symm⟩

theorem within_update {w : Source → Source} (keeps : ∀ e, (w e).state = .offered →
    e.state = .offered ∧ (w e).firstTile = e.firstTile ∧ (w e).cls = e.cls) (tag : Nat) (s : State) :
    Within s (updateSource tag w s) := by
  refine within_map (w := fun e => if e.tag = tag then w e else e) (fun e offered => ?_) rfl
  by_cases here : e.tag = tag
  · rw [if_pos here] at offered ⊢
    exact keeps e offered
  · rw [if_neg here] at offered ⊢
    exact ⟨offered, rfl, rfl⟩

theorem moved_away {st : SourceState} {p : Prop} (other : st ≠ .offered) (h : st = .offered) : p := absurd h other

theorem within_enqueue (tag : Nat) (s : State) : Within s (enqueue tag s) := by
  unfold enqueue
  refine (within_update (w := fun r => { r with state := .queued, entryNo := some s.store.queueCounter })
    (fun _ => moved_away nofun) tag s).trans ?_
  dsimp only
  split
  · unfold renumber
    refine within_map (w := fun e => if e.tag ∈ _ then { e with entryNo := some _ } else e) (fun e offered => ?_) rfl
    dsimp only at offered ⊢
    split at offered
    · rename_i mem
      rw [if_pos mem]
      exact ⟨offered, rfl, rfl⟩
    · rename_i out
      rw [if_neg out]
      exact ⟨offered, rfl, rfl⟩
  · exact .of_sources rfl

theorem within_evalSource (tag : Nat) (s : State) : Within s (evalSource tag s) := by
  unfold evalSource
  split
  · exact .refl s
  · refine (within_update (w := fun r => { r with mismatch := otherWantStands s.view r.tag r.cls })
      (fun e offered => ⟨offered, rfl, rfl⟩) tag s).trans ?_
    dsimp only
    split
    · exact within_enqueue tag _
    · exact (within_update (w := fun r => { r with state := .dormant, entryNo := none }) (fun _ => moved_away nofun) tag _).trans (.of_sources rfl)
    · exact within_update (w := fun r => { r with releaseCount := 0 }) (fun e offered => ⟨offered, rfl, rfl⟩) tag _
    · exact .refl _

theorem within_health (a : Adapter) (d : Detections) (s : State) : Within s (healthOf a d s) := by
  have source : Within s (healthSource a.tag d s) := by
    unfold healthSource
    split
    · exact .refl s
    · refine (within_update (w := fun r =>
        { r with faultCount := nextFaultCount d r.faultCount, latch := r.latch || latches d r })
        (fun e offered => ⟨offered, rfl, rfl⟩) a.tag s).trans ?_
      dsimp only
      split
      · exact within_evalSource _ _
      · exact .refl _
  unfold healthOf
  split
  · exact .of_sources rfl
  · exact source

theorem within_spanEnd (n : Fin 96) (s : State) : Within s (spanEndOf n s) := by
  unfold spanEndOf
  split
  · exact .refl s
  · rename_i a _
    split
    · exact .refl s
    · rename_i e _
      have set : Within s (setAdapter n (some (a.endSpan e)) s) := .of_sources rfl
      exact (set.trans (within_health a _ _)).trans (.of_sources (congrArg OrderStore.sources (noted_store _ _)))

theorem within_departSource (spans : List (Fin 96)) (acc : State × List HandOver) (tag : Nat) :
    Within acc.1 (departSource spans acc tag).1 := by
  unfold departSource
  split
  · exact .refl _
  · rename_i n _
    dsimp only
    split
    · rename_i a r _ _
      have left : Within acc.1 (noteQuality (setAdapter n (some a.depart.adapter) (spanEndOf n acc.1)) tag) :=
        (within_spanEnd n acc.1).trans (.of_sources
          (congrArg OrderStore.sources (noteQuality_store (setAdapter n (some a.depart.adapter) (spanEndOf n acc.1)) tag) :))
      dsimp only
      split
      · exact left
      · exact left.trans (within_spanEnd n _)
    · exact within_spanEnd n acc.1

theorem within_departed (spans : List (Fin 96)) (s : State) : Within s (departed spans s) := by
  have begun : Within s (beginFrame s) := .of_sources rfl
  refine (begun.trans ?_).trans (.of_sources (congrArg OrderStore.sources (departed_store spans s)))
  exact List.foldlRecOn (motive := fun acc : State × List HandOver => Within (beginFrame s) acc.1) _ _ (.refl _)
    fun acc h tag _ => h.trans (within_departSource spans acc tag)

/-! ### The groups of a frame -/

/-- Each group sent is that of an OFFERED source, whose tag its hand-over names. -/
theorem sentGroups_mem (mem : g ∈ sentGroups spans s) : ∃ h ∈ (sourceDepartures spans (beginFrame s)).2,
    h.group (departed spans s).store = some g := List.mem_filterMap.mp mem

/-- A tile of no OFFERED source is vacant (R26). -/
theorem vacant_outside {i : Nat} (outside : ∀ r ∈ s.store.sources, r.state = .offered → ∀ first, r.firstTile = some first →
    i < first ∨ first + r.cls ≤ i) : tileOf (sentGroups spans s) i = vacantTile := by
  refine tileOf_vacant fun g mem holds => ?_
  obtain ⟨h, -, made⟩ := sentGroups_mem mem
  obtain ⟨q, hq, offered, tile, cls, -⟩ := group_some made
  obtain ⟨r, rmem, roffered, rtile, rcls⟩ := within_departed spans s q (visibleSource_some hq).1 offered
  obtain ⟨low, high⟩ := holds
  rcases outside r rmem roffered g.first (rtile.trans tile) with below | above <;> omega

theorem departed_tileLaw (tile : TileLaw s) (spans : List (Fin 96)) : TileLaw (departed spans s) := by
  have begun : TileLaw (beginFrame s) := by
    refine Placement.placementLaw_none_iff.mp ?_
    exact (Placement.placementLaw_none_iff.mpr tile).of_store rfl
  refine Placement.placementLaw_none_iff.mp ?_
  exact (Placement.sourceDepartures_placementLaw spans (Placement.placementLaw_none_iff.mpr begun)).noted _

/-- The groups of the OFFERED sources do not meet (R73). -/
theorem sentGroups_apart (tile : TileLaw s) (mem : g ∈ sentGroups spans s) : Apart (sentGroups spans s) g := by
  refine ⟨mem, fun g' mem' ne => ?_⟩
  have law := departed_tileLaw tile spans
  obtain ⟨h, hmem, made⟩ := sentGroups_mem mem
  obtain ⟨h', hmem', made'⟩ := sentGroups_mem mem'
  obtain ⟨q, hq, -, hfirst, cls, tag, -⟩ := group_some made
  obtain ⟨q', hq', -, hfirst', cls', tag', -⟩ := group_some made'
  have distinct : h'.tag ≠ h.tag := fun same => by
    have tags : ((sourceDepartures spans (beginFrame s)).2.map (·.tag)).Nodup :=
      tile.tags.sublist (sourceDepartures_handed spans (beginFrame s))
    obtain rfl := List.inj_on_of_nodup_map tags hmem' hmem same
    exact ne (Option.some.inj (made'.symm.trans made))
  obtain ⟨qmem, qtag, -⟩ := visibleSource_some hq
  obtain ⟨qmem', qtag', -⟩ := visibleSource_some hq'
  have positive := classOk_bounds (law.classes q qmem)
  have positive' := classOk_bounds (law.classes q' qmem')
  by_contra meet
  rw [not_or, Nat.not_le, Nat.not_le] at meet
  have both : ∀ x : Nat, g.first ≤ x → x < g.first + g.cls → g'.first ≤ x → x < g'.first + g'.cls → False := fun x l h l' h' => by
    have held := (law.tiles q qmem).held _ hfirst x l (by omega)
    have held' := (law.tiles q' qmem').held _ hfirst' x l' (by omega)
    refine distinct ?_
    rw [← qtag, ← qtag']
    exact Option.some.inj (Option.some.inj (held'.symm.trans held))
  rcases Nat.le_total g.first g'.first with before | after
  · exact both g'.first before (by omega) le_rfl (by omega)
  · exact both g.first le_rfl (by omega) after (by omega)

theorem content_length (r : Source) (blocks : List Block) : (content r blocks).length ≤ blocks.length := by
  unfold content
  split
  · exact Nat.zero_le _
  · split
    · rw [List.length_replicate]
    · exact le_rfl

/-- The group that an OFFERED source sends reads back (R26, R94, R110). -/
theorem group_sent (tile : TileLaw s) (owner : OwnerLaw s) (hr : visibleSource s.store r.tag = some r)
    (ok : tagOk r.tag = true) (offered : r.state = .offered) (tiled : r.firstTile = some first) (held : r.adapter = some n)
    (ha : s.store.pool[n] = some a) (settled : a.ended = none) {tiles : List Tile}
    (sent : ∀ i, i < first + r.cls → tileAt tiles i = tileOf (sentGroups spans s) i) :
    readGroup tiles first r.cls r.tag = some (sourceQuality s.carriers.ports r, content r a.depart.blocks) := by
  obtain ⟨rmem, -, visible⟩ := visibleSource_some hr
  have cls := classOk_bounds (tile.classes r rmem)
  obtain ⟨q, hq, departs⟩ := (departed_table spans tile.tags).visible hr
  have qfirst : q.firstTile = some first :=
    ((congrArg Source.firstTile departs.keeps).trans rfl : (Evaluations.unnumbered q).firstTile = r.firstTile).trans tiled
  have qcls : q.cls = r.cls :=
    ((congrArg Source.cls departs.keeps).trans rfl : (Evaluations.unnumbered q).cls = r.cls)
  have qoffered : q.state = .offered := departs.offered.mpr offered
  have made : HandOver.group (departed spans s).store
      { tag := r.tag, mark := (sourceQuality s.carriers.ports r).mark, blocks := content r a.depart.blocks } =
      some { first := first, cls := r.cls, tag := r.tag, mark := (sourceQuality s.carriers.ports r).mark,
             fill := (content r a.depart.blocks).length, blocks := content r a.depart.blocks } := by
    unfold HandOver.group
    dsimp only
    rw [hq]
    dsimp only
    rw [qoffered, qfirst, qcls]
  have mem := List.mem_filterMap.mpr ⟨_, handed owner hr held ha settled spans, made⟩
  have fits : (content r a.depart.blocks).length ≤ 2500 * r.cls := by
    obtain ⟨m, mheld, b, hb, -, -, bcls, -⟩ := owner.sources r rmem visible
    obtain rfl := Option.some.inj (held.symm.trans mheld)
    obtain rfl := Option.some.inj (ha.symm.trans hb)
    have cap := (Rates.release_blocks_le a).1
    have short := content_length r a.depart.blocks
    have blocks : a.depart.blocks = a.release.blocks := rfl
    have size : a.cap = 2500 * a.cls := rfl
    rw [← bcls]
    rw [blocks] at short ⊢
    omega
  exact readGroup_of_apart (sentGroups_apart tile mem) cls ok rfl rfl fits fun i holds => sent i holds.2

/-- Settles O38. -/
theorem sourceDepartureFillsItsGroup : Obligations.SourceDepartureFillsItsGroup := by
  refine ⟨fun leave s hs tag r n a t content hr held ha ht hc => ⟨fun settled => ?_, fun _ => departSource_ended hr held hs⟩,
    fun st h r hr => ⟨fun other => ?_, fun first offered tiled => ?_⟩, fun spans f s t lf plain h sent => ?_⟩
  · have tagged := (visibleSource_some hr).2.1
    rw [departSource_here (acc := (s, hs)) hr held ha settled, handOver_eq, tagged, hc, ht]
    rfl
  · unfold HandOver.group
    rw [hr]
    dsimp only
    split
    · rename_i offered _
      exact absurd offered other
    · rfl
  · unfold HandOver.group
    rw [hr]
    dsimp only
    rw [offered, tiled]
  · have ended := plain_ended plain (.inl rfl) h
    have out : lf = frameSent (sentGroups spans s) (departed spans s) := by
      have pins := (congrArg Pins.laneOut ended.parts.2.2.1).trans (framed_laneOut spans s)
      exact Option.some.inj (sent.symm.trans pins)
    obtain ⟨len, tiles⟩ : ∃ len, lf.tiles = (List.range len).map (tileOf (sentGroups spans s)) :=
      ⟨_, by rw [out]; exact laneTiles_eq _ _⟩
    have size : lf.tiles.length = len := by rw [tiles, List.length_map, List.length_range]
    refine ⟨fun r first n a tile owner hr ok offered tiled held ha settled inside => ?_, fun i hi outside => ?_⟩
    · refine group_sent (spans := spans) tile owner hr ok offered tiled held ha settled fun i hi => ?_
      rw [tiles, tileAt_map _ (by omega)]
    · rw [tiles, List.getElem?_map, List.getElem?_range (by omega), Option.map_some, vacant_outside outside]

end Sys2Proof.Boundary
end

section
/-! PROOFS. The departures of the client sinks (R105, R111): O37. -/

namespace Sys2Proof.ClientSinks

open Sys2Proof.Machine Sys2Proof.Safety Sys2Proof.Boundary Sys2Proof.Reports

variable {s t : State} {leave : List (Fin 96)} {tag : Nat} {n m : Fin 96} {p : Fin 32} {a : Adapter} {k : Sink}

/-! ### A span end that may be left -/

/-- The adapter after a span end that is left, if one is (R112, R113). -/
def ended (a : Adapter) : Adapter := match a.ended with
  | none => a
  | some e => a.endSpan e

/-- The fault count after a span end that is left, if one is (R133). -/
def counted (a : Adapter) (i : Nat) : Nat := match a.ended with
  | none => i
  | some e => nextFaultCount (a.outcome e) i

theorem ended_keeps (a : Adapter) : (ended a).kind = a.kind ∧ (ended a).tag = a.tag := by
  unfold ended
  split <;> exact ⟨rfl, rfl⟩

/-- A sink table with the fault count of one sink moved on. -/
def healed (tag : Nat) (a : Adapter) (sinks : List Sink) : List Sink :=
  sinks.map fun k => if k.tag = tag then { k with faultCount := counted a k.faultCount } else k

/-- From `s` to `t` nothing moved but what belongs to client sinks. -/
def OnlyClients (s t : State) : Prop := t = { s with
  store := { s.store with pool := t.store.pool, sinks := t.store.sinks }
  pins := { s.pins with clientOut := t.pins.clientOut }
  report := { s.report with sinks := t.report.sinks } }

theorem OnlyClients.refl (s : State) : OnlyClients s s := rfl

theorem OnlyClients.trans {u : State} (h : OnlyClients s t) (g : OnlyClients t u) : OnlyClients s u := by
  unfold OnlyClients at *
  rw [g, h]

theorem onlyClients_noted (sources : t.store.sources = s.store.sources) (lanes : t.lanes = s.lanes)
    (ports : t.carriers.ports = s.carriers.ports) (station : stationReport t = stationReport s) : OnlyClients t (noted s t) := by
  unfold noted
  split
  · rfl
  · have items : noteChanges s t = { t.report with sinks := (noteChanges s t).sinks } :=
      calc noteChanges s t = { t.report with sources := (noteChanges s t).sources, sinks := (noteChanges s t).sinks
                                             lanes := (noteChanges s t).lanes, ports := (noteChanges s t).ports
                                             station := (noteChanges s t).station } := rfl
        _ = _ := by rw [noteChanges_sources sources, noteChanges_lanes lanes, noteChanges_ports ports, noteChanges_station station]
    unfold OnlyClients
    rw [items]

/-- The span end of a client sink's adapter. -/
theorem spanEnd_client (ha : s.store.pool[n] = some a) (kind : a.kind = .clientSink) : OnlyClients s (spanEndOf n s) ∧
    (spanEndOf n s).store.pool = s.store.pool.set n (some (ended a)) ∧
    (spanEndOf n s).store.sinks = healed a.tag a s.store.sinks ∧ (spanEndOf n s).pins = s.pins := by
  rcases he : a.ended with _ | e
  · have still : spanEndOf n s = s := spanEndOf_none fun b hb => by
      rw [ha] at hb
      exact Option.some.inj hb ▸ he
    have same : ended a = a := by
      unfold ended
      rw [he]
    have kept : healed a.tag a s.store.sinks = s.store.sinks := by
      refine (List.map_congr_left fun k _ => ?_).trans (List.map_id _)
      unfold counted
      rw [he, ite_self]
      rfl
    refine ⟨still.symm ▸ .refl s, ?_, by rw [still, kept], by rw [still]⟩
    rw [still, same, ← ha]
    exact (Vector.set_getElem_self _).symm
  · have health : healthOf a (a.outcome e) (setAdapter n (some (a.endSpan e)) s) =
        healthSink a.tag (a.outcome e) (setAdapter n (some (a.endSpan e)) s) := by
      unfold healthOf
      rw [kind]
    have same : ended a = a.endSpan e := by
      unfold ended
      rw [he]
    have count : counted a = nextFaultCount (a.outcome e) := by
      unfold counted
      rw [he]
    rw [spanEndOf_some ha he, health, same]
    refine ⟨OnlyClients.trans (t := healthSink a.tag (a.outcome e) (setAdapter n (some (a.endSpan e)) s)) rfl
      (onlyClients_noted rfl rfl rfl rfl), by rw [noted_store]; rfl, ?_, noted_pins ..⟩
    rw [noted_store]
    unfold healed
    rw [count]
    rfl

/-! ### One departure -/

/-- The departure of a client sink, with a span end left over taken first, and its own unless it is left. -/
theorem departSink_client (hk : findSink s.store tag = some k) (held : k.adapter = some n) (bound : k.binding = .client p)
    (ha : s.store.pool[n] = some a) (kind : a.kind = .clientSink) (tagged : a.tag = tag) :
    OnlyClients s (departSink leave s tag) ∧
    (departSink leave s tag).store.pool =
      s.store.pool.set n (some (if n ∈ leave then (ended a).depart.adapter else ended (ended a).depart.adapter)) ∧
    (departSink leave s tag).store.sinks = (if n ∈ leave then healed tag a s.store.sinks
      else healed tag (ended a).depart.adapter (healed tag a s.store.sinks)) ∧
    (departSink leave s tag).pins.clientOut = s.pins.clientOut.set p (.departure (ended a).depart.egress) := by
  obtain ⟨only, pool, sinks, pins⟩ := spanEnd_client ha kind
  rw [tagged] at sinks
  have here : (spanEndOf n s).store.pool[n] = some (ended a) := by
    simp only [pool]
    exact Vector.getElem_set_self _
  obtain ⟨u, hu⟩ : ∃ u, u = { setAdapter n (some (ended a).depart.adapter) (spanEndOf n s) with
      pins := { (spanEndOf n s).pins with
        clientOut := (spanEndOf n s).pins.clientOut.set p (.departure (ended a).depart.egress) } } := ⟨_, rfl⟩
  have made : departSink leave s tag = if n ∈ leave then u else spanEndOf n u := by
    unfold departSink
    rw [hk]
    dsimp only
    rw [held, bound]
    dsimp only
    rw [here, hu]
    rfl
  have onlyU : OnlyClients s u := only.trans (by rw [hu]; rfl)
  have poolU : u.store.pool = s.store.pool.set n (some (ended a).depart.adapter) := by
    rw [hu]
    exact (congrArg (fun v : Vector (Option Adapter) 96 => v.set n (some (ended a).depart.adapter)) pool).trans
      (Vector.set_set ..)
  have sinksU : u.store.sinks = healed tag a s.store.sinks := by
    rw [hu]
    exact sinks
  have outU : u.pins.clientOut = s.pins.clientOut.set p (.departure (ended a).depart.egress) := by
    rw [hu, pins]
  rw [made]
  by_cases left : n ∈ leave
  · simp only [if_pos left]
    exact ⟨onlyU, poolU, sinksU, outU⟩
  · simp only [if_neg left]
    have hereU : u.store.pool[n] = some (ended a).depart.adapter := by
      simp only [poolU]
      exact Vector.getElem_set_self _
    have keeps := depart_keeps (ended a)
    have kindU : (ended a).depart.adapter.kind = .clientSink := keeps.2.1.trans ((ended_keeps a).1.trans kind)
    have tagU : (ended a).depart.adapter.tag = tag := keeps.1.trans ((ended_keeps a).2.trans tagged)
    obtain ⟨last, pool', sinks', pins'⟩ := spanEnd_client hereU kindU
    refine ⟨onlyU.trans last, ?_, ?_, ?_⟩
    · rw [pool', poolU, Vector.set_set]
    · rw [sinks', tagU, sinksU]
    · rw [pins', outU]

/-- The adapter and the port of a client sink (R101, R102). -/
theorem owner_sink (owner : OwnerLaw s) (mem : k ∈ s.store.sinks) (bound : k.binding = .client p) :
    ∃ n a, k.adapter = some n ∧ s.store.pool[n] = some a ∧ a.kind = .clientSink ∧ a.tag = k.tag ∧
      s.store.clientEgr[p] = some k.tag := by
  obtain ⟨n, rnom, kk, held, -, -, a, ha, kind, tag, -⟩ := owner.clientSinks k mem p bound
  exact ⟨n, a, held, ha, kind, tag, (owner.clientEgr p k.tag).mpr ⟨k, mem, rfl, bound⟩⟩

theorem departSink_idle (owner : OwnerLaw s) (out : ∀ k ∈ s.store.sinks, k.tag = tag → ∀ p, k.binding ≠ .client p) :
    departSink leave s tag = s := by
  unfold departSink
  rcases hk : findSink s.store tag with _ | k
  · rfl
  · have same : k.tag = tag := by simpa using List.find?_some hk
    have mem : k ∈ s.store.sinks := List.mem_of_find?_eq_some hk
    dsimp only
    rcases bound : k.binding with p | ⟨p, first⟩
    · exact absurd bound (out k mem same p)
    · rw [(owner.carrierSinks k mem p first bound).1]

/-- What a departure writes: the sink's own record, port and fault count. -/
structure Written (tag : Nat) (s t : State) : Prop where
  only : OnlyClients s t
  pool : ∀ (m : Fin 96) (b : Adapter), s.store.pool[m] = some b → (b.kind ≠ .clientSink ∨ b.tag ≠ tag) → t.store.pool[m] = some b
  sinks : ∀ other, other ≠ tag → findSink t.store other = findSink s.store other
  out : ∀ p : Fin 32, s.store.clientEgr[p] ≠ some tag → t.pins.clientOut[p] = s.pins.clientOut[p]

theorem Written.refl (tag : Nat) (s : State) : Written tag s s := ⟨.refl s, fun _ _ h _ => h, fun _ _ => rfl, fun _ _ => rfl⟩

theorem findSink_healed {st st' : OrderStore} (h : st'.sinks = healed tag a st.sinks) (other : Nat) : findSink st' other =
    (findSink st other).map fun k => if k.tag = tag then { k with faultCount := counted a k.faultCount } else k := by
  have keeps : ∀ k : Sink, (if k.tag = tag then { k with faultCount := counted a k.faultCount } else k).tag = k.tag := fun k => by
    split <;> rfl
  exact (findSink_congr (st := { st with sinks := healed tag a st.sinks }) h other).trans (Selecting.findSink_map keeps other)

theorem findSink_other {st st' : OrderStore} {other : Nat} (ne : other ≠ tag) (h : st'.sinks = healed tag a st.sinks) :
    findSink st' other = findSink st other := by
  rw [findSink_healed h]
  rcases hk : findSink st other with _ | k
  · rfl
  · have same : k.tag = other := by simpa using List.find?_some hk
    rw [Option.map_some, if_neg (same ▸ ne)]

theorem findSink_here {st st' : OrderStore} (hk : findSink st tag = some k) (h : st'.sinks = healed tag a st.sinks) :
    findSink st' tag = some { k with faultCount := counted a k.faultCount } := by
  have same : k.tag = tag := by simpa using List.find?_some hk
  rw [findSink_healed h, hk, Option.map_some, if_pos same]

theorem departSink_written (owner : OwnerLaw s) (leave : List (Fin 96)) (tag : Nat) : Written tag s (departSink leave s tag) := by
  by_cases out : ∀ k ∈ s.store.sinks, k.tag = tag → ∀ p, k.binding ≠ .client p
  · rw [departSink_idle owner out]
    exact .refl tag s
  · simp only [not_forall, not_not] at out
    obtain ⟨k, mem, rfl, p, bound⟩ := out
    obtain ⟨n, a, held, ha, kind, same, bind⟩ := owner_sink owner mem bound
    have hk := findSink_of_mem owner.sinkTags mem
    obtain ⟨only, pool, sinks, out⟩ := departSink_client (leave := leave) hk held bound ha kind same
    refine ⟨only, fun m b hb other => ?_, fun other ne => ?_, fun q hq => ?_⟩
    · have ne : m ≠ n := by
        rintro rfl
        obtain rfl := Option.some.inj (hb.symm.trans ha)
        exact other.elim (fun o => o kind) (fun o => o same)
      simp only [pool]
      exact (SourceChoice.getElem_set_ne _ _ ne).trans hb
    · by_cases left : n ∈ leave
      · rw [if_pos left] at sinks
        exact findSink_other ne sinks
      · rw [if_neg left] at sinks
        exact (findSink_other (st := { s.store with sinks := healed k.tag a s.store.sinks }) ne sinks).trans
          (findSink_other ne rfl)
    · have ne : q ≠ p := fun e => hq (e ▸ bind)
      simp only [out]
      exact SourceChoice.getElem_set_ne _ _ ne

/-! ### All departures -/

theorem foldl_once {α β : Type} {A B : β → Prop} {step : β → α → β} {x : α} (before : ∀ b y, y ≠ x → A b → A (step b y))
    (here : ∀ b, A b → B (step b x)) (after : ∀ b y, y ≠ x → B b → B (step b y)) (xs : List α) (distinct : xs.Nodup)
    (mem : x ∈ xs) (b : β) (h : A b) : B (xs.foldl step b) := by
  induction xs generalizing b with
  | nil => exact absurd mem List.not_mem_nil
  | cons y xs ih =>
    obtain ⟨fresh, distinct⟩ := List.nodup_cons.mp distinct
    by_cases same : y = x
    · subst same
      exact List.foldlRecOn xs step (here b h) fun b hb z hz => after b z (fun e => fresh (e ▸ hz)) hb
    · exact ih distinct (List.mem_of_ne_of_mem (Ne.symm same) mem) _ (before b y same h)

/-- One client sink among the departures of the others. -/
structure Among (k : Sink) (n : Fin 96) (a : Adapter) (egress : Vector (Option Nat) 32) (s : State) : Prop where
  owner : OwnerLaw s
  found : findSink s.store k.tag = some k
  record : s.store.pool[n] = some a
  maps : s.store.clientEgr = egress

theorem Among.other {egress : Vector (Option Nat) 32} (h : Among k n a egress s) (tagged : a.tag = k.tag)
    {other : Nat} (ne : other ≠ k.tag) : Among k n a egress (departSink leave s other) := by
  have written := departSink_written h.owner leave other
  refine ⟨Owners.kept_ownerLaw.departSink leave h.owner other, (written.sinks k.tag ne.symm).trans h.found,
    written.pool n a h.record (.inr (tagged.trans_ne ne.symm)), ?_⟩
  rw [written.only]
  exact h.maps

theorem sinkDepartures_only (owner : OwnerLaw s) (leave : List (Fin 96)) : OnlyClients s (sinkDepartures leave s) ∧
    (∀ p : Fin 32, s.store.clientEgr[p] = none → (sinkDepartures leave s).pins.clientOut[p] = s.pins.clientOut[p]) ∧
    (∀ (m : Fin 96) (b : Adapter), s.store.pool[m] = some b → b.kind ≠ .clientSink →
      (sinkDepartures leave s).store.pool[m] = some b) := by
  have all := List.foldlRecOn (motive := fun t : State => OwnerLaw t ∧ OnlyClients s t ∧
      (∀ p : Fin 32, s.store.clientEgr[p] = none → t.pins.clientOut[p] = s.pins.clientOut[p]) ∧
      (∀ (m : Fin 96) (b : Adapter), s.store.pool[m] = some b → b.kind ≠ .clientSink → t.store.pool[m] = some b))
    (s.store.sinks.map (·.tag)) (departSink leave) (b := s) ⟨owner, .refl s, fun _ _ => rfl, fun _ _ h _ => h⟩ (by
      rintro t ⟨law, only, ports, records⟩ tag -
      have written := departSink_written law leave tag
      refine ⟨Owners.kept_ownerLaw.departSink leave law tag, only.trans written.only, fun p free => ?_, fun m b hb kind => ?_⟩
      · refine (written.out p ?_).trans (ports p free)
        rw [only]
        dsimp only
        rw [free]
        exact nofun
      · exact written.pool m b (records m b hb kind) (.inl kind))
  exact all.2

/-- The fault count after a departure, with its span end unless that is left (R133). -/
def countedTo (leave : List (Fin 96)) (n : Fin 96) (a : Adapter) (i : Nat) : Nat :=
  if n ∈ leave then counted a i else counted (ended a).depart.adapter (counted a i)

/-- A client sink after the departures of all. -/
theorem sinkDepartures_client (owner : OwnerLaw s) (mem : k ∈ s.store.sinks) (bound : k.binding = .client p)
    (held : k.adapter = some n) (ha : s.store.pool[n] = some a) (leave : List (Fin 96)) :
    (sinkDepartures leave s).pins.clientOut[p] = .departure (ended a).depart.egress ∧
    (sinkDepartures leave s).store.pool[n] =
      some (if n ∈ leave then (ended a).depart.adapter else ended (ended a).depart.adapter) ∧
    findSink (sinkDepartures leave s).store k.tag = some { k with faultCount := countedTo leave n a k.faultCount } := by
  obtain ⟨n', a', held', ha', kind, tagged, bind⟩ := owner_sink owner mem bound
  obtain rfl := Option.some.inj (held'.symm.trans held)
  obtain rfl := Option.some.inj (ha'.symm.trans ha)
  obtain ⟨last, hlast⟩ : ∃ b, b = if n' ∈ leave then (ended a').depart.adapter else ended (ended a').depart.adapter := ⟨_, rfl⟩
  obtain ⟨count, hcount⟩ : ∃ c, c = countedTo leave n' a' k.faultCount := ⟨_, rfl⟩
  have keeps := depart_keeps (ended a')
  have departTag : (ended a').depart.adapter.tag = k.tag := keeps.1.trans ((ended_keeps a').2.trans tagged)
  have lastKeeps : last.tag = k.tag := by
    rw [hlast]
    split
    · exact departTag
    · exact (ended_keeps _).2.trans departTag
  rw [← hlast, ← hcount]
  have through := foldl_once (x := k.tag) (A := Among k n' a' s.store.clientEgr)
    (B := fun t => Among { k with faultCount := count } n' last s.store.clientEgr t ∧
      t.pins.clientOut[p] = .departure (ended a').depart.egress)
    (step := departSink leave) (fun t other ne h => h.other tagged ne) (fun t h => ?_) (fun t other ne h => ?_)
    (s.store.sinks.map (·.tag)) owner.sinkTags (List.mem_map.mpr ⟨k, mem, rfl⟩) s
    ⟨owner, findSink_of_mem owner.sinkTags mem, ha, rfl⟩
  · exact ⟨through.2, through.1.record, through.1.found⟩
  · obtain ⟨only, pool, sinks, out⟩ := departSink_client (leave := leave) h.found held bound h.record kind tagged
    refine ⟨⟨Owners.kept_ownerLaw.departSink leave h.owner k.tag, ?_, ?_, ?_⟩, ?_⟩
    · rw [hcount]
      unfold countedTo
      by_cases left : n' ∈ leave
      · rw [if_pos left] at sinks ⊢
        exact findSink_here h.found sinks
      · rw [if_neg left] at sinks ⊢
        exact findSink_here (st := { t.store with sinks := healed k.tag a' t.store.sinks }) (findSink_here h.found rfl) sinks
    · simp only [pool, ← hlast]
      exact Vector.getElem_set_self _
    · rw [only]
      exact h.maps
    · simp only [out]
      exact Vector.getElem_set_self _
  · have written := departSink_written h.1.owner leave other
    refine ⟨h.1.other (k := { k with faultCount := count }) lastKeeps ne, (written.out p ?_).trans h.2⟩
    rw [h.1.maps, bind]
    exact fun e => ne (Option.some.inj e).symm

/-- Settles O37. -/
theorem clientSinkDepartsInItsFrame : Obligations.ClientSinkDepartsInItsFrame := by
  intro leave s runsS owner
  obtain ⟨v, hv⟩ : ∃ v, v = atTime (if s.tx.frameLen = 84 then 83 else 84) s := ⟨_, rfl⟩
  have law : OwnerLaw v := by
    rw [hv]
    exact Owners.kept_ownerLaw.alike owner ⟨rfl, rfl, rfl, rfl⟩
  have store : v.store = s.store := by rw [hv]; rfl
  have pins : v.pins = s.pins := by rw [hv]; rfl
  obtain ⟨only, ports, records⟩ := sinkDepartures_only law leave
  obtain ⟨u, hu⟩ : ∃ u, u = sinkDepartures leave v := ⟨_, rfl⟩
  rw [← hu] at only ports records
  have runs : u.station.state ≠ .cold := by
    rw [only, hv]
    exact runsS
  have finished : finish s u = { u with report := { u.report with
      sinks := (finish s u).report.sinks, attn := (finish s u).report.attn } } := by
    have items := Holding.finish_sinks (s := s) runs (by rw [only, hv]; rfl) (by rw [only, hv]; rfl) (by rw [only, hv]; rfl)
    have station : (finish s u).report.station = u.report.station := by
      rw [finish_running runs]
      exact noteChanges_station (by rw [only, hv]; rfl)
    rwa [station] at items
  have out : (finish s u).pins = u.pins := by rw [finished]
  have orders : (finish s u).store = u.store := by rw [finished]
  refine ⟨finish s u, ?_, ?_, fun p free => ?_, fun n a ha kind => ?_, ?_⟩
  · have goes : running s = true := by simpa [Machine.running] using runsS
    change Host.Outcome.next (if running s then _ else s) = _
    rw [if_pos goes, hu, hv]
  · refine finished.trans ?_
    rw [out, orders]
    generalize (finish s u).report.sinks = items, (finish s u).report.attn = attn
    rw [only, hv]
    rfl
  · rw [out, ports p (by rw [store]; exact free), pins]
  · rw [orders]
    exact records n a (by rw [store]; exact ha) kind
  · intro k p n a b c faults count mem bound held ha hf hb hcount hc
    have fault : faults = nextFaultCount := hf
    have before : b = ended a := hb
    have counts : count = counted a k.faultCount := by
      rw [hcount, fault]
      rfl
    obtain ⟨sent, record, found⟩ := sinkDepartures_client law (by rw [store]; exact mem) bound held (by rw [store]; exact ha) leave
    rw [← hu, ← before, ← hc] at record
    rw [← hu] at sent found
    rw [← before] at sent
    unfold countedTo at found
    rw [← before, ← hc, ← counts] at found
    rw [out, orders, fault]
    refine ⟨sent, fun still => ?_, fun e goes due => ?_⟩
    · by_cases left : n ∈ leave
      · rw [if_pos left] at record found
        exact ⟨record, found⟩
      · have none := still.resolve_left left
        rw [if_neg left] at record found
        have same : ended c = c := by
          unfold ended
          rw [none]
        have kept : counted c count = count := by
          unfold counted
          rw [none]
        exact ⟨record.trans (congrArg some same), found.trans (by rw [kept])⟩
    · rw [if_neg goes] at record found
      have same : ended c = c.endSpan e := by
        unfold ended
        rw [due]
      have next : counted c count = nextFaultCount (c.outcome e) count := by
        unfold counted
        rw [due]
      exact ⟨record.trans (congrArg some same), found.trans (by rw [next])⟩

end Sys2Proof.ClientSinks
end

section
/-! PROOFS. Check instants of a peer lane (R31, R38, R50), and the alignment buffer (R41, R93). -/

namespace Sys2Proof.Windows

open Sys2Proof.Machine Sys2Proof.Safety Sys2Proof.Notices Sys2Proof.Headers

variable {s t u : State} {l : Fin 9} {x y : LaneRx} {words : List Word} {tiles : List Tile}

/-! ### The check instant of an ALIGNED lane -/

/-- An ALIGNED lane's window has closed: without a good header the lane is unheard (R31, R50). -/
def closed (l : Fin 9) (s : State) : State :=
  let t := setLane l (checkedWindow s.lanes[l]) s
  if s.lanes[l].windowHeader then t else event (viewUnheard l) t

theorem windowCheck_aligned (state : s.lanes[l].state = .aligned) : windowCheck l s =
    if missLimit s.lanes[l] then exitAligned l (setLane l (lostLane (checkedWindow s.lanes[l])) (closed l s)) else closed l s := by
  unfold windowCheck closed
  dsimp only
  rw [state]

theorem viewUnheard_onlyLink (l : Fin 9) (s : State) : OnlyLink s (event (viewUnheard l) s) := by
  refine OnlyLink.event ?_
  rcases arrival : s.view[l].unheard with v
  exact .of_view (setView_onlyView l _ _ s)

theorem closed_onlyLink (l : Fin 9) (s : State) : OnlyLink (setLane l (checkedWindow s.lanes[l]) s) (closed l s) := by
  unfold closed
  dsimp only
  split
  · exact .of_orders rfl
  · exact viewUnheard_onlyLink l _

theorem OnlyLink_lanes (h : OnlyLink s t) : t.lanes = s.lanes := by
  unfold OnlyLink at h
  rw [h]

theorem windowCheck_exited (state : s.lanes[l].state = .aligned) (limit : missLimit s.lanes[l] = true) :
    (windowCheck l s).lanes = s.lanes.set l (lostLane (checkedWindow s.lanes[l])) := by
  have inner := OnlyLink_lanes (closed_onlyLink l s)
  rw [windowCheck_aligned state, if_pos limit, OnlyLink_lanes (exitAligned_onlyLink l _)]
  change (closed l s).lanes.set l _ = _
  rw [inner]
  exact Vector.set_set ..

theorem windowCheck_stays (state : s.lanes[l].state = .aligned) (limit : missLimit s.lanes[l] = false) :
    (windowCheck l s).lanes = s.lanes.set l (checkedWindow s.lanes[l]) := by
  rw [windowCheck_aligned state, if_neg (by rw [limit]; exact nofun), OnlyLink_lanes (closed_onlyLink l s)]
  rfl

theorem windowCheck_receiver (h : t.lanes = s.lanes.set l y) : t.lanes[l] = y := by
  simp only [h]
  exact Vector.getElem_set_self _

theorem window_checked (running : s.station.state ≠ .cold) (peer : l ≠ s.station.number) :
    exec (.markerWindowCheck l) s = .next (finish s (windowCheck l s)) := by
  change execMarkerWindowCheck l s = _
  unfold execMarkerWindowCheck
  rw [if_pos (by simp [peerLane, Arrival.running_iff.mpr running, peer])]

/-! ### What the alignment buffer delivers (R41, R93) -/

theorem delivered_eq (x : LaneRx) : delivered x =
    if x.state = .aligned ∧ 0 ≤ x.openWindow + 2 then x.windows.getD (x.openWindow + 2).toNat none else none := rfl

theorem delivered_none (h : x.state ≠ .aligned ∨ x.openWindow < -2) : delivered x = none := by
  rw [delivered_eq]
  refine if_neg fun both => ?_
  rcases h with other | low
  · exact other both.1
  · omega

theorem delivered_window {i : Nat} (state : x.state = .aligned) (two : x.openWindow - (i : Int) = -2) :
    delivered x = (x.windows[i]?).join := by
  have place : (x.openWindow + 2).toNat = i := by omega
  rw [delivered_eq, if_pos ⟨state, by omega⟩, place, List.getD_eq_getElem?_getD]
  rcases x.windows[i]? with _ | w <;> rfl

/-- A frame keeps its window over a check instant. -/
theorem delivered_checked (state : x.state = .aligned) (open_ : x.openWindow ≤ 0) : delivered (checkedWindow x) = delivered x ∧
    (checkedWindow x).windows[0]? = some none := by
  have fields : (checkedWindow x).state = .aligned ∧ (checkedWindow x).openWindow = x.openWindow + 1 ∧
      (checkedWindow x).windows = (none :: x.windows).take 4 := by
    unfold checkedWindow nextWindow missMarker
    cases x.windowMarker <;> simp [state]
  obtain ⟨aligned, next, windows⟩ := fields
  refine ⟨?_, by rw [windows]; rfl⟩
  by_cases low : x.openWindow < -3
  · rw [delivered_none (.inr (by omega)), delivered_none (.inr (by omega))]
  · by_cases edge : x.openWindow = -3
    · rw [delivered_none (x := x) (.inr (by omega)), delivered_window (i := 0) aligned (by omega), windows]
      rfl
    · obtain ⟨i, hi⟩ : ∃ i : Nat, x.openWindow + 2 = i := ⟨(x.openWindow + 2).toNat, by omega⟩
      rw [delivered_window (i := i) state (by omega), delivered_window (i := i + 1) aligned (by omega), windows,
        List.getElem?_take_of_lt (by omega), List.getElem?_cons_succ]

/-- The frame of a header takes the window of its marker. -/
theorem delivered_put (state : x.state = .aligned) (same : y.state = .aligned) (place : y.openWindow = x.openWindow)
    (windows : y.windows = putWindow x.windows x.slot tiles) :
    delivered y = if x.openWindow - (x.slot : Int) = -2 then some tiles else delivered x := by
  rw [delivered_eq, delivered_eq, place, windows, putWindow_getD]
  by_cases here : x.openWindow - (x.slot : Int) = -2
  · rw [if_pos ⟨same, by omega⟩, if_pos here, if_pos (by omega)]
  · rw [if_neg here]
    by_cases low : 0 ≤ x.openWindow + 2
    · rw [if_pos (And.intro same low), if_pos (And.intro state low), if_neg (show (x.openWindow + 2).toNat ≠ x.slot by omega)]
    · rw [if_neg fun both => low both.2, if_neg fun both => low both.2]

/-- The own lane's frame is delivered two own frames after it was sent (R42). -/
theorem delivered_own {capture : Option Int} {heard : Option Heard} (state : x.state = .aligned) (open_ : x.openWindow = 0) :
    let y := { x with capture := capture, heard := heard, windows := (some tiles :: x.windows).take 4 }
    y.openWindow = 0 ∧ y.windows[0]? = some (some tiles) ∧ y.windows[1]? = x.windows[0]? ∧
      delivered y = (x.windows[1]?).join := by
  intro y
  have two : y.openWindow - ((2 : Nat) : Int) = -2 := by
    change x.openWindow - 2 = -2
    omega
  refine ⟨open_, rfl, ?_, (delivered_window (x := y) state two).trans (congrArg Option.join ?_)⟩
  · change ((some tiles :: x.windows).take 4)[1]? = _
    rw [List.getElem?_take_of_lt (by omega), List.getElem?_cons_succ]
  · change ((some tiles :: x.windows).take 4)[2]? = _
    rw [List.getElem?_take_of_lt (by omega), List.getElem?_cons_succ]

/-- The receiver after a header that leaves it ALIGNED (R39, R41). -/
theorem header_windows (state : s.lanes[l].state = .aligned) (still : (laneHeader l words tiles s).lanes[l].state = .aligned) :
    (laneHeader l words tiles s).lanes[l].openWindow = s.lanes[l].openWindow ∧
      (laneHeader l words tiles s).lanes[l].windows = putWindow s.lanes[l].windows s.lanes[l].slot tiles := by
  rcases good : checkGood (words.take 29) with _ | _
  · rw [laneHeader_bad good rfl, setLane_same]
    unfold badHeader
    rw [state]
    exact ⟨rfl, rfl⟩
  · rw [laneHeader_aligned good rfl state] at still ⊢
    by_cases named : (heardOf words).station = l.val
    · have only := passHeader_onlyLink l (heardOf words) (slotsOf words) (epochChanged s.lanes[l].heard (heardOf words).epoch)
        (setLane l (goodHeader (heardOf words) tiles s.lanes[l]) s)
      rw [alignedHeader_named named]
      simp only [OnlyLink_lanes only, setLane_same]
      exact ⟨rfl, rfl⟩
    · rw [alignedHeader_elsewhere named] at still
      simp only [OnlyLink_lanes (exitAligned_onlyLink l _), setLane_same] at still
      exact nomatch still

end Sys2Proof.Windows
end

section
/-! PROOFS. The reads of the sinks and the alignment buffers (R41, R42, R93 to R98): O32. -/

namespace Sys2Proof.Boundary

open Sys2Proof.Machine Sys2Proof.Safety Sys2Proof.Windows Sys2Proof.Frames

variable {s t : State} {spans : List (Fin 96)} {f : Nat} {n : Fin 96} {a : Adapter} {k : Sink} {l : Fin 9}

/-! ### The adapters at the reads -/

theorem deliver_pool_other {e : Sink × Option (Quality × List Block)} (other : e.1.adapter ≠ some n) (s : State) :
    (deliver s e).store.pool[n] = s.store.pool[n] := by
  unfold deliver
  dsimp only
  split
  · rename_i m q blocks held _
    unfold arriveAt
    split
    · rfl
    · have ne : n ≠ m := fun same => other (same ▸ held)
      exact SourceChoice.getElem_set_ne _ _ ne
  · rfl

theorem deliver_pool_here {e : Sink × Option (Quality × List Block)} (held : e.1.adapter = some n) (ha : s.store.pool[n] = some a) :
    (deliver s e).store.pool[n] = some (match e.2 with | some (_, blocks) => a.arrive blocks | none => a) := by
  unfold deliver
  dsimp only
  rw [held]
  rcases e.2 with _ | ⟨q, blocks⟩
  · exact ha
  · unfold arriveAt
    dsimp only
    rw [show (updateSink e.1.tag (·.afterRead (some (q, blocks))) s).store.pool[n] = some a from ha]
    exact Vector.getElem_set_self _

theorem delivers_pool_other (es : List (Sink × Option (Quality × List Block))) (others : ∀ e ∈ es, e.1.adapter ≠ some n)
    (s : State) : (es.foldl deliver s).store.pool[n] = s.store.pool[n] :=
  List.foldlRecOn (motive := fun u : State => u.store.pool[n] = s.store.pool[n]) es deliver rfl
    fun u h e mem => (deliver_pool_other (others e mem) u).trans h

/-- One arrival at a client sink's adapter (R98). -/
theorem delivers_pool {read : Sink → Option (Quality × List Block)} {ks : List Sink} (mem : k ∈ ks)
    (alone : ∀ j ∈ ks, j.adapter = some n → j = k) (distinct : ks.Nodup) (held : k.adapter = some n)
    (ha : s.store.pool[n] = some a) : ((ks.map fun k => (k, read k)).foldl deliver s).store.pool[n] =
      some (match read k with | some (_, blocks) => a.arrive blocks | none => a) := by
  obtain ⟨before, after, rfl⟩ := List.append_of_mem mem
  obtain ⟨-, rest, apart⟩ := List.nodup_append.mp distinct
  obtain ⟨fresh, -⟩ := List.nodup_cons.mp rest
  rw [List.map_append, List.foldl_append, List.map_cons, List.foldl_cons]
  refine (delivers_pool_other _ (fun e he => ?_) _).trans (deliver_pool_here held ?_)
  · obtain ⟨j, hj, rfl⟩ := List.mem_map.mp he
    intro same
    exact fresh (alone j (List.mem_append_right _ (List.mem_cons_of_mem _ hj)) same ▸ hj)
  · refine (delivers_pool_other _ (fun e he => ?_) _).trans ha
    obtain ⟨j, hj, rfl⟩ := List.mem_map.mp he
    intro same
    exact apart j hj k List.mem_cons_self (alone j (List.mem_append_left _ hj) same)

theorem notify_pool (old new : Option Manifest) (s : State) : (notify old new s).store.pool = s.store.pool := by
  have placed := Tables.onlySources_noticePlacement old new s
  have kept : (noticePlacement old new s).store.pool = s.store.pool := by
    unfold Tables.OnlySources at placed
    rw [placed]
  refine (?_ : _ = _).trans kept
  exact List.foldlRecOn (motive := fun u : State => u.store.pool = (noticePlacement old new s).store.pool) _ _ rfl
    fun _ h _ _ => h

theorem viewed_store (spans : List (Fin 96)) (s : State) :
    (viewed spans s).store = (readOut (sentGroups spans s) (departed spans s)).store := rfl

theorem framed_pool (spans : List (Fin 96)) (s : State) : (framed spans s).store.pool =
    ((reads (heardBack (sentGroups spans s) (departed spans s))).foldl deliver
      (heardBack (sentGroups spans s) (departed spans s))).store.pool := by
  have read : (viewed spans s).store.pool = ((reads (heardBack (sentGroups spans s) (departed spans s))).foldl deliver
      (heardBack (sentGroups spans s) (departed spans s))).store.pool := by
    rw [viewed_store]
    exact (congrArg (fun u : State => u.store.pool) (readAndDeliver_eq (heardBack (sentGroups spans s) (departed spans s)))).trans rfl
  rw [framed_store]
  split
  · exact (notify_pool _ _ _).trans read
  · exact read

/-- The arrivals of a frame: what each sink's read delivers. -/
theorem framed_arrivals (spans : List (Fin 96)) (s : State) : ∃ b : State, b.store = (departed spans s).store ∧
    (framed spans s).store.pool = (((departed spans s).store.sinks.map fun k =>
      (k, sinkRead (framed spans s).lanes k)).foldl deliver b).store.pool := by
  refine ⟨heardBack (sentGroups spans s) (departed spans s), heardBack_store _ _, (framed_pool spans s).trans ?_⟩
  unfold reads
  rw [heardBack_store, heardBack_lanes]

/-- A sink's adapter after the own frame: the arrival of what its read delivers, if it delivers anything. -/
theorem framed_adapter (owner : OwnerLaw s) (mem : k ∈ s.store.sinks) (held : k.adapter = some n)
    (ha : s.store.pool[n] = some a) (spans : List (Fin 96)) : (framed spans s).store.pool[n] =
      some (match sinkRead (framed spans s).lanes k with | some (_, blocks) => a.arrive blocks | none => a) := by
  have client : a.kind = .clientSink := by
    rcases bound : k.binding with p | ⟨p, first⟩
    · obtain ⟨m, b, heldm, hb, kind, -⟩ := ClientSinks.owner_sink owner mem bound
      obtain rfl := Option.some.inj (held.symm.trans heldm)
      exact Option.some.inj (hb.symm.trans ha) ▸ kind
    · exact absurd (held.symm.trans (owner.carrierSinks k mem p first bound).1) nofun
  have record := departed_sink_adapter owner ha client spans
  have law : OwnerLaw (departed spans s) :=
    Owners.kept_ownerLaw.noted (Owners.kept_ownerLaw.sourceDepartures spans (Owners.kept_ownerLaw.beginFrame owner)) _
  obtain ⟨g, keeps, sinks⟩ := departed_sinks spans s
  have mem' : g k ∈ (departed spans s).store.sinks := sinks ▸ List.mem_map_of_mem mem
  have held' : (g k).adapter = some n := by
    rw [keeps]
    exact held
  have alone : ∀ j ∈ (departed spans s).store.sinks, j.adapter = some n → j = g k := fun j hj same => by
    have tagged : ∀ i ∈ (departed spans s).store.sinks, i.adapter = some n → i.tag = a.tag := fun i hi hn => by
      rcases bound : i.binding with p | ⟨p, first⟩
      · obtain ⟨m, b, heldm, hb, -, tag, -⟩ := ClientSinks.owner_sink law hi bound
        obtain rfl := Option.some.inj (hn.symm.trans heldm)
        exact Option.some.inj (hb.symm.trans record) ▸ tag.symm
      · exact absurd (hn.symm.trans (law.carrierSinks i hi p first bound).1) nofun
    exact List.inj_on_of_nodup_map law.sinkTags hj mem' ((tagged j hj same).trans (tagged (g k) mem' held').symm)
  have distinct : (departed spans s).store.sinks.Nodup := List.Nodup.of_map _ law.sinkTags
  have reading : ∀ lanes, sinkRead lanes (g k) = sinkRead lanes k := fun lanes =>
    (congrArg (sinkRead lanes) (keeps k)).trans (sinkRead_count lanes k _)
  rw [← reading]
  obtain ⟨b, store, pool⟩ := framed_arrivals spans s
  simp only [pool]
  exact delivers_pool mem' alone distinct held' (store ▸ record)

/-- What a sink's record holds of the read of its frame (R94, R96). -/
theorem read_taken (a : Nat) (t : State) (k : Sink) : ((servedSink a t k).delivered, (servedSink a t k).slips) =
    match sinkRead t.lanes k with
    | some (q, _) => (q, k.slips)
    | none => (.failed, if k.sel = none then k.slips else min 255 (k.slips + 1)) := by
  unfold servedSink
  rcases sinkRead t.lanes k with _ | ⟨q, blocks⟩
  · rw [afterRead_none]
  · rfl

theorem judged_read (t : State) (k : Sink) :
    (Notices.judgedSink t k).delivered = k.delivered ∧ (Notices.judgedSink t k).slips = k.slips := by
  unfold Notices.judgedSink
  rw [Notices.evaluate_keeps]
  exact ⟨rfl, rfl⟩

theorem wtrStep_read (k : Sink) (cs : List Selection) (hold : Bool) :
    (k.wtrStep cs hold).delivered = k.delivered ∧ (k.wtrStep cs hold).slips = k.slips := by
  unfold Sink.wtrStep
  split
  · exact ⟨rfl, rfl⟩
  · split
    · split
      · rw [Notices.choose_keeps]
        exact ⟨rfl, rfl⟩
      · exact ⟨rfl, rfl⟩
    · exact ⟨rfl, rfl⟩

/-- The delivered mark and the slips of a sink after the boundary. -/
theorem sink_after_read (owner : OwnerLaw s) (mem : k ∈ s.store.sinks) {b : State} (hb : b = framed spans s)
    (ended : Ended [] f b t) : (findSink t.store k.tag).map (fun e => (e.delivered, e.slips)) = some
    (match sinkRead b.lanes k with
      | some (q, _) => (q, k.slips)
      | none => (.failed, if k.sel = none then k.slips else min 255 (k.slips + 1))) := by
  obtain ⟨c, found⟩ := framed_findSink owner.sinkTags spans mem
  rw [← hb] at found
  have taken : (findSink b.store k.tag).map (fun e => (e.delivered, e.slips)) =
      some ((servedSink c b k).delivered, (servedSink c b k).slips) := by
    rw [found, Option.map_some]
    split
    · rw [(judged_read _ _).1, (judged_read _ _).2]
    · rfl
  refine Eq.trans ?_ (taken.trans (congrArg some (read_taken c b k)))
  rcases ended.sinks with same | stepped
  · rw [findSink_congr same]
  · rw [findSink_congr (st := { b.store with sinks := _ }) stepped,
      Selecting.findSink_map (fun k => Selecting.wtrStep_tag k _ _), Option.map_map]
    congr 1
    funext e
    exact Prod.ext (wtrStep_read e _ _).1 (wtrStep_read e _ _).2

theorem ended_pool {b : State} (ended : Ended [] f b t) : t.store.pool = b.store.pool :=
  (congrArg (fun u : State => u.store.pool) ended.rest).trans rfl

/-- Settles O32. -/
theorem sinkReadPassesTheTagCheckOrSlips : Obligations.SinkReadPassesTheTagCheckOrSlips := by
  refine ⟨fun lanes k => ⟨fun none => ⟨sinkRead_wanting none, ?_⟩, fun sel => sinkRead_undelivered, fun sel tiles hsel hdel =>
    ⟨fun passes => ?_, fun fails => ?_⟩, fun some none => ?_⟩, fun spans f s t k plain owner mem h => ?_,
    fun x => ⟨delivered_none, fun i => delivered_window⟩, fun l s u runs peer state place h still => ?_,
    fun l words tiles s u runs peer state h still => ?_, fun spans f s t me plain hme h => ?_⟩
  · rw [sinkRead_wanting none, afterRead_none, if_pos none]
  · obtain ⟨q, blocks, read, mark, length⟩ := readGroup_passes (cls := k.cls) passes
    have reads := (sinkRead_delivered hsel hdel).trans read
    exact ⟨q, blocks, reads, mark, length, by rw [reads]; rfl⟩
  · exact (sinkRead_delivered hsel hdel).trans (readGroup_fails fails)
  · rw [none, afterRead_none, if_neg some]
  · have ended := plain_ended plain (.inl rfl) h
    rw [ended.parts.1]
    refine ⟨sink_after_read owner mem rfl ended, fun n a held ha => ?_⟩
    simp only [ended_pool ended]
    exact framed_adapter owner mem held ha spans
  · rw [window_checked runs peer] at h
    obtain rfl := Host.Outcome.next.inj h
    simp only [finish_lanes] at still ⊢
    rcases limit : missLimit s.lanes[l] with _ | _
    · rw [windowCheck_receiver (windowCheck_stays state limit)]
      exact delivered_checked state place
    · rw [windowCheck_receiver (windowCheck_exited state limit)] at still
      exact nomatch still
  · rw [Headers.header_received runs peer] at h
    obtain rfl := Host.Outcome.next.inj h
    simp only [finish_lanes] at still ⊢
    obtain ⟨place, windows⟩ := header_windows state still
    exact delivered_put state still place windows
  · subst hme
    have ended := plain_ended plain (.inl rfl) h
    obtain ⟨lanes, -, pins, -⟩ := ended.parts
    rw [lanes, pins]
    refine ⟨fun l peer => ?_, fun state open_ => ?_⟩
    · rw [framed_peer spans peer]
      exact ⟨rfl, fun state => if_pos (.inr state)⟩
    · have tiles : (framed spans s).pins.laneOut.map (·.tiles) =
          some (laneTiles (sentGroups spans s) (framed spans s).tx.frameLen) := by
        rw [framed_laneOut, framed_tx, ← departed_tx]
        rfl
      rw [tiles, framed_own]
      exact delivered_own state open_

end Sys2Proof.Boundary
end

section
/-! PROOFS. The exit of a lane from ALIGNED (R38, R40, R56, R159): second drift and eighth missed marker (O52, O54). -/

namespace Sys2Proof.Windows

open Sys2Proof.Machine Sys2Proof.Safety Sys2Proof.Notices Sys2Proof.Rejudgement Sys2Proof.Headers Sys2Proof.Pulses

variable {s u v m : State} {l : Fin 9} {x y : LaneRx} {t : Nat} {held : Int}

/-! ### What an exit brings -/

theorem finished_exit (s v : State) (l : Fin 9) : finish s (exitAligned l v) = { v with
    view := (finish s (exitAligned l v)).view, timing := (finish s (exitAligned l v)).timing
    store := (finish s (exitAligned l v)).store, report := (finish s (exitAligned l v)).report } := by
  have only := (exitAligned_onlyLink l v).trans (.of_orders (finish_onlyOrders s (exitAligned l v)))
  have carriers : (finish s (exitAligned l v)).carriers = v.carriers := (finish_carriers ..).trans (exitAligned_carriers l v)
  unfold OnlyLink at only
  rwa [carriers] at only

/-- The lane has left ALIGNED in `v`. -/
theorem exit_outcome (exited : v.lanes[l].state ≠ .aligned) (timing : v.timing = s.timing) (hu : u = finish s (exitAligned l v)) :
    u.view = v.view.set l (exitView v.view[l]) ∧
    u.timing.lanes[l] = { alignedRounds := 0, wholeRound := false, qualified := false } ∧ Rejudged l s u ∧ NoneOn l u ∧
    ((v.store.sinks.map (·.tag)).Nodup → m.store = v.store → m.view[l].manifest = v.view[l].manifest →
      m.pins.hold = v.pins.hold → u.store = exitStore l m u) := by
  have timed : TimedAlike (timingExit l v) u := by
    rw [hu]
    exact (exitAligned_timed l v).trans (.finish s _)
  have store : u.store = (exitOrders l v).store := by rw [hu, finish_store, (exitAligned_seen l v).store]
  have view : u.view = v.view.set l (exitView v.view[l]) := by
    rw [hu, finish_view, (exitAligned_seen l v).view, exitOrders_view]
  refine ⟨view, ?_, rejudged_congr (rejudged_timingExit exited) timing.symm timed, ?_, fun tags mstore mview mhold => ?_⟩
  · rw [timed.timing, timingExit_lane]
  · unfold NoneOn
    rw [store]
    exact exitOrders_noneOn exited
  · rw [store]
    exact exitOrders_store tags exited mstore mview mhold (by rw [hu, finished_exit]) view

/-! ### Markers of an ALIGNED lane (R36, R37) -/

theorem laneMarker_aligned (state : s.lanes[l].state = .aligned) (hheld : s.lanes[l].held = some held) : laneMarker l t s =
    if driftsOut held (skewOf t) s.lanes[l] then exitAligned l (setLane l (startAligning t s.lanes[l]) (atTime t s))
    else setLane l (alignedMarker held t s.lanes[l]) (atTime t s) := by
  unfold laneMarker
  dsimp only [atTime]
  rw [state]
  dsimp only
  rw [hheld]

/-- A good marker, and what it makes of the receiver but for its window. -/
theorem marker_good (running : s.station.state ≠ .cold) (peer : l ≠ s.station.number) (state : s.lanes[l].state = .aligned)
    (hheld : s.lanes[l].held = some held) (stays : driftsOut held (skewOf t) s.lanes[l] = false)
    (made : alignedMarker held t s.lanes[l] = { y with
      capture := some (skewOf t), missed := 0, slot := 0, windowMarker := true
      windows := putWindow s.lanes[l].windows 0 [] }) :
    exec (.laneMarkerArrival l t) s = .next (finish s { s with
      tx := { s.tx with tileTime := t }
      lanes := s.lanes.set l { y with capture := some (skewOf t), missed := 0, slot := 0, windowMarker := true
                                      windows := putWindow s.lanes[l].windows 0 [] } }) := by
  rw [exec_laneMarker (peerLane_iff.mpr ⟨running, peer⟩), laneMarker_aligned state hheld, stays, made]
  rfl

theorem exec_trackingMove (peer : peerLane l s = true) : exec (.trackingMove l t) s =
    if tracksNow l t s then exec (.laneMarkerArrival l t) s else .next s := by
  rw [exec_laneMarker peer]
  change Host.Outcome.next (if (peerLane l s && tracksNow l t s) = true then _ else s) = _
  rw [peer, Bool.true_and]
  split <;> rfl

theorem tracksNow_eq (state : s.lanes[l].state = .aligned) (hheld : s.lanes[l].held = some held) :
    tracksNow l t s = trackingReaches held (skewOf t) s.lanes[l] := by
  unfold tracksNow
  rw [state, hheld]
  rfl

theorem driftsOut_near (near : within 2 (skewOf t) held = true) (x : LaneRx) : driftsOut held (skewOf t) x = false := by
  unfold driftsOut
  rw [near]
  rfl

theorem alignedMarker_near (near : within 2 (skewOf t) held = true) (x : LaneRx) : alignedMarker held t x =
    trackMarker held (skewOf t) { heardMarker t x with windows := putWindow x.windows 0 [] } := if_pos near

theorem trackingReaches_iff {skew : Int} : trackingReaches held skew x = true ↔
    (skew ≠ held ∧ within 2 skew held = true) ∧ x.trackCount = 15 ∧ x.trackMinus = decide (skew < held) := by
  unfold trackingReaches
  simp only [Bool.and_eq_true, decide_eq_true_iff, and_assoc]

/-- The tracking of a marker beside held skew (R36). -/
theorem trackMarker_beside {skew : Int} (other : skew ≠ held) : trackMarker held skew x =
    if trackingReaches held skew { x with drift := 0 } then
      { x with drift := 0, trackCount := 0, held := some (moveHeld x.trackMinus held) }
    else if 0 < x.trackCount ∧ x.trackMinus = decide (skew < held) then { x with drift := 0, trackCount := x.trackCount + 1 }
    else { x with drift := 0, trackMinus := decide (skew < held), trackCount := 1 } := if_neg other

theorem driftsOut_iff (far : within 2 (skewOf t) held = false) : driftsOut held (skewOf t) x = true ↔ x.drift ≠ 0 := by
  unfold driftsOut
  rw [far]
  simp

/-- Settles O52. -/
theorem alignedMarkersTrackAndDrift : Obligations.AlignedMarkersTrackAndDrift := by
  rintro l t s x skew held good running peer hx state hheld (place : skew = skewOf t) rfl
  subst place
  have arrives := fun y => marker_good (y := y) (t := t) running peer (hx ▸ state) (hx ▸ hheld)
  have taken : peerLane l s = true := peerLane_iff.mpr ⟨running, peer⟩
  have moves := exec_trackingMove (t := t) taken
  rw [tracksNow_eq (hx ▸ state) (hx ▸ hheld), ← hx] at moves
  rw [← hx] at arrives
  refine ⟨fun same => ?_, fun other low high => ?_, fun outside => ⟨fun first => ?_, fun second => ?_⟩, fun few => ?_⟩
  · have near : within 2 (skewOf t) held = true := within_iff.mpr (by omega)
    refine arrives _ (driftsOut_near near _) ((alignedMarker_near near _).trans ?_)
    unfold trackMarker
    dsimp only
    rw [if_pos same]
    rfl
  · have near : within 2 (skewOf t) held = true := within_iff.mpr (by omega)
    have tracked := fun y => arrives y (driftsOut_near near _)
    rw [alignedMarker_near near, trackMarker_beside other] at tracked
    have reaches : (trackingReaches held (skewOf t)
        { ({ heardMarker t x with windows := putWindow x.windows 0 [] } : LaneRx) with drift := 0 } = true) ↔
        x.trackCount = 15 ∧ x.trackMinus = decide (skewOf t < held) :=
      trackingReaches_iff.trans (and_iff_right ⟨other, near⟩)
    refine ⟨fun begins => tracked _ ?_, fun some notlast side => tracked _ ?_, fun last side => ?_⟩
    · rw [if_neg fun h => ?_, if_neg fun h => ?_]
      · rfl
      · rcases begins with none | away
        · exact absurd h.1 (by change ¬ 0 < x.trackCount; omega)
        · exact away h.2
      · obtain ⟨count, side⟩ := reaches.mp h
        rcases begins with none | away
        · omega
        · exact away side
    · rw [if_neg fun h => notlast (reaches.mp h).1, if_pos ⟨some, side⟩]
      rfl
    · have now : trackingReaches held (skewOf t) x = true := trackingReaches_iff.mpr ⟨⟨other, near⟩, last, side⟩
      rw [if_pos now] at moves
      refine ⟨moves, moves.trans (tracked _ ?_)⟩
      rw [if_pos (reaches.mpr ⟨last, side⟩)]
      change _ = ({ x with
        capture := .some (skewOf t), missed := 0, slot := 0, windowMarker := true, windows := putWindow x.windows 0 []
        drift := 0, trackCount := 0
        held := .some (if skewOf t < held then max (-24) (held - 1) else min 24 (held + 1)) } : LaneRx)
      have moved : moveHeld x.trackMinus held = if skewOf t < held then max (-24) (held - 1) else min 24 (held + 1) := by
        unfold moveHeld
        rw [side]
        simp only [decide_eq_true_iff]
        rfl
      rw [← moved]
      rfl
  · have far : within 2 (skewOf t) held = false := not_within_iff.mpr (by omega)
    have stays : driftsOut held (skewOf t) x = false :=
      Bool.eq_false_iff.mpr fun h => (driftsOut_iff far).mp h first
    refine arrives _ stays (if_neg ?_)
    rw [far]
    exact nofun
  · have far : within 2 (skewOf t) held = false := not_within_iff.mpr (by omega)
    obtain ⟨v, hv⟩ : ∃ v, v = setLane l (startAligning t s.lanes[l]) (atTime t s) := ⟨_, rfl⟩
    have lane : v.lanes[l] = startAligning t x := by rw [hv, setLane_same, hx]
    have exited : v.lanes[l].state ≠ .aligned := by
      rw [lane]
      exact RxState.noConfusion
    obtain ⟨u, hu⟩ : ∃ u, u = finish s (exitAligned l v) := ⟨_, rfl⟩
    obtain ⟨view, counts, rejudged, none, store⟩ := exit_outcome (m := s) exited (by rw [hv]; rfl) hu
    have frame := finished_exit s v l
    rw [← hu] at frame
    have lanes : u.lanes = s.lanes.set l (startAligning t x) := by
      rw [frame, hv, hx]
      rfl
    refine ⟨u, ?_, lanes.trans (by rw [startAligning_eq]), ?_, ?_, counts, rejudged, none, fun table => store ?_ ?_ ?_ ?_⟩
    · rw [exec_laneMarker taken, laneMarker_aligned (hx ▸ state) (hx ▸ hheld), if_pos (hx ▸ (driftsOut_iff far).mpr second), hu, hv]
    · rw [lanes]
      refine frame.trans ?_
      generalize u.view = uview, u.timing = utiming, u.store = ustore, u.report = ureport
      rw [hv, hx]
      rfl
    · rw [view, hv]
      rfl
    · rw [hv]
      exact table.tags
    · rw [hv]
      rfl
    · rw [hv]
      rfl
    · rw [hv]
      rfl
  · rw [moves, if_neg fun h => few (trackingReaches_iff.mp h).2.1]

end Sys2Proof.Windows
end

section
/-! PROOFS. Check instants of the peer lanes (R31, R38, R50, R52): O54. -/

namespace Sys2Proof.Windows

open Sys2Proof.Machine Sys2Proof.Safety Sys2Proof.Notices Sys2Proof.Rejudgement Sys2Proof.Headers Sys2Proof.Pulses

variable {s u v : State} {l : Fin 9} {x : LaneRx}

/-! ### The receiver at a check instant -/

/-- The window that opens next (R31). -/
def opened (x : LaneRx) : LaneRx :=
  { x with openWindow := x.openWindow + 1, slot := x.slot + 1, windowMarker := false, windowHeader := false }

/-- The receiver after a missed marker (R31). -/
def missing (x : LaneRx) : LaneRx :=
  { opened x with capture := none, trackCount := 0, drift := 0, matchCount := 0, missed := x.missed + 1 }

theorem checkedWindow_heard (marker : x.windowMarker = true) : checkedWindow x =
    { opened x with windows := if x.state = .aligned then (none :: x.windows).take 4 else x.windows } := by
  unfold checkedWindow
  rw [if_pos marker]
  rfl

theorem checkedWindow_missed (marker : x.windowMarker = false) : checkedWindow x =
    { missing x with windows := if x.state = .aligned then (none :: x.windows).take 4 else x.windows } := by
  unfold checkedWindow
  rw [marker]
  rfl

theorem checkedWindow_aligned (state : x.state = .aligned) : checkedWindow x =
    { (if x.windowMarker then opened x else missing x) with windows := (none :: x.windows).take 4 } := by
  rcases marker : x.windowMarker with _ | _
  · rw [checkedWindow_missed marker, if_pos state]
    rfl
  · rw [checkedWindow_heard marker, if_pos state]
    rfl

theorem checkedWindow_aligning (state : x.state = .aligning) :
    checkedWindow x = if x.windowMarker then opened x else missing x := by
  have other : x.state ≠ .aligned := by
    rw [state]
    exact RxState.noConfusion
  rcases marker : x.windowMarker with _ | _
  · rw [checkedWindow_missed marker, if_neg other]
    rfl
  · rw [checkedWindow_heard marker, if_neg other]
    rfl

theorem missLimit_iff : missLimit x = true ↔ x.windowMarker = false ∧ 7 ≤ x.missed := by simp [missLimit]

theorem missLimit_false (h : x.windowMarker = true ∨ x.missed < 7) : missLimit x = false := by
  refine Bool.eq_false_iff.mpr fun limit => ?_
  obtain ⟨marker, many⟩ := missLimit_iff.mp limit
  rcases h with heard | few
  · exact absurd (marker.symm.trans heard) nofun
  · omega

/-! ### The commands -/

theorem windowCheck_aligning (state : s.lanes[l].state = .aligning) : windowCheck l s =
    setLane l (if missLimit s.lanes[l] then absentLane (checkedWindow s.lanes[l]) else checkedWindow s.lanes[l]) s := by
  unfold windowCheck
  dsimp only
  rw [state]

theorem windowCheck_unaligned (state : s.lanes[l].state = .absent ∨ s.lanes[l].state = .lost) : windowCheck l s = s := by
  unfold windowCheck
  dsimp only
  rcases state with state | state <;> rw [state]

theorem exec_missedMarkerLimit (running : s.station.state ≠ .cold) (peer : l ≠ s.station.number) :
    exec (.missedMarkerLimit l) s = if missesOut s.lanes[l] then exec (.markerWindowCheck l) s else .next s := by
  rw [window_checked running peer]
  change Host.Outcome.next (if (peerLane l s && missesOut s.lanes[l]) = true then _ else s) = _
  rw [peerLane_iff.mpr ⟨running, peer⟩, Bool.true_and]
  split <;> rfl

theorem missesOut_iff : missesOut x = true ↔ (x.state = .aligned ∨ x.state = .aligning) ∧ missLimit x = true := by
  simp [missesOut]

/-! ### A lane unheard -/

theorem setView_same (l : Fin 9) (s : State) : setView l s.view[l] false s = s := by
  unfold setView
  have plain : ¬ (false || s.view[l].manifest.isSome && s.view[l].manifest.isNone) = true := by
    cases s.view[l].manifest <;> exact nofun
  rw [if_neg plain, show s.view.set l s.view[l] = s.view from Vector.set_getElem_self _]

/-- The record of a lane as the check instant leaves it (R50, R52). -/
def unheardView (l : Fin 9) (s : State) : LaneView := if s.lanes[l].windowHeader then s.view[l] else s.view[l].unheard

theorem seen_checked (state : s.lanes[l].state = .aligned) : SeenAlike s (setLane l (checkedWindow s.lanes[l]) s) := by
  refine ⟨rfl, rfl, fun i => ?_, rfl⟩
  by_cases same : i = l
  · subst same
    rw [setLane_same, checkedWindow_aligned state]
    split <;> rfl
  · rw [setLane_other _ _ _ _ (Ne.symm same)]

/-- Orders and records after the window has closed. -/
theorem closed_seen (state : s.lanes[l].state = .aligned) : SeenAlike (setView l (unheardView l s) false s) (closed l s) := by
  have seen := seen_checked state
  unfold closed unheardView
  dsimp only
  cases s.lanes[l].windowHeader with
  | true =>
    simp only [if_true]
    rw [setView_same]
    exact seen
  | false => exact (seen.setView l s.view[l].unheard false).trans (.noted _ _)

theorem closed_view (state : s.lanes[l].state = .aligned) : (closed l s).view = s.view.set l (unheardView l s) := by
  rw [(closed_seen state).view, setView_view]

theorem closed_heard (header : s.lanes[l].windowHeader = true) : closed l s = setLane l (checkedWindow s.lanes[l]) s :=
  if_pos header

/-- The lane is unheard and stays ALIGNED. -/
theorem unheard_outcome (state : s.lanes[l].state = .aligned) (header : s.lanes[l].windowHeader = false)
    (hu : u = finish s (closed l s)) :
    u = { s with lanes := u.lanes, view := u.view, store := u.store, report := u.report } ∧
    u.lanes = s.lanes.set l (checkedWindow s.lanes[l]) ∧ u.view = s.view.set l s.view[l].unheard ∧
    u.store = (setView l s.view[l].unheard false s).store := by
  have record : unheardView l s = s.view[l].unheard := by
    unfold unheardView
    rw [header]
    rfl
  have made : closed l s = event (viewUnheard l) (setLane l (checkedWindow s.lanes[l]) s) := by
    unfold closed
    rw [header]
    rfl
  have only : OnlyView (setLane l (checkedWindow s.lanes[l]) s) (viewUnheard l (setLane l (checkedWindow s.lanes[l]) s)) :=
    setView_onlyView l _ _ _
  have whole := (OnlyLink.of_view only).event.trans (.of_orders (finish_onlyOrders s _))
  rw [← made, ← hu] at whole
  have timing : u.timing = s.timing := by
    rw [hu, finish_timing, made, event, noted_timing, only]
    rfl
  have carriers : u.carriers = s.carriers := by
    rw [hu, finish_carriers, made, event, noted_carriers, only]
    rfl
  have lanes : u.lanes = s.lanes.set l (checkedWindow s.lanes[l]) := OnlyLink_lanes whole
  refine ⟨?_, lanes, ?_, ?_⟩
  · rw [lanes]
    unfold OnlyLink at whole
    rw [timing, carriers] at whole
    exact whole
  · rw [hu, finish_view, closed_view state, record]
  · rw [hu, finish_store, (closed_seen state).store, record]

/-- The eighth missed marker of an ALIGNED lane. -/
theorem lost_outcome (state : s.lanes[l].state = .aligned)
    (hu : u = finish s (exitAligned l (setLane l (lostLane (checkedWindow s.lanes[l])) (closed l s)))) :
    u.lanes = s.lanes.set l (lostLane (checkedWindow s.lanes[l])) ∧
    u = { s with lanes := u.lanes, view := u.view, timing := u.timing, store := u.store, report := u.report } ∧
    u.view = s.view.set l (exitView (unheardView l s)) ∧
    u.timing.lanes[l] = { alignedRounds := 0, wholeRound := false, qualified := false } ∧ Rejudged l s u ∧ NoneOn l u ∧
    (SinkTable s → u.store = exitStore l (setView l (unheardView l s) false s) u) := by
  obtain ⟨v, hv⟩ : ∃ v, v = setLane l (lostLane (checkedWindow s.lanes[l])) (closed l s) := ⟨_, rfl⟩
  have only := closed_onlyLink l s
  have seen := closed_seen state
  have view := closed_view state
  have kept : (closed l s).timing = s.timing ∧ (closed l s).carriers = s.carriers := by
    rcases header : s.lanes[l].windowHeader with _ | _
    · obtain ⟨frame, -⟩ := unheard_outcome state header rfl
      have timing := (congrArg State.timing frame).trans rfl
      have carriers := (congrArg State.carriers frame).trans rfl
      rw [finish_timing] at timing
      rw [finish_carriers] at carriers
      exact ⟨timing, carriers⟩
    · rw [closed_heard header]
      exact ⟨rfl, rfl⟩
  have exited : v.lanes[l].state ≠ .aligned := by
    rw [hv, setLane_same]
    exact RxState.noConfusion
  have vview : v.view = s.view.set l (unheardView l s) := by
    rw [hv]
    exact view
  have record : v.view[l] = unheardView l s := by
    simp only [vview]
    exact Vector.getElem_set_self _
  have lanes : v.lanes = s.lanes.set l (lostLane (checkedWindow s.lanes[l])) := by
    rw [hv]
    change (closed l s).lanes.set l _ = _
    rw [OnlyLink_lanes only]
    exact Vector.set_set ..
  have rest : v = { s with lanes := v.lanes, view := v.view, store := v.store, report := v.report } := by
    have inner : closed l s = { s with lanes := (closed l s).lanes, view := (closed l s).view
                                       store := (closed l s).store, report := (closed l s).report } := by
      unfold OnlyLink at only
      rw [kept.1, kept.2] at only
      rw [OnlyLink_lanes (closed_onlyLink l s)]
      exact only
    rw [hv]
    generalize closed l s = c at inner ⊢
    rw [inner]
    rfl
  rw [← hv] at hu
  have frame := finished_exit s v l
  rw [← hu] at frame
  have ulanes : u.lanes = v.lanes := (congrArg State.lanes frame).trans rfl
  obtain ⟨uview, counts, rejudged, none, store⟩ := exit_outcome (s := s) (m := setView l (unheardView l s) false s) exited
    (by rw [rest]) hu
  refine ⟨ulanes.trans lanes, ?_, ?_, counts, rejudged, none, fun table => store ?_ ?_ ?_ ?_⟩
  · rw [ulanes]
    refine frame.trans ?_
    generalize u.view = uview, u.timing = utiming, u.store = ustore, u.report = ureport
    generalize v.lanes = vlanes at rest ⊢
    rw [rest]
  · rw [uview, record, vview]
    exact Vector.set_set ..
  · rw [hv]
    change ((closed l s).store.sinks.map (·.tag)).Nodup
    rw [seen.store, setView_sinkTags]
    exact table.tags
  · rw [hv]
    exact seen.store.symm
  · rw [record, setView_view]
    exact congrArg LaneView.manifest (Vector.getElem_set_self _)
  · rw [hv]
    exact seen.hold.symm

/-- Settles O54. -/
theorem windowsCountMissedMarkers : Obligations.WindowsCountMissedMarkers := by
  rintro l s x next missed before running peer hx hbefore (rfl : next = opened x) (rfl : missed = missing x)
  have closes := window_checked running peer
  have limits := exec_missedMarkerLimit running peer
  rw [← hx] at limits
  have record : before = unheardView l s := by rw [hbefore, hx]; rfl
  refine ⟨fun state => ?_, fun state => ?_, fun state => ?_, fun few => ?_⟩
  · rw [closes, windowCheck_unaligned (hx ▸ state)]
  · rw [windowCheck_aligning (hx ▸ state), ← hx, checkedWindow_aligning state] at closes
    refine ⟨fun marker => ?_, fun marker few => ?_, fun marker many => ?_⟩
    · rw [closes, missLimit_false (.inl marker), marker]
      rfl
    · rw [closes, missLimit_false (.inr few), marker]
      rfl
    · have limit : missLimit x = true := missLimit_iff.mpr ⟨marker, many⟩
      rw [if_pos (missesOut_iff.mpr ⟨.inr state, limit⟩)] at limits
      refine ⟨limits, limits.trans ?_⟩
      rw [closes, limit, marker]
      rfl
  · rw [windowCheck_aligned (hx ▸ state), ← hx] at closes
    have next := checkedWindow_aligned state
    refine ⟨fun marker header => ?_, fun marker header few => ?_, fun header stays => ⟨finish s (closed l s), ?_, ?_⟩,
      fun marker many => ?_⟩
    · rw [closes, missLimit_false (.inl marker), closed_heard (hx ▸ header), ← hx, next, marker]
      rfl
    · rw [closes, missLimit_false (.inr few), closed_heard (hx ▸ header), ← hx, next, marker]
      rfl
    · rw [closes, missLimit_false stays]
      rfl
    · obtain ⟨frame, lanes, view, store⟩ := unheard_outcome (hx ▸ state) (hx ▸ header) rfl
      rw [← hx, next] at lanes
      exact ⟨frame, lanes, view, store⟩
    · have limit : missLimit x = true := missLimit_iff.mpr ⟨marker, many⟩
      rw [if_pos (missesOut_iff.mpr ⟨.inl state, limit⟩)] at limits
      obtain ⟨u, hu⟩ : ∃ u, u = finish s (exitAligned l (setLane l (lostLane (checkedWindow s.lanes[l])) (closed l s))) := ⟨_, rfl⟩
      obtain ⟨lanes, frame, view, counts, rejudged, none, store⟩ := lost_outcome (hx ▸ state) hu
      rw [← hx, next, marker] at lanes
      rw [record]
      refine ⟨limits, u, ?_, lanes, frame, view, counts, rejudged, none, store⟩
      rw [limits, closes, limit, hu, ← hx]
      rfl
  · rw [limits, if_neg fun h => ?_]
    exact absurd (missesOut_iff.mp h).2 (by rw [missLimit_false few]; exact nofun)

end Sys2Proof.Windows
end

section
/-! PROOFS. The assembly of a lane round, its arrival and its end (R51 to R58): O55. -/

namespace Sys2Proof.LaneRounds

open Sys2Proof.Machine Sys2Proof.Safety Sys2Proof.Notices Sys2Proof.Headers Sys2Proof.Windows Sys2Proof.Pulses

variable {s t u : State} {l : Fin 9} {v : LaneView} {h : Heard} {slots : List Slot} {i : Nat} {a : Assembly}

/-! ### One fragment -/

/-- The record when a fragment has come: out of its place, it has ended the round before (R51). -/
def arrivedAt (v : LaneView) (h : Heard) : LaneView := match v.nextIndex, v.assembly with
  | some i, some _ => if i = h.frag then v else v.roundIncomplete
  | _, _ => v

/-- The record with the fragment placed (R51, R53 to R55). -/
def placed (v : LaneView) (h : Heard) (slots : List Slot) : LaneView × Bool :=
  let a := placeFragment v.assembly h slots
  let v := { v with assembly := some a, nextIndex := some (nextFrag h.frag) }
  if h.frag = 15 then
    match a.complete with
    | some m => (v.arrive m, true)
    | none => (v.roundIncomplete, false)
  else (v, false)

theorem fragment_eq (v : LaneView) (h : Heard) (slots : List Slot) : v.fragment h slots = placed (arrivedAt v h) h slots := rfl

theorem arrivedAt_in (here : v.nextIndex = none ∨ v.nextIndex = some h.frag ∨ v.assembly = none) : arrivedAt v h = v := by
  unfold arrivedAt
  split
  · rename_i i a hi ha
    refine if_pos ?_
    rcases here with none | same | none
    · exact absurd (hi.symm.trans none) nofun
    · exact Option.some.inj (hi.symm.trans same)
    · exact absurd (ha.symm.trans none) nofun
  · rfl

theorem arrivedAt_out (hi : v.nextIndex = some i) (ha : v.assembly = some a) (out : i ≠ h.frag) :
    arrivedAt v h = v.roundIncomplete := by
  unfold arrivedAt
  rw [hi, ha]
  exact if_neg out

theorem placed_open (open_ : h.frag < 15) (v : LaneView) (slots : List Slot) : placed v h slots =
    ({ v with assembly := some (placeFragment v.assembly h slots), nextIndex := some (h.frag + 1) }, false) := by
  unfold placed
  dsimp only
  rw [if_neg (by omega), nextFrag, if_pos open_]

theorem placed_arrives {m : Manifest} (last : h.frag = 15) (whole : (placeFragment v.assembly h slots).complete = some m) :
    placed v h slots = ({ v.arrive m with nextIndex := some 0 }, true) := by
  unfold placed
  dsimp only
  rw [if_pos last, whole, nextFrag, if_neg (by omega)]
  rfl

theorem placed_incomplete (last : h.frag = 15) (broken : (placeFragment v.assembly h slots).complete = none) :
    placed v h slots = ({ v.roundIncomplete with nextIndex := some 0 }, false) := by
  unfold placed
  dsimp only
  rw [if_pos last, broken, nextFrag, if_neg (by omega)]
  rfl

theorem placeFragment_first (first : h.frag = 0) (o : Option Assembly) :
    placeFragment o h slots = { round := h.round, count := h.count, frags := [(0, slots)], broken := false } := if_pos first

theorem placeFragment_none (later : h.frag ≠ 0) : placeFragment none h slots = brokenAssembly h := if_neg later

theorem placeFragment_some (later : h.frag ≠ 0) : placeFragment (some a) h slots =
    if a.round ≠ h.round then brokenAssembly h
    else if a.count = h.count ∧ a.broken = false then { a with frags := a.frags ++ [(h.frag, slots)] }
    else { a with broken := true } := if_neg later

theorem complete_broken (broken : a.broken = true) : a.complete = none := by
  refine if_neg fun whole => ?_
  rw [broken] at whole
  exact nomatch whole.1

/-! ### The end of a round -/

theorem roundIncomplete_eq (v : LaneView) : v.roundIncomplete = { v with
    assembly := none, stale := min 3 (v.stale + 1), incompletes := min 65535 (v.incompletes + 1)
    manifest := if 2 ≤ v.stale then none else v.manifest } := by
  have bound : min 3 (v.stale + 1) = 3 ↔ 2 ≤ v.stale := by omega
  unfold LaneView.roundIncomplete
  simp only [bound]
  rfl

/-- Two rounds end incomplete at one fragment (R51, R55). -/
theorem roundIncomplete_twice (v : LaneView) : v.roundIncomplete.roundIncomplete = { v with
    assembly := none, stale := min 3 (v.stale + 2), incompletes := min 65535 (v.incompletes + 2)
    manifest := if 1 ≤ v.stale then none else v.manifest } := by
  have stale : min 3 (min 3 (v.stale + 1) + 1) = min 3 (v.stale + 2) := by omega
  have count : min 65535 (min 65535 (v.incompletes + 1) + 1) = min 65535 (v.incompletes + 2) := by omega
  have cleared : (if 2 ≤ min 3 (v.stale + 1) then none else if 2 ≤ v.stale then none else v.manifest) =
      if 1 ≤ v.stale then none else v.manifest := by
    by_cases one : 1 ≤ v.stale
    · rw [if_pos (by omega), if_pos one]
    · rw [if_neg (by omega), if_neg (by omega), if_neg one]
  rw [roundIncomplete_eq v.roundIncomplete, roundIncomplete_eq v]
  dsimp only
  rw [stale, count, cleared]

theorem complete_none_of (gaps : a.frags.map Prod.fst ≠ List.range 15 ∨
    wellFormedEntries h.count (a.frags.flatMap Prod.snd ++ slots) = none) (count : a.count = h.count) :
    ({ a with frags := a.frags ++ [(15, slots)] } : Assembly).complete = none := by
  unfold Assembly.complete
  split
  · rename_i whole
    obtain ⟨-, numbers⟩ := whole
    have fst : a.frags.map Prod.fst = List.range 15 := by
      dsimp only at numbers
      rw [List.map_append, List.range_succ] at numbers
      exact List.append_inj_left' numbers rfl
    rcases gaps with gap | ill
    · exact absurd fst gap
    · dsimp only
      rw [List.flatMap_append, count]
      have last : [(15, slots)].flatMap Prod.snd = slots := List.append_nil _
      rw [last, ill]
      rfl
  · rfl

/-- What ends a lane round incomplete at fragment 15 (R53, R55). -/
def Ends (a : Assembly) (h : Heard) (slots : List Slot) : Prop := a.round ≠ h.round ∨ a.count ≠ h.count ∨ a.broken = true ∨
  a.frags.map Prod.fst ≠ List.range 15 ∨ wellFormedEntries h.count (a.frags.flatMap Prod.snd ++ slots) = none

theorem placeFragment_ends (last : h.frag = 15) (ends : Ends a h slots) : (placeFragment (some a) h slots).complete = none := by
  rw [placeFragment_some (by omega)]
  by_cases other : a.round ≠ h.round
  · rw [if_pos other]
    exact complete_broken rfl
  · rw [if_neg other]
    by_cases good : a.count = h.count ∧ a.broken = false
    · rw [if_pos good, last]
      refine complete_none_of ?_ good.1
      rcases ends with round | count | broken | rest
      · exact absurd round other
      · exact absurd good.1 count
      · exact absurd (good.2.symm.trans broken) nofun
      · exact rest
    · rw [if_neg good]
      exact complete_broken rfl

/-- A fragment 15 of a place without an assembly ends the round incomplete (R53). -/
theorem placeFragment_alone (last : h.frag = 15) : (placeFragment none h slots).complete = none := by
  rw [placeFragment_none (by omega)]
  exact complete_broken rfl

/-! ### A whole round -/

/-- The record with the fragments 0 to `k` gathered (R51). -/
def gathered (v : LaneView) (h : Heard) (frags : Nat → List Slot) (k : Nat) : LaneView := { v with
  nextIndex := some (k + 1)
  assembly := some { round := h.round, count := h.count, frags := (List.range (k + 1)).map fun i => (i, frags i), broken := false } }

theorem gather (fresh : v.nextIndex = none ∨ v.nextIndex = some 0 ∨ v.assembly = none) (frags : Nat → List Slot) {k : Nat}
    (hk : k < 15) : (List.range (k + 1)).foldl (fun v i => (v.fragment { h with frag := i } (frags i)).1) v = gathered v h frags k := by
  induction k with
  | zero =>
    change (v.fragment { h with frag := 0 } (frags 0)).1 = _
    rw [fragment_eq, arrivedAt_in fresh, placed_open (Nat.succ_pos 14), placeFragment_first rfl]
    rfl
  | succ k ih =>
    rw [List.range_succ, List.foldl_append, ih (by omega)]
    change ((gathered v h frags k).fragment { h with frag := k + 1 } (frags (k + 1))).1 = _
    rw [fragment_eq, arrivedAt_in (.inr (.inl rfl)), placed_open hk]
    unfold gathered
    dsimp only
    rw [placeFragment_some (Nat.succ_ne_zero k), if_neg (not_not.mpr rfl), if_pos ⟨rfl, rfl⟩, List.range_succ (n := k + 1),
      List.map_append]
    rfl

/-- Sixteen fragments of one round arrive (R53, R54). -/
theorem gather_whole (fresh : v.nextIndex = none ∨ v.nextIndex = some 0 ∨ v.assembly = none) (frags : Nat → List Slot)
    {es : List Entry} (formed : wellFormedEntries h.count ((List.range 16).flatMap frags) = some es) :
    (List.range 16).foldl (fun v i => (v.fragment { h with frag := i } (frags i)).1) v = { v with
      manifest := some { round := h.round, entries := es }, stale := 0, nextIndex := some 0
      assembly := none, arrivals := min 65535 (v.arrivals + 1) } := by
  rw [List.range_succ, List.foldl_append, gather fresh frags (by decide)]
  change ((gathered v h frags 14).fragment { h with frag := 15 } (frags 15)).1 = _
  have whole : (placeFragment (gathered v h frags 14).assembly { h with frag := 15 } (frags 15)).complete =
      some { round := h.round, entries := es } := by
    unfold gathered
    dsimp only
    rw [placeFragment_some (Nat.succ_ne_zero 14), if_neg (not_not.mpr rfl), if_pos ⟨rfl, rfl⟩]
    unfold Assembly.complete
    have numbers : ((List.range 15).map (fun i => (i, frags i)) ++ [(15, frags 15)]).map Prod.fst = List.range 16 := by
      rw [List.map_append, List.map_map]
      rfl
    have all : ((List.range 15).map (fun i => (i, frags i)) ++ [(15, frags 15)]).flatMap Prod.snd = (List.range 16).flatMap frags := by
      rw [List.flatMap_append, List.flatMap_map, List.range_succ (n := 15), List.flatMap_append]
      rfl
    rw [if_pos ⟨rfl, numbers⟩]
    dsimp only
    rw [all, formed]
    rfl
  rw [fragment_eq, arrivedAt_in (.inr (.inl rfl)), placed_arrives rfl whole]
  rfl

/-- The fragments by their numbers. -/
def numbered (frags : Fin 16 → List Slot) (i : Nat) : List Slot := if h : i < 16 then frags ⟨i, h⟩ else []

theorem numbered_val (frags : Fin 16 → List Slot) (f : Fin 16) : numbered frags f.val = frags f := dif_pos f.isLt

theorem finRange_flatMap (frags : Fin 16 → List Slot) :
    (List.finRange 16).flatMap frags = (List.range 16).flatMap (numbered frags) := by
  rw [← List.map_coe_finRange_eq_range, List.flatMap_map]
  simp only [numbered_val]

theorem finRange_foldl {β : Type} (g : β → Nat → List Slot → β) (frags : Fin 16 → List Slot) (b : β) :
    (List.finRange 16).foldl (fun b f => g b f.val (frags f)) b = (List.range 16).foldl (fun b i => g b i (numbered frags i)) b := by
  rw [← List.map_coe_finRange_eq_range, List.foldl_map]
  simp only [numbered_val]

end Sys2Proof.LaneRounds
end

section
/-! PROOFS. What ends a lane round, and the records it leaves (R50 to R59): O55. -/

namespace Sys2Proof.LaneRounds

open Sys2Proof.Machine Sys2Proof.Safety Sys2Proof.Notices Sys2Proof.Headers Sys2Proof.Windows Sys2Proof.Pulses

variable {s t u : State} {l : Fin 9} {v : LaneView} {h : Heard} {slots : List Slot} {i : Nat} {a : Assembly} {x : LaneRx}
variable {words : List Word} {tiles : List Tile} {cause : RoundEnd}

/-! ### A fragment by its place (R51) -/

/-- The assembly of a place without one. -/
theorem placeFragment_fresh (h : Heard) (slots : List Slot) : placeFragment none h slots =
    if h.frag = 0 then { round := h.round, count := h.count, frags := [(0, slots)], broken := false }
    else { round := h.round, count := h.count, frags := [], broken := true } := rfl

theorem fragment_out_last (hi : v.nextIndex = some i) (ha : v.assembly = some a) (out : i ≠ h.frag) (last : h.frag = 15) :
    v.fragment h slots = ({ v with
      nextIndex := some 0, assembly := none, stale := min 3 (v.stale + 2), incompletes := min 65535 (v.incompletes + 2)
      manifest := if 1 ≤ v.stale then none else v.manifest }, false) := by
  have none : v.roundIncomplete.assembly = .none := rfl
  rw [fragment_eq, arrivedAt_out hi ha out, placed_incomplete last (by rw [none]; exact placeFragment_alone last),
    roundIncomplete_twice]

theorem fragment_out (hi : v.nextIndex = some i) (ha : v.assembly = some a) (out : i ≠ h.frag) (open_ : h.frag < 15) :
    v.fragment h slots = ({ v with
      nextIndex := some (h.frag + 1), stale := min 3 (v.stale + 1), incompletes := min 65535 (v.incompletes + 1)
      manifest := if 2 ≤ v.stale then none else v.manifest
      assembly := some (if h.frag = 0 then { round := h.round, count := h.count, frags := [(0, slots)], broken := false }
        else { round := h.round, count := h.count, frags := [], broken := true }) }, false) := by
  have none : v.roundIncomplete.assembly = .none := rfl
  rw [fragment_eq, arrivedAt_out hi ha out, placed_open open_, none, placeFragment_fresh, roundIncomplete_eq]

theorem fragment_ends (hi : v.nextIndex = some h.frag) (ha : v.assembly = some a) (last : h.frag = 15) (ends : Ends a h slots) :
    v.fragment h slots = ({ v with
      nextIndex := some 0, assembly := none, stale := min 3 (v.stale + 1), incompletes := min 65535 (v.incompletes + 1)
      manifest := if 2 ≤ v.stale then none else v.manifest }, false) := by
  rw [fragment_eq, arrivedAt_in (.inr (.inl hi)), placed_incomplete last (by rw [ha]; exact placeFragment_ends last ends),
    roundIncomplete_eq]

theorem fragment_alone (ha : v.assembly = none) (last : h.frag = 15) : v.fragment h slots = ({ v with
      nextIndex := some 0, stale := min 3 (v.stale + 1), incompletes := min 65535 (v.incompletes + 1)
      manifest := if 2 ≤ v.stale then none else v.manifest }, false) := by
  rw [fragment_eq, arrivedAt_in (.inr (.inr ha)), placed_incomplete last (by rw [ha]; exact placeFragment_alone last),
    roundIncomplete_eq]
  dsimp only
  rw [ha]

/-! ### An unheard frame (R52) -/

theorem unheard_last (hi : v.nextIndex = some 15) : v.unheard = { v with
    nextIndex := some 0, assembly := none, stale := min 3 (v.stale + 1), incompletes := min 65535 (v.incompletes + 1)
    manifest := if 2 ≤ v.stale then none else v.manifest } := by
  unfold LaneView.unheard
  dsimp only
  rw [hi]
  dsimp only
  rw [if_pos rfl, roundIncomplete_eq]

theorem unheard_next (hi : v.nextIndex = some i) (later : i ≠ 15) : v.unheard = { v with
    nextIndex := some (i + 1), assembly := v.assembly.map fun a : Assembly => { a with broken := true } } := by
  unfold LaneView.unheard
  dsimp only
  rw [hi]
  exact if_neg later

theorem unheard_none (hi : v.nextIndex = none) :
    v.unheard = { v with assembly := v.assembly.map fun a : Assembly => { a with broken := true } } := by
  unfold LaneView.unheard
  dsimp only
  rw [hi]

/-! ### A manifest that stays -/

theorem roundIncomplete_manifest (low : v.stale < 2) : v.roundIncomplete.manifest = v.manifest := by
  rw [roundIncomplete_eq]
  exact if_neg (by omega)

theorem unheard_manifest (low : v.stale < 2) : v.unheard.manifest = v.manifest := by
  rcases hi : v.nextIndex with _ | i
  · rw [unheard_none hi]
  · by_cases last : i = 15
    · rw [unheard_last (last ▸ hi)]
      exact if_neg (by omega)
    · rw [unheard_next hi last]

theorem fragment_manifest (fresh : v.stale = 0) (some : v.manifest.isSome = true) : (v.fragment h slots).1.manifest.isSome = true := by
  have arrived : (arrivedAt v h).manifest = v.manifest ∧ (arrivedAt v h).stale < 2 := by
    unfold arrivedAt
    split
    · split
      · exact ⟨rfl, by omega⟩
      · refine ⟨roundIncomplete_manifest (by omega), ?_⟩
        rw [roundIncomplete_eq]
        dsimp only
        omega
    · exact ⟨rfl, by omega⟩
  rw [fragment_eq]
  unfold placed
  dsimp only
  split
  · split
    · rfl
    · refine (congrArg Option.isSome ?_).trans (arrived.1 ▸ some : (arrivedAt v h).manifest.isSome = true)
      exact roundIncomplete_manifest (v := { arrivedAt v h with
        assembly := .some (placeFragment (arrivedAt v h).assembly h slots), nextIndex := .some (nextFrag h.frag) }) arrived.2
  · exact arrived.1 ▸ some

/-! ### The events that end a round (R55) -/

theorem exec_staleManifestClear (running : s.station.state ≠ .cold) (peer : l ≠ s.station.number)
    (reaches : staleReaches l cause s = true) : exec (.staleManifestClear l cause) s = .next (finish s (roundEnd l cause s)) :=
  congrArg Host.Outcome.next (if_pos (by rw [peerLane_iff.mpr ⟨running, peer⟩, reaches]; rfl))

theorem staleManifestClear_idle (reaches : staleReaches l cause s = false) : exec (.staleManifestClear l cause) s = .next s :=
  congrArg Host.Outcome.next (if_neg (by rw [reaches, Bool.and_false]; exact nofun))

theorem staleReaches_unheard (state : s.lanes[l].state = .aligned) (some : s.view[l].manifest ≠ none)
    (header : s.lanes[l].windowHeader = false) (cleared : s.view[l].unheard.manifest = none) : staleReaches l .unheard s = true := by
  unfold staleReaches
  dsimp only
  rw [decide_eq_true state, header, cleared, Option.isSome_iff_ne_none.mpr some]
  rfl

/-- The epoch of a header is the one heard before. -/
theorem epoch_kept (h : Heard) (same : ∀ old, x.heard = some old → old.epoch = h.epoch) : epochChanged x.heard h.epoch = false := by
  unfold epochChanged
  split
  · rfl
  · rename_i old heard
    exact decide_eq_false (not_not.mpr (same old heard))

theorem staleReaches_header (state : s.lanes[l].state = .aligned) (some : s.view[l].manifest ≠ none)
    (good : checkGood (words.take 29) = true) (joined : (heardOf words).joined = true)
    (epoch : epochChanged s.lanes[l].heard (heardOf words).epoch = false)
    (cleared : (s.view[l].fragment (heardOf words) (slotsOf words)).1.manifest = none) :
    staleReaches l (.header words tiles) s = true := by
  unfold staleReaches
  dsimp only
  rw [decide_eq_true state, good, joined, epoch, cleared, Option.isSome_iff_ne_none.mpr some]
  rfl

/-- A header of an ALIGNED lane leaves the record that its fields make, cleared when the header brings an exit. -/
theorem header_record (state : s.lanes[l].state = .aligned)
    (good : checkGood (words.take 29) = true) (joined : (heardOf words).joined = true)
    (epoch : epochChanged s.lanes[l].heard (heardOf words).epoch = false) :
    (laneHeader l words tiles s).view[l] = (s.view[l].fragment (heardOf words) (slotsOf words)).1 ∨
    (laneHeader l words tiles s).view[l] = exitView (s.view[l].fragment (heardOf words) (slotsOf words)).1 := by
  have fields : s.view[l].header (heardOf words) (slotsOf words) false = s.view[l].fragment (heardOf words) (slotsOf words) := by
    unfold LaneView.header
    rw [if_pos joined]
    rfl
  rw [laneHeader_aligned good rfl state]
  by_cases named : (heardOf words).station = l.val
  · left
    rw [alignedHeader_named named, epoch]
    simp only [passHeader_view]
    exact (Vector.getElem_set_self _).trans (congrArg Prod.fst fields)
  · right
    have view := informed_view (tiles := tiles) (x := s.lanes[l]) (s := s) (l := l) (h := heardOf words) (slots := slotsOf words)
      (e := false) rfl
    rw [alignedHeader_elsewhere named, epoch]
    simp only [(exitAligned_seen l _).view, exitOrders_view]
    refine (Vector.getElem_set_self _).trans (congrArg exitView ?_)
    change (informed l (heardOf words) (slotsOf words) false tiles s.lanes[l] s).view[l] = _
    simp only [view]
    exact (Vector.getElem_set_self _).trans (congrArg Prod.fst fields)

/-- A header that clears the manifest by the end of a round is STALE_MANIFEST_CLEAR (R55). -/
theorem header_clears {rounds : Nat} (running : s.station.state ≠ .cold) (peer : l ≠ s.station.number)
    (state : s.lanes[l].state = .aligned) (some : s.view[l].manifest ≠ none) (good : checkGood (words.take 29) = true)
    (joined : (heardOf words).joined = true) (epoch : ∀ old, s.lanes[l].heard = .some old → old.epoch = (heardOf words).epoch)
    (cleared : (s.view[l].fragment (heardOf words) (slotsOf words)).1.manifest = none)
    (stale : (s.view[l].fragment (heardOf words) (slotsOf words)).1.stale = 3)
    (count : (s.view[l].fragment (heardOf words) (slotsOf words)).1.incompletes = min 65535 (s.view[l].incompletes + rounds)) :
    ∃ u, exec (.staleManifestClear l (.header words tiles)) s = .next u ∧ exec (.laneHeaderReceived l words tiles) s = .next u ∧
      u.view[l].manifest = none ∧ u.view[l].stale = 3 ∧ u.view[l].incompletes = min 65535 (s.view[l].incompletes + rounds) := by
  have kept := epoch_kept (heardOf words) epoch
  refine ⟨finish s (laneHeader l words tiles s), exec_staleManifestClear running peer
    (staleReaches_header state some good joined kept cleared), header_received running peer, ?_⟩
  simp only [finish_view]
  rcases header_record (tiles := tiles) state good joined kept with record | record
  · rw [record]
    exact ⟨cleared, stale, count⟩
  · rw [record]
    exact ⟨rfl, rfl, count⟩

/-- The record after a check instant of an unheard lane, cleared when the instant brings an exit. -/
theorem unheard_record (state : s.lanes[l].state = .aligned) (header : s.lanes[l].windowHeader = false) :
    (windowCheck l s).view[l] = s.view[l].unheard ∨ (windowCheck l s).view[l] = exitView s.view[l].unheard := by
  have record : unheardView l s = s.view[l].unheard := by
    unfold unheardView
    rw [header]
    rfl
  rw [windowCheck_aligned state]
  rcases limit : missLimit s.lanes[l] with _ | _
  · left
    rw [if_neg nofun]
    simp only [closed_view state, record]
    exact Vector.getElem_set_self _
  · right
    rw [if_pos rfl]
    simp only [(exitAligned_seen l _).view, exitOrders_view]
    refine (Vector.getElem_set_self _).trans (congrArg exitView ?_)
    change (closed l s).view[l] = _
    simp only [closed_view state, record]
    exact Vector.getElem_set_self _

/-- A fragment index has four bits (R191). -/
theorem heardOf_frag (words : List Word) : (heardOf words).frag < 16 := by
  unfold heardOf field
  exact Nat.mod_lt _ (by decide)

/-! ### The statement -/

theorem staleReaches_idle (idle : s.lanes[l].state ≠ .aligned ∨ s.view[l].stale = 0 ∨
    (s.view[l].stale = 1 ∧ cause = .unheard) ∨ s.view[l].manifest = none) : staleReaches l cause s = false := by
  refine Bool.eq_false_iff.mpr fun reaches => ?_
  unfold staleReaches at reaches
  simp only [Bool.and_eq_true, decide_eq_true_iff] at reaches
  obtain ⟨⟨state, some⟩, ends⟩ := reaches
  have unheard : s.view[l].stale < 2 → cause ≠ .unheard := by
    rintro low rfl
    simp only [Bool.and_eq_true] at ends
    rw [unheard_manifest low] at ends
    rcases hm : s.view[l].manifest with _ | m
    · rw [hm] at some
      exact nomatch some
    · rw [hm] at ends
      exact nomatch ends.2
  rcases idle with other | fresh | ⟨one, rfl⟩ | none
  · exact other state
  · cases cause with
    | unheard => exact unheard (by omega) rfl
    | header words tiles =>
      simp only [Bool.and_eq_true] at ends
      have kept := fragment_manifest (h := heardOf words) (slots := slotsOf words) fresh some
      rw [Option.isSome_iff_ne_none] at kept
      exact kept (Option.isNone_iff_eq_none.mp ends.2)
  · exact unheard (by omega) rfl
  · rw [none] at some
    exact nomatch some

/-- Settles O55. -/
theorem laneRoundsArriveOrGoStale : Obligations.LaneRoundsArriveOrGoStale := by
  refine ⟨fun v w h frags es formed fresh hw => ?_, fun v h slots i a hi ha => ⟨fun here later open_ => ?_, fun out open_ => ?_,
    fun here last ends => ?_, fun out last => ?_⟩, fun v h slots ha => ⟨fun open_ => ?_, fun last => fragment_alone ha last⟩,
    fun v w h slots e hw => ⟨fun listen => ?_, fun joined => ?_⟩, fun l v arrived s t ht => ⟨fun sends => ?_, fun quiet kept => ?_⟩,
    fun l words tiles s t h x r running peer hx state good hh named hr ht => ?_,
    fun v => ⟨unheard_last, fun i low hi => unheard_next hi (by omega), unheard_none⟩,
    fun l s running peer state stale some => ⟨fun header last => ?_, fun words tiles h good hh joined last holds epoch => ?_⟩,
    fun l s words tiles h i rounds running peer state some good hh joined epoch hi out holds hrounds reach => ?_,
    fun l cause s idle => staleManifestClear_idle (staleReaches_idle idle)⟩
  · rw [finRange_flatMap] at formed
    rw [hw]
    exact (finRange_foldl (fun v i slots => (LaneView.fragment v { h with frag := i } slots).1) frags v).trans
      (gather_whole fresh (numbered frags) formed)
  · rw [fragment_eq, arrivedAt_in (.inr (.inl (here ▸ hi))), placed_open (here ▸ open_), ha,
      placeFragment_some (by omega), ← here]
    rfl
  · exact fragment_out hi ha out open_
  · exact fragment_ends (here ▸ hi) ha (here ▸ last) ends
  · exact fragment_out_last hi ha out last
  · rw [fragment_eq, arrivedAt_in (.inr (.inr ha)), placed_open open_, ha, placeFragment_fresh]
  · unfold LaneView.header
    rw [listen, hw]
    rfl
  · unfold LaneView.header
    rw [joined, hw]
    exact ⟨rfl, rfl⟩
  · subst ht
    have goes : (arrived || s.view[l].manifest.isSome && v.manifest.isNone) = true := by
      rcases sends with rfl | ⟨some, none⟩
      · rfl
      · rw [none, Option.isSome_iff_ne_none.mpr some, Option.isNone_none, Bool.and_true, Bool.or_true]
    exact if_pos goes
  · subst ht
    have stays : ¬ (arrived || s.view[l].manifest.isSome && v.manifest.isNone) = true := by
      rw [quiet, Bool.false_or, Bool.and_eq_true, Option.isSome_iff_ne_none, Option.isNone_iff_eq_none]
      rintro ⟨some, none⟩
      exact kept.elim some fun h => h none
    exact if_neg stays
  · subst ht hh
    have heard : r = s.view[l].header (heardOf words) (slotsOf words) (epochChanged x.heard (heardOf words).epoch) := by
      rw [hr]
      cases x.heard <;> rfl
    obtain ⟨u, hu⟩ : ∃ u, u = finish s (informed l (heardOf words) (slotsOf words)
      (epochChanged x.heard (heardOf words).epoch) tiles x s) := ⟨_, rfl⟩
    obtain ⟨-, -, view, store, -⟩ := named_outcome hx state heard hu
    refine ⟨u, ?_, view, store.trans ((seen_goodHeader (h := heardOf words) (tiles := tiles) hx).setView l r.1 r.2).store.symm⟩
    rw [header_received running peer, laneHeader_aligned good hx state, alignedHeader_named named, hu]
    rfl
  · have unheard := unheard_last last
    have cleared : s.view[l].unheard.manifest = none := by
      rw [unheard]
      exact if_pos (by omega)
    have three : s.view[l].unheard.stale = 3 := by
      rw [unheard, stale]
      rfl
    have count : s.view[l].unheard.incompletes = min 65535 (s.view[l].incompletes + 1) := by rw [unheard]
    refine ⟨finish s (windowCheck l s), exec_staleManifestClear running peer
      (staleReaches_unheard state some header cleared), window_checked running peer, ?_⟩
    simp only [finish_view]
    have fields : (windowCheck l s).view[l].manifest = none ∧ (windowCheck l s).view[l].stale = 3 ∧
        (windowCheck l s).view[l].incompletes = min 65535 (s.view[l].incompletes + 1) := by
      rcases unheard_record state header with record | record
      · rw [record]
        exact ⟨cleared, three, count⟩
      · rw [record]
        exact ⟨rfl, rfl, count⟩
    refine ⟨fields.1, fields.2.1, fields.2.2, fun stays => ?_⟩
    have record : unheardView l s = s.view[l].unheard := by
      unfold unheardView
      rw [header]
      rfl
    rw [finish_store, windowCheck_aligned state, missLimit_false stays, if_neg nofun, (closed_seen state).store, record]
  · subst hh
    rcases holds with alone | ⟨a, ha, hi, ends⟩
    · have made := fragment_alone (h := heardOf words) (slots := slotsOf words) alone last
      exact header_clears running peer state some good joined epoch (by rw [made]; exact if_pos (by omega))
        (by rw [made, stale]; rfl) (by rw [made])
    · have made := fragment_ends (h := heardOf words) (slots := slotsOf words) (last ▸ hi) ha last ends
      exact header_clears running peer state some good joined epoch (by rw [made]; exact if_pos (by omega))
        (by rw [made, stale]; rfl) (by rw [made])
  · subst hh
    obtain ⟨a, ha⟩ := Option.ne_none_iff_exists'.mp holds
    by_cases last : (heardOf words).frag = 15
    · rw [if_pos last] at hrounds
      subst hrounds
      have made := fragment_out_last (slots := slotsOf words) hi ha out last
      refine header_clears running peer state some good joined epoch (by rw [made]; exact if_pos (by omega)) ?_ (by rw [made])
      rw [made]
      dsimp only
      omega
    · rw [if_neg last] at hrounds
      subst hrounds
      have open_ : (heardOf words).frag < 15 := by
        have bound := heardOf_frag words
        omega
      have made := fragment_out (slots := slotsOf words) hi ha out open_
      refine header_clears running peer state some good joined epoch (by rw [made]; exact if_pos (by omega)) ?_ (by rw [made])
      rw [made]
      dsimp only
      omega

end Sys2Proof.LaneRounds
end

section
/-! PROOFS. What the end of a command does in the Report Unit (R183, R187): O60. -/

namespace Sys2Proof.Flagging

open Sys2Proof.Machine Sys2Proof.Safety Sys2Proof.Reports

variable {s t u v : State} {c : Instr} {tag : Nat}

/-! ### One item after a comparison -/

theorem note_eq {α : Type} [DecidableEq α] (it : Item α) (a b : α) : it.note a b = { it with flag := flagAfter it a b } := by
  rw [← note_flag]
  unfold Item.note
  split <;> rfl

theorem noteSink_item (s t : State) (tag : Nat) (it : Item SinkReport) : ∃ b, noteSink s t (tag, it) = (tag, { it with flag := b }) ∧
    ∀ k k', findSink s.store tag = some k → findSink t.store tag = some k' → b = flagAfter it (sinkReport k) (sinkReport k') := by
  unfold noteSink
  rcases hk : findSink s.store tag with _ | k
  · exact ⟨it.flag, rfl, fun _ _ h => absurd h nofun⟩
  · rcases hk' : findSink t.store tag with _ | k'
    · exact ⟨it.flag, rfl, fun _ _ _ h => absurd h nofun⟩
    · refine ⟨flagAfter it (sinkReport k) (sinkReport k'), congrArg (Prod.mk tag) (note_eq ..), fun j j' hj hj' => ?_⟩
      rw [Option.some.inj hj, Option.some.inj hj']

theorem noteSource_item (s t : State) (tag : Nat) (it : Item SourceReport) :
    ∃ b, noteSource s t (tag, it) = (tag, { it with flag := b }) ∧ (it.flag = true → b = true) ∧
      ∀ r r', visibleSource s.store tag = some r → visibleSource t.store tag = some r' →
        (b = true ↔ it.flag = true ∨ ((r.state ≠ r'.state ∨ r.latch ≠ r'.latch ∨ r.blocked ≠ r'.blocked ∨
          r.mismatch ≠ r'.mismatch) ∧ sourceReport t.carriers.ports r' ≠ it.snap)) := by
  unfold noteSource
  rcases hr : visibleSource s.store tag with _ | r
  · exact ⟨it.flag, rfl, id, fun _ _ h => absurd h nofun⟩
  · rcases hr' : visibleSource t.store tag with _ | r'
    · exact ⟨it.flag, rfl, id, fun _ _ _ h => absurd h nofun⟩
    · dsimp only
      by_cases changed : r.state ≠ r'.state ∨ r.latch ≠ r'.latch ∨ r.blocked ≠ r'.blocked ∨ r.mismatch ≠ r'.mismatch
      · by_cases differs : sourceReport t.carriers.ports r' ≠ it.snap
        · rw [if_pos changed, if_pos differs]
          refine ⟨true, rfl, fun _ => rfl, fun q q' hq hq' => ?_⟩
          rw [← Option.some.inj hq, ← Option.some.inj hq']
          exact iff_of_true rfl (.inr ⟨changed, differs⟩)
        · rw [if_pos changed, if_neg differs]
          refine ⟨it.flag, rfl, id, fun q q' hq hq' => ?_⟩
          rw [← Option.some.inj hq, ← Option.some.inj hq']
          exact (or_iff_left fun both => differs both.2).symm
      · rw [if_neg changed]
        refine ⟨it.flag, rfl, id, fun q q' hq hq' => ?_⟩
        rw [← Option.some.inj hq, ← Option.some.inj hq']
        exact (or_iff_left fun both => changed both.1).symm

theorem vector_any {α : Type} {n : Nat} (w : Vector α n) (p : α → Bool) : w.toList.any p = true ↔ ∃ i : Fin n, p w[i] = true := by
  rw [List.any_eq_true]
  constructor
  · rintro ⟨x, mem, hp⟩
    obtain ⟨i, hi, rfl⟩ := Vector.mem_iff_getElem.mp (Vector.mem_toList_iff.mp mem)
    exact ⟨⟨i, hi⟩, hp⟩
  · rintro ⟨i, hp⟩
    exact ⟨w[i], Vector.mem_toList_iff.mpr (Vector.getElem_mem _), hp⟩

/-- ATTN outside COLD, by its terms (R187). -/
theorem attnLevel_iff {st : StationState} (running : st ≠ .cold) (r : ReportUnit) : attnLevel st r = true ↔ r.enable = true ∧
    ((r.mask.order = true ∧ ((∃ e ∈ r.sources, e.2.flag = true) ∨ ∃ e ∈ r.sinks, e.2.flag = true)) ∨
      (r.mask.lane = true ∧ ∃ l : Fin 9, r.lanes[l].flag = true) ∨
      (r.mask.carrier = true ∧ ∃ p : Fin 4, r.ports[p].flag = true) ∨
      (r.mask.station = true ∧ r.station.flag = true)) := by
  unfold attnLevel ReportUnit.orderPending ReportUnit.lanePending ReportUnit.carrierPending
  simp only [Bool.and_eq_true, Bool.or_eq_true, decide_eq_true_iff, vector_any, and_assoc, or_assoc]
  simp only [List.any_eq_true]
  exact and_iff_right running

/-! ### The end of every command -/

theorem finish_updateAttn (s v : State) : finish s (updateAttn v) = finish s v := by
  unfold finish noted updateAttn
  dsimp only
  split <;> rfl

theorem finish_finish (s t : State) : finish s (finish s t) = finish s t :=
  (finish_updateAttn s (noted s t)).trans (finish_noted s t)

/-- A command that changed nothing, or ended with a comparison. -/
def Finished (s t : State) : Prop := t = s ∨ ∃ u, t = finish s u

theorem Finished.again (h : Finished s t) : t = s ∨ finish s t = t := by
  rcases h with same | ⟨u, rfl⟩
  · exact .inl same
  · exact .inr (finish_finish s u)

theorem finished_ite (p : Prop) [Decidable p] (s u : State) : Finished s (if p then finish s u else s) := by
  split
  · exact .inr ⟨u, rfl⟩
  · exact .inl rfl

/-- Every command that changes anything ends with a comparison. -/
theorem exec_finished (c : Instr) (s : State) : ∃ t, exec c s = .next t ∧ Finished s t := by
  cases c with
  | nop x | placeSource x | placeSink x | remove x | restate x | light x | darken x | readOrder x | readChanges x | readLane x
  | readCarrier x | readStation x | setAttention x | restartEngine x => exact ⟨_, rfl, .inr ⟨_, rfl⟩⟩
  | undefinedCommandCode code x => exact ⟨_, rfl, finished_ite ..⟩
  | transferIncomplete bytes spoiled => exact ⟨_, rfl, finished_ite ..⟩
  | powerUp => exact ⟨_, rfl, .inr ⟨_, rfl⟩⟩
  | resetAsserted => exact ⟨_, rfl, finished_ite ..⟩
  | coldStartEnd straps =>
    refine ⟨_, rfl, ?_⟩
    split
    · exact .inl rfl
    · exact .inr ⟨_, rfl⟩
  | holdAsserted | holdReleased => exact ⟨_, rfl, .inr ⟨_, rfl⟩⟩
  | clientIngressBurst port blocks =>
    refine ⟨_, rfl, ?_⟩
    split
    · split
      · exact .inl rfl
      · exact .inr ⟨_, rfl⟩
    · exact .inl rfl
  | ownFrameStart leave spans | clientSinkDeparture spans | spanEnd n => exact ⟨_, rfl, finished_ite ..⟩
  | ownRoundStart order => exact ⟨_, rfl, .inr ⟨_, rfl⟩⟩
  | releaseCountExpiry tag | wtrExpiry tag =>
    refine ⟨_, rfl, ?_⟩
    split
    · exact .inl rfl
    · exact finished_ite ..
  | staggerExpiry port | claimRoundEnd port | join => exact ⟨_, rfl, finished_ite ..⟩
  | laneMarkerArrival l t | trackingMove l t | laneHeaderReceived l words tiles | staleManifestClear l cause | markerWindowCheck l
  | missedMarkerLimit l => exact ⟨_, rfl, finished_ite ..⟩
  | carrierMarkerArrival p t | carrierSyncEntry p t | carrierWindowClose p | carrierSyncLoss p | farEndFrameEnd p f =>
    exact ⟨_, rfl, finished_ite ..⟩
  | refPulse t | refQualified t | refWindowClose | refDisqualified => exact ⟨_, rfl, finished_ite ..⟩

theorem finish_attentionLaw (s t : State) : AttentionLaw (finish s t) := rfl

theorem attentionLaw_exec (law : AttentionLaw s) (h : exec c s = .next t) : AttentionLaw t := by
  obtain ⟨u, hu, finished⟩ := exec_finished c s
  obtain rfl := Host.Outcome.next.inj (h.symm.trans hu)
  rcases finished with rfl | ⟨v, rfl⟩
  · exact law
  · exact finish_attentionLaw s v

theorem attentionLaw_step (law : AttentionLaw s) (h : step s = .next t) : AttentionLaw t := by
  unfold step at h
  split at h
  · obtain rfl := Host.Outcome.next.inj h
    exact law
  · rename_i c rest _
    exact attentionLaw_exec (s := { s with pending := rest }) law h

/-- The Report Unit after the end of a command outside COLD. -/
theorem finished_report (running : t.station.state ≠ .cold) (hu : u = finish s t) :
    u = { t with report := { t.report with
        sources := u.report.sources, sinks := u.report.sinks, lanes := u.report.lanes, ports := u.report.ports
        station := u.report.station, attn := u.report.attn } } ∧
      u.report.sources = t.report.sources.map (noteSource s t) ∧ u.report.sinks = t.report.sinks.map (noteSink s t) ∧
      u.report.attn = attnLevel t.station.state u.report := by
  rw [hu, finish_running running]
  exact ⟨rfl, rfl, rfl, rfl⟩

/-- A source's own comparison at its departure (R126). -/
theorem noteQuality_eq {r : Source} (hr : visibleSource s.store tag = some r) : noteQuality s tag = { s with
    report := { s.report with sources := s.report.sources.map fun e => (e.1, { e.2 with
      flag := e.2.flag || (decide (e.1 = tag) && decide (sourceReport s.carriers.ports r ≠ e.2.snap)) }) } } := by
  unfold noteQuality
  rw [hr]
  dsimp only
  refine congrArg (fun es => { s with report := { s.report with sources := es } }) (List.map_congr_left fun e _ => ?_)
  by_cases here : e.1 = tag ∧ sourceReport s.carriers.ports r ≠ e.2.snap
  · rw [if_pos here, decide_eq_true here.1, decide_eq_true here.2, Bool.and_true, Bool.or_true]
  · rw [if_neg here, ← Bool.decide_and, decide_eq_false here, Bool.or_false]

theorem finish_of_noted (running : t.station.state ≠ .cold) (hu : u = noted s t) :
    finish s t = updateAttn u ∧ u = { t with report := noteChanges s t } ∧ noteChanges s u = u.report := by
  have made : u = { t with report := noteChanges s t } := hu.trans (if_neg running)
  refine ⟨by rw [hu]; rfl, made, ?_⟩
  have station : u.station.state ≠ .cold := by
    rw [made]
    exact running
  have again := congrArg (fun v : State => { v.report with attn := u.report.attn }) (finish_noted s t)
  rw [← hu, finish_running station, finish_running running] at again
  have whole : noteChanges s u = noteChanges s t := by
    refine Eq.trans ?_ (again.trans ?_)
    · rfl
    · rw [made]
      rfl
  rw [whole, made]

end Sys2Proof.Flagging
end

section
/-! PROOFS. Flags that stay set: a source's own departure, and a header's taking (R39, R126, R183): O60. -/

namespace Sys2Proof.Flagging

open Sys2Proof.Machine Sys2Proof.Safety Sys2Proof.Reports Sys2Proof.Boundary Sys2Proof.Notices Sys2Proof.Headers

variable {s t u v : State} {tag : Nat} {spans : List (Fin 96)} {f : Nat} {l : Fin 9} {n : Fin 96} {a : Adapter} {r : Source}

/-! ### Comparisons clear no flag -/

/-- From `s` to `t` items of orders were flagged at most. -/
structure Flags (s t : State) : Prop where
  sources : ∀ tag it, (tag, it) ∈ s.report.sources → ∃ b, (tag, { it with flag := it.flag || b }) ∈ t.report.sources
  sinks : ∀ tag it, (tag, it) ∈ s.report.sinks → ∃ b, (tag, { it with flag := it.flag || b }) ∈ t.report.sinks

theorem unflagged {α : Type} (it : Item α) : { it with flag := it.flag || false } = it := by rw [Bool.or_false]

theorem Flags.of_report (h : t.report = s.report) : Flags s t where
  sources tag it mem := ⟨false, by rw [unflagged, h]; exact mem⟩
  sinks tag it mem := ⟨false, by rw [unflagged, h]; exact mem⟩

theorem Flags.trans (h : Flags s t) (g : Flags t u) : Flags s u where
  sources tag it mem := by
    obtain ⟨b, mem⟩ := h.sources tag it mem
    obtain ⟨c, mem⟩ := g.sources tag _ mem
    exact ⟨b || c, by rwa [← Bool.or_assoc]⟩
  sinks tag it mem := by
    obtain ⟨b, mem⟩ := h.sinks tag it mem
    obtain ⟨c, mem⟩ := g.sinks tag _ mem
    exact ⟨b || c, by rwa [← Bool.or_assoc]⟩

/-- A flagged item stays as it is. -/
theorem Flags.source (h : Flags s t) {it : Item SourceReport} (mem : (tag, it) ∈ s.report.sources) (flag : it.flag = true) :
    (tag, it) ∈ t.report.sources := by
  obtain ⟨b, mem⟩ := h.sources tag it mem
  have same : { it with flag := it.flag || b } = it := by rw [flag, Bool.true_or, ← flag]
  rwa [same] at mem

theorem Flags.sink (h : Flags s t) {it : Item SinkReport} (mem : (tag, it) ∈ s.report.sinks) (flag : it.flag = true) :
    (tag, it) ∈ t.report.sinks := by
  obtain ⟨b, mem⟩ := h.sinks tag it mem
  have same : { it with flag := it.flag || b } = it := by rw [flag, Bool.true_or, ← flag]
  rwa [same] at mem

theorem flagged_or {p q : Bool} (h : p = true → q = true) : q = (p || q) := by
  cases p
  · rfl
  · exact h rfl

theorem flags_noted (s t : State) : Flags t (noted s t) := by
  unfold noted
  split
  · exact .of_report rfl
  · refine ⟨fun tag it mem => ?_, fun tag it mem => ?_⟩
    · obtain ⟨b, made, kept, -⟩ := noteSource_item s t tag it
      refine ⟨b, List.mem_map.mpr ⟨(tag, it), mem, made.trans ?_⟩⟩
      rw [← flagged_or kept]
    · have made : noteSink s t (tag, it) = (tag, it) ∨
          ∃ x y, noteSink s t (tag, it) = (tag, { it with flag := it.flag || (decide (x ≠ y) && decide (y ≠ it.snap)) }) := by
        unfold noteSink
        split
        · exact .inr ⟨_, _, congrArg (Prod.mk tag) (note_eq ..)⟩
        · exact .inl rfl
      rcases made with same | ⟨x, y, made⟩
      · exact ⟨false, List.mem_map.mpr ⟨(tag, it), mem, same.trans (by rw [unflagged])⟩⟩
      · exact ⟨_, List.mem_map.mpr ⟨(tag, it), mem, made⟩⟩

theorem flags_setAdapter (n : Fin 96) (o : Option Adapter) (s : State) : Flags s (setAdapter n o s) := .of_report rfl

theorem flags_setLane (l : Fin 9) (x : LaneRx) (s : State) : Flags s (setLane l x s) := .of_report rfl

theorem flags_store (h : OnlyStore s t) : Flags s t := .of_report (by unfold OnlyStore at h; rw [h])

theorem flags_view (h : OnlyView s t) : Flags s t := .of_report (by unfold OnlyView at h; rw [h])

theorem flags_timing (h : OnlyTiming s t) : Flags s t := .of_report (by unfold OnlyTiming at h; rw [h])

theorem Flags.event {f : State → State} (h : Flags s (f s)) : Flags s (event f s) := h.trans (flags_noted s (f s))

theorem flags_finish (s t : State) : Flags t (finish s t) :=
  (flags_noted s t).trans ⟨fun tag it mem => ⟨false, by rw [unflagged]; exact mem⟩, fun tag it mem => ⟨false, by rw [unflagged]; exact mem⟩⟩

theorem flags_noteQuality (s : State) (tag : Nat) : Flags s (noteQuality s tag) := by
  rcases hr : visibleSource s.store tag with _ | r
  · have same : noteQuality s tag = s := by
      unfold noteQuality
      rw [hr]
    rw [same]
    exact .of_report rfl
  · rw [noteQuality_eq hr]
    exact ⟨fun other it mem => ⟨_, List.mem_map.mpr ⟨(other, it), mem, rfl⟩⟩, fun other it mem => ⟨false, by rw [unflagged]; exact mem⟩⟩

/-! ### The departures of a boundary -/

theorem flags_spanEnd (n : Fin 96) (s : State) : Flags s (spanEndOf n s) := by
  unfold spanEndOf
  split
  · exact .of_report rfl
  · rename_i a _
    split
    · exact .of_report rfl
    · rename_i e _
      have only : OnlyStore s (healthOf a (a.outcome e) (setAdapter n (some (a.endSpan e)) s)) := healthOf_onlyStore ..
      exact (flags_store only).trans (flags_noted s _)

theorem flags_departSource (spans : List (Fin 96)) (acc : State × List HandOver) (tag : Nat) :
    Flags acc.1 (departSource spans acc tag).1 := by
  unfold departSource
  split
  · exact .of_report rfl
  · rename_i n _
    have ended := flags_spanEnd n acc.1
    dsimp only
    split
    · rename_i a r _ _
      have left : Flags acc.1 (noteQuality (setAdapter n (some a.depart.adapter) (spanEndOf n acc.1)) tag) :=
        (ended.trans (flags_setAdapter ..)).trans (flags_noteQuality (setAdapter n (some a.depart.adapter) (spanEndOf n acc.1)) tag)
      dsimp only
      split
      · exact left
      · exact left.trans (flags_spanEnd n _)
    · exact ended

/-- The departure of a source whose fields differ from its snapshot flags its item (R126). -/
theorem departing_flags {it : Item SourceReport} (hr : visibleSource s.store tag = some r)
    (mem : (tag, it) ∈ s.report.sources) (differs : sourceReport s.carriers.ports r ≠ it.snap) :
    (tag, { it with flag := true }) ∈ (departing n a tag s).report.sources := by
  have hr' : visibleSource (setAdapter n (some a.depart.adapter) s).store tag = some r := hr
  unfold departing
  rw [noteQuality_eq hr']
  refine List.mem_map.mpr ⟨(tag, it), mem, ?_⟩
  dsimp only
  rw [decide_eq_true rfl, decide_eq_true (show sourceReport (setAdapter n (some a.depart.adapter) s).carriers.ports r ≠ it.snap from differs),
    Bool.and_true, Bool.or_true]

theorem sourceReport_begun (s : State) (r : Source) :
    sourceReport (beginFrame s).carriers.ports r = sourceReport s.carriers.ports r := by
  unfold sourceReport
  rw [sourceQuality_begun]

/-- The item of a source after the departures of a boundary (R126). -/
theorem departed_flags {it : Item SourceReport} (owner : OwnerLaw s) (hr : visibleSource s.store tag = some r)
    (held : r.adapter = some n) (ha : s.store.pool[n] = some a) (settled : a.ended = none) (mem : (tag, it) ∈ s.report.sources)
    (differs : sourceReport s.carriers.ports r ≠ it.snap) (spans : List (Fin 96)) :
    (tag, { it with flag := true }) ∈ (departed spans s).report.sources := by
  have start : Waits tag r n a (beginFrame s).carriers (beginFrame s) :=
    ⟨Owners.kept_ownerLaw.beginFrame owner, ⟨r, hr, rfl⟩, ha, rfl⟩
  have through := foldl_through (x := tag)
    (A := fun acc : State × List HandOver => Waits tag r n a (beginFrame s).carriers acc.1 ∧
      ∃ b, (tag, { it with flag := it.flag || b }) ∈ acc.1.report.sources)
    (B := fun acc : State × List HandOver => (tag, { it with flag := true }) ∈ acc.1.report.sources)
    (step := departSource spans) (fun acc other ne h => ⟨waits_departSource held ne h.1, ?_⟩) (fun acc h => ?_)
    (fun acc other h => (flags_departSource spans acc other).source (it := { it with flag := true }) h rfl) _
    (List.mem_map.mpr ⟨r, (visibleSource_some hr).1, (visibleSource_some hr).2.1⟩)
    (beginFrame s, []) ⟨start, false, by rw [unflagged]; exact mem⟩
  · exact (flags_noted _ _).source through rfl
  · obtain ⟨b, here⟩ := h.2
    obtain ⟨c, here⟩ := (flags_departSource spans acc other).sources tag _ here
    exact ⟨b || c, by rwa [← Bool.or_assoc]⟩
  · obtain ⟨waits, b, here⟩ := h
    obtain ⟨q, hq, alike⟩ := waits.stands
    have report : sourceReport acc.1.carriers.ports q = sourceReport s.carriers.ports r := by
      rw [waits.carriers]
      exact (alike_unnumbered (g := sourceReport (beginFrame s).carriers.ports) (by intro; rfl) alike).trans (sourceReport_begun s r)
    have flagged := departing_flags (n := n) (a := a) hq here (report ▸ differs)
    rw [departSource_here hq ((adapter_unnumbered alike).trans held) waits.adapter settled]
    dsimp only
    split
    · exact flagged
    · exact (flags_spanEnd n _).source flagged rfl

theorem flags_frameBody (groups : List Group) (d : State) : Flags d (frameBody groups d) := by
  unfold frameBody
  dsimp only
  have sent : (loopbackFrame (sendLane groups d)).report = d.report := by
    unfold loopbackFrame sendLane
    dsimp only
    split <;> rfl
  refine (Flags.of_report sent).trans ((Flags.event (.of_report ?_)).trans (Flags.event (flags_view (viewHeader_onlyView ..))))
  exact (congrArg State.report (Frames.readAndDeliver_eq (loopbackFrame (sendLane groups d)))).trans rfl

theorem flags_wtr (b : State) : Flags b (takeWork b .wtr) := by
  unfold takeWork takeDue
  rw [if_neg nofun]
  split
  · refine Flags.trans (t := { b with tx := { b.tx with due := b.tx.due.filter (· ≠ .wtr) } }) (.of_report rfl) ?_
    exact Flags.event (.of_report rfl)
  · exact .of_report rfl

/-- What a boundary flagged stays flagged. -/
theorem flags_boundary (plain : PlainBoundary f s) (h : exec (.ownFrameStart [] spans) s = .next t) : Flags (departed spans s) t := by
  have body := flags_frameBody (sentGroups spans s) (departed spans s)
  rw [← framed_def] at body
  generalize hb : framed spans s = b at body
  by_cases alone : f ≠ 0
  · rw [exec_plain_alone plain (.inr alone), hb] at h
    obtain rfl := Host.Outcome.next.inj h
    exact body.trans (flags_finish s b)
  · obtain rfl := not_not.mp alone
    rw [exec_plain_wtr plain, hb] at h
    obtain rfl := Host.Outcome.next.inj h
    exact (body.trans (flags_wtr b)).trans (flags_finish s _)

/-! ### A header's taking -/

theorem flags_exitAligned (l : Fin 9) (s : State) : Flags s (exitAligned l s) := by
  unfold exitAligned
  exact (Flags.event (flags_store (exitSelector_onlyStore ..))).trans ((Flags.event (flags_view (viewExit_onlyView ..))).trans
    (Flags.event (flags_timing (timingExit_onlyTiming ..))))

/-- What the taking of a header's fields flagged stays flagged. -/
theorem flags_passHeader (l : Fin 9) (h : Heard) (slots : List Slot) (e : Bool) (s : State) :
    Flags (event (viewHeader l h slots e) s) (passHeader l h slots e s) := by
  have timed : Flags (event (viewHeader l h slots e) s) (event (timingHeader l) (event (viewHeader l h slots e) s)) :=
    Flags.event (flags_timing (timingHeader_onlyTiming ..))
  refine timed.trans (.of_report ?_)
  unfold passHeader lightingHeader
  split <;> rfl

/-- Settles O60. -/
theorem eventsSetFlagsAndAttention : Obligations.EventsSetFlagsAndAttention := by
  refine ⟨fun s t u running hu => ?_, fun s t cold => finish_cold cold s, fun c s t h => ?_, fun s t => attentionLaw_step,
    fun s r hr => noteQuality_eq hr, fun spans f s t r n a it plain _ owner hr held ha settled mem differs h => ?_,
    fun s t u running hu => finish_of_noted running hu,
    fun l words tiles s t h x r flagged running peer hx state good hh hr ht hflagged => ?_⟩
  · obtain ⟨frame, sources, sinks, attn⟩ := finished_report running hu
    refine ⟨frame, fun l => ?_, fun p => ?_, ?_, fun i tag it here => ?_, fun i tag it here => ?_, ?_⟩
    · rw [hu, finish_lane running]
      exact ⟨note_snap .., note_flag ..⟩
    · rw [hu, finish_port running]
      exact ⟨note_snap .., note_flag ..⟩
    · rw [hu, finish_stationItem running]
      exact ⟨note_snap .., note_flag ..⟩
    · obtain ⟨b, made, terms⟩ := noteSink_item s t tag it
      exact ⟨b, by rw [sinks, List.getElem?_map, here, Option.map_some, made], terms⟩
    · obtain ⟨b, made, -, terms⟩ := noteSource_item s t tag it
      exact ⟨b, by rw [sources, List.getElem?_map, here, Option.map_some, made], terms⟩
    · rw [attn]
      exact attnLevel_iff running u.report
  · obtain ⟨v, hv, finished⟩ := exec_finished c s
    obtain rfl := Host.Outcome.next.inj (h.symm.trans hv)
    exact finished.again
  · exact (flags_boundary plain h).source (departed_flags owner hr held ha settled mem differs spans) rfl
  · subst hh
    have heard : r = s.view[l].header (heardOf words) (slotsOf words) (epochChanged x.heard (heardOf words).epoch) := by
      rw [hr]
      cases x.heard <;> rfl
    have taken : t = setLane l (goodHeader (heardOf words) tiles x) s := ht
    have viewed : (event (viewHeader l (heardOf words) (slotsOf words) (epochChanged x.heard (heardOf words).epoch)) t).report =
        flagged := by
      have step : viewHeader l (heardOf words) (slotsOf words) (epochChanged x.heard (heardOf words).epoch) t = setView l r.1 r.2 t := by
        rw [heard, taken]
        rfl
      have runs : (setView l r.1 r.2 t).station.state ≠ .cold := by
        rw [setView_onlyView, taken]
        exact running
      unfold event
      rw [step, hflagged]
      unfold noted
      rw [if_neg runs]
    have passed := flags_passHeader l (heardOf words) (slotsOf words) (epochChanged x.heard (heardOf words).epoch) t
    have whole : Flags (event (viewHeader l (heardOf words) (slotsOf words) (epochChanged x.heard (heardOf words).epoch)) t)
        (finish s (laneHeader l words tiles s)) := by
      rw [laneHeader_aligned good hx state]
      refine Flags.trans ?_ (flags_finish s _)
      by_cases named : (heardOf words).station = l.val
      · rw [alignedHeader_named named, ← taken]
        exact passed
      · rw [alignedHeader_elsewhere named, ← taken]
        exact passed.trans ((flags_setLane ..).trans (flags_exitAligned l _))
    rw [← viewed]
    exact ⟨_, header_received running peer, fun tag it mem flag => whole.source mem flag, fun tag it mem flag => whole.sink mem flag⟩

end Sys2Proof.Flagging
end

section
/-! PROOFS. What the items hold moves nothing else: two states apart from their reports stay so (R68, R183). -/

namespace Sys2Proof.Apart

open Sys2Proof.Machine Sys2Proof.Safety Sys2Proof.Notices Sys2Proof.Rejudgement Sys2Proof.Boundary Sys2Proof.Frames Sys2Proof.Works

variable {s t u v s' t' : State} {tag : Nat} {n : Fin 96}

/-- Two states that differ in their reports at most. -/
def Blind (s t : State) : Prop := ∃ r, t = { s with report := r }

theorem Blind.refl (s : State) : Blind s s := ⟨s.report, rfl⟩

theorem Blind.trans (h : Blind s t) (g : Blind t u) : Blind s u := by
  obtain ⟨r, rfl⟩ := h
  obtain ⟨q, rfl⟩ := g
  exact ⟨q, rfl⟩

theorem Blind.symm (h : Blind s t) : Blind t s := by
  obtain ⟨r, rfl⟩ := h
  exact ⟨s.report, rfl⟩

theorem Blind.eq (h : Blind s t) : t = { s with report := t.report } := by
  obtain ⟨r, rfl⟩ := h
  rfl

theorem Blind.store (h : Blind s t) : t.store = s.store := by
  obtain ⟨r, rfl⟩ := h
  rfl

theorem Blind.tx (h : Blind s t) : t.tx = s.tx := by
  obtain ⟨r, rfl⟩ := h
  rfl

theorem Blind.seen (h : Blind s t) : SeenAlike s t := by
  obtain ⟨r, rfl⟩ := h
  exact ⟨rfl, rfl, fun _ => rfl, rfl⟩

theorem Blind.timed (h : Blind s t) : TimedAlike s t := by
  obtain ⟨r, rfl⟩ := h
  exact ⟨rfl, rfl, rfl⟩

theorem blind_noted (s t : State) : Blind t (noted s t) := ⟨_, noted_report s t⟩

theorem blind_finish (s t : State) : Blind t (finish s t) := ⟨_, finish_report s t⟩

theorem Blind.noted (h : Blind s t) (u v : State) : Blind (noted u s) (noted v t) :=
  ((blind_noted u s).symm.trans h).trans (blind_noted v t)

/-- Steps that write the order store alone. -/
theorem Blind.onlyStore (h : Blind s t) (fs : OnlyStore s s') (ft : OnlyStore t t') (same : t'.store = s'.store) : Blind s' t' := by
  obtain ⟨r, rfl⟩ := h
  unfold OnlyStore at fs ft
  refine ⟨r, ?_⟩
  rw [ft, fs, same]

theorem Blind.onlyTiming (h : Blind s t) (fs : OnlyTiming s s') (ft : OnlyTiming t t') (same : t'.timing = s'.timing) :
    Blind s' t' := by
  obtain ⟨r, rfl⟩ := h
  unfold OnlyTiming at fs ft
  refine ⟨r, ?_⟩
  rw [ft, fs, same]

theorem Blind.onlyView (h : Blind s t) (fs : OnlyView s s') (ft : OnlyView t t') (store : t'.store = s'.store)
    (view : t'.view = s'.view) : Blind s' t' := by
  obtain ⟨r, rfl⟩ := h
  unfold OnlyView at fs ft
  refine ⟨r, ?_⟩
  rw [ft, fs, store, view]

/-! ### Departures -/

theorem Blind.setAdapter (h : Blind s t) (n : Fin 96) (o : Option Adapter) : Blind (setAdapter n o s) (setAdapter n o t) := by
  obtain ⟨r, rfl⟩ := h
  exact ⟨r, rfl⟩

theorem Blind.evalSource (h : Blind s t) (tag : Nat) : Blind (evalSource tag s) (evalSource tag t) := by
  have placed : PlacedAlike s.store.sinks s t := ⟨h.store, h.seen.view⟩
  have sinks : (Machine.evalSource tag s).store.sinks = s.store.sinks := by
    have only := Tables.onlySources_evalSource tag s
    unfold Tables.OnlySources at only
    rw [only]
  refine h.onlyStore (evalSource_onlyStore ..) (evalSource_onlyStore ..) ((placed.evalSource tag).1.trans ?_)
  rw [← sinks]

theorem Blind.healthOf (h : Blind s t) (a : Adapter) (d : Detections) : Blind (healthOf a d s) (healthOf a d t) := by
  have source : Blind (healthSource a.tag d s) (healthSource a.tag d t) := by
    unfold healthSource
    rw [h.store]
    split
    · exact h
    · have marked : Blind (updateSource a.tag (fun r =>
          { r with faultCount := nextFaultCount d r.faultCount, latch := r.latch || latches d r }) s) (updateSource a.tag (fun r =>
          { r with faultCount := nextFaultCount d r.faultCount, latch := r.latch || latches d r }) t) := by
        obtain ⟨r, rfl⟩ := h
        exact ⟨r, rfl⟩
      dsimp only
      split
      · exact marked.evalSource _
      · exact marked
  unfold Machine.healthOf
  split
  · obtain ⟨r, rfl⟩ := h
    exact ⟨r, rfl⟩
  · exact source

theorem Blind.spanEndOf (h : Blind s t) (n : Fin 96) : Blind (spanEndOf n s) (spanEndOf n t) := by
  unfold Machine.spanEndOf
  rw [h.store]
  rcases s.store.pool[n] with _ | a
  · exact h
  · dsimp only
    rcases a.ended with _ | e
    · exact h
    · exact ((h.setAdapter n (some (a.endSpan e))).healthOf a (a.outcome e)).noted s t

theorem blind_noteQuality (s : State) (tag : Nat) : Blind s (noteQuality s tag) := by
  unfold noteQuality
  split
  · exact .refl s
  · exact ⟨_, rfl⟩

theorem Blind.noteQuality (h : Blind s t) (tag : Nat) : Blind (noteQuality s tag) (noteQuality t tag) :=
  ((blind_noteQuality s tag).symm.trans h).trans (blind_noteQuality t tag)

theorem Blind.carriers (h : Blind s t) : t.carriers = s.carriers := by
  obtain ⟨r, rfl⟩ := h
  rfl

/-- One departure: the same hand-over. -/
theorem Blind.departSource (h : Blind s t) (spans : List (Fin 96)) (hs : List HandOver) (tag : Nat) :
    Blind (departSource spans (s, hs) tag).1 (departSource spans (t, hs) tag).1 ∧
      (departSource spans (t, hs) tag).2 = (departSource spans (s, hs) tag).2 := by
  unfold Machine.departSource
  dsimp only
  rw [h.store]
  rcases (visibleSource s.store tag).bind (·.adapter) with _ | n
  · exact ⟨h, rfl⟩
  · have ended := h.spanEndOf n
    dsimp only
    rw [ended.store]
    rcases (Machine.spanEndOf n s).store.pool[n] with _ | a
    · exact ⟨ended, rfl⟩
    · rcases visibleSource (Machine.spanEndOf n s).store tag with _ | r
      · exact ⟨ended, rfl⟩
      · have left := (ended.setAdapter n (some a.depart.adapter)).noteQuality tag
        dsimp only
        refine ⟨?_, by rw [left.carriers]⟩
        split
        · exact left
        · exact left.spanEndOf n

theorem Blind.sourceDepartures (h : Blind s t) (spans : List (Fin 96)) :
    Blind (sourceDepartures spans s).1 (sourceDepartures spans t).1 ∧ (sourceDepartures spans t).2 = (sourceDepartures spans s).2 := by
  have all : ∀ (tags : List Nat) (u v : State) (hs : List HandOver), Blind u v →
      Blind (tags.foldl (Machine.departSource spans) (u, hs)).1 (tags.foldl (Machine.departSource spans) (v, hs)).1 ∧
        (tags.foldl (Machine.departSource spans) (v, hs)).2 = (tags.foldl (Machine.departSource spans) (u, hs)).2 := by
    intro tags
    induction tags with
    | nil => exact fun u v hs same => ⟨same, rfl⟩
    | cons tag tags ih =>
      intro u v hs same
      obtain ⟨state, handed⟩ := same.departSource spans hs tag
      have split : Machine.departSource spans (v, hs) tag =
        ((Machine.departSource spans (v, hs) tag).1, (Machine.departSource spans (u, hs) tag).2) := Prod.ext rfl handed
      rw [List.foldl_cons, List.foldl_cons, split]
      exact ih _ _ _ state
  unfold Machine.sourceDepartures
  rw [h.store]
  exact all _ s t [] h

theorem Blind.beginFrame (h : Blind s t) : Blind (beginFrame s) (beginFrame t) := by
  obtain ⟨r, rfl⟩ := h
  exact ⟨r, rfl⟩

theorem Blind.departed (h : Blind s t) (spans : List (Fin 96)) : Blind (departed spans s) (departed spans t) :=
  (h.beginFrame.sourceDepartures spans).1.noted _ _

/-! ### The frame -/

theorem Blind.deliver (h : Blind s t) (e : Sink × Option (Quality × List Block)) : Blind (deliver s e) (deliver t e) := by
  have marked : Blind (updateSink e.1.tag (·.afterRead e.2) s) (updateSink e.1.tag (·.afterRead e.2) t) := by
    obtain ⟨r, rfl⟩ := h
    exact ⟨r, rfl⟩
  have arrived : ∀ (n : Fin 96) (blocks : List Block) {u v : State}, Blind u v → Blind (arriveAt n blocks u) (arriveAt n blocks v) := by
    intro n blocks u v same
    unfold arriveAt
    rw [same.store]
    rcases u.store.pool[n] with _ | a
    · exact same
    · exact same.setAdapter _ _
  unfold Machine.deliver
  dsimp only
  split
  · exact arrived _ _ marked
  · exact marked

theorem Blind.readAndDeliver (h : Blind s t) : Blind (readAndDeliver s) (readAndDeliver t) := by
  have all : ∀ (es : List (Sink × Option (Quality × List Block))) (u v : State), Blind u v →
      Blind (es.foldl Machine.deliver u) (es.foldl Machine.deliver v) := by
    intro es
    induction es with
    | nil => exact fun u v same => same
    | cons e es ih => exact fun u v same => ih _ _ (same.deliver e)
  have delivered := all (reads s) s t h
  have same : reads t = reads s := by
    obtain ⟨r, rfl⟩ := h
    rfl
  have clients : clientsStart t = clientsStart s := by
    obtain ⟨r, rfl⟩ := h
    rfl
  have carriers : carriersSent t = carriersSent s := by
    obtain ⟨r, rfl⟩ := h
    rfl
  rw [readAndDeliver_eq s, readAndDeliver_eq t, same, clients, carriers, delivered.store]
  obtain ⟨r, rfl⟩ := h
  exact ⟨r, rfl⟩

theorem Blind.sendLane (h : Blind s t) (groups : List Group) : Blind (sendLane groups s) (sendLane groups t) := by
  obtain ⟨r, rfl⟩ := h
  unfold Machine.sendLane
  dsimp only
  split <;> exact ⟨r, rfl⟩

theorem Blind.loopbackFrame (h : Blind s t) : Blind (loopbackFrame s) (loopbackFrame t) := by
  obtain ⟨r, rfl⟩ := h
  unfold Machine.loopbackFrame
  dsimp only
  split <;> exact ⟨r, rfl⟩

theorem Blind.loopbackHeader (h : Blind s t) (old : Option Heard) : Blind (loopbackHeader old s) (loopbackHeader old t) := by
  have view := h.seen.view
  have alike : Machine.loopbackHeader old t = setView s.station.number
      (s.view[s.station.number].header (ownHeard s) (fragmentSlots s.tx.snapshot s.tx.frame) (epochChanged old s.station.epoch)).1
      (s.view[s.station.number].header (ownHeard s) (fragmentSlots s.tx.snapshot s.tx.frame) (epochChanged old s.station.epoch)).2
      t := by
    obtain ⟨r, rfl⟩ := h
    rfl
  have seen := h.seen.setView s.station.number
    (s.view[s.station.number].header (ownHeard s) (fragmentSlots s.tx.snapshot s.tx.frame) (epochChanged old s.station.epoch)).1
    (s.view[s.station.number].header (ownHeard s) (fragmentSlots s.tx.snapshot s.tx.frame) (epochChanged old s.station.epoch)).2
  rw [alike]
  exact h.onlyView (setView_onlyView ..) (setView_onlyView ..) seen.store seen.view

theorem Blind.frameBody (h : Blind s t) (groups : List Group) : Blind (frameBody groups s) (frameBody groups t) := by
  have old : t.lanes[t.station.number].heard = s.lanes[s.station.number].heard := by
    obtain ⟨r, rfl⟩ := h
    rfl
  unfold Machine.frameBody
  dsimp only
  rw [old]
  exact ((((h.sendLane groups).loopbackFrame.readAndDeliver.noted _ _).loopbackHeader _).noted _ _)

/-! ### The works of a round start -/

theorem Blind.timingWork (h : Blind s t) : Blind (timingWork s) (timingWork t) := by
  have counted : TimedAlike (countLanes s) (countLanes t) := by
    obtain ⟨r, rfl⟩ := h
    exact ⟨rfl, rfl, rfl⟩
  have lanes : TimedAlike (judgeLanes (countLanes s)) (judgeLanes (countLanes t)) := by
    have all : ∀ (ls : List (Fin 9)) (u v : State), TimedAlike u v →
        TimedAlike (ls.foldl (fun s l => judgeLane l s) u) (ls.foldl (fun s l => judgeLane l s) v) := by
      intro ls
      induction ls with
      | nil => exact fun u v same => same
      | cons l ls ih => exact fun u v same => ih _ _ (same.judgeLane l)
    exact all _ _ _ counted
  refine h.onlyTiming (timingWork_onlyTiming s) (timingWork_onlyTiming t) ?_
  exact congrArg ageStep lanes.reselect.timing

theorem Blind.claimWork (h : Blind s t) : Blind (claimWork s) (claimWork t) := by
  obtain ⟨r, rfl⟩ := h
  unfold Machine.claimWork
  dsimp only
  split <;> exact ⟨r, rfl⟩

/-- A work that is neither the pass nor its snapshot. -/
theorem Blind.roundWork (h : Blind s t) {w : RoundWork} (pass : w ≠ .pass) (snapshot : w ≠ .snapshot) :
    Blind (roundWork w s) (roundWork w t) := by
  cases w with
  | pass => exact absurd rfl pass
  | snapshot => exact absurd rfl snapshot
  | timing => exact h.timingWork
  | wtr | degraded =>
    obtain ⟨r, rfl⟩ := h
    exact ⟨r, rfl⟩
  | claim => exact h.claimWork
  | lighting =>
    have first : Blind (lightingFirst s) (lightingFirst t) := by
      obtain ⟨r, rfl⟩ := h
      exact ⟨r, rfl⟩
    exact first.claimWork
  | join =>
    obtain ⟨r, rfl⟩ := h
    change Blind (joinWork s) (joinWork { s with report := r })
    unfold joinWork
    split <;> exact ⟨r, rfl⟩

theorem Blind.takeWork (h : Blind s t) {w : RoundWork} (pass : w ≠ .pass) (snapshot : w ≠ .snapshot) :
    Blind (takeWork s w) (takeWork t w) := by
  by_cases due : w ∈ s.tx.due
  · have due' : w ∈ t.tx.due := h.tx ▸ due
    have left : Blind (leaving (s.tx.due.filter (· ≠ w)) s) (leaving (t.tx.due.filter (· ≠ w)) t) := by
      obtain ⟨r, rfl⟩ := h
      exact ⟨r, rfl⟩
    rw [takeWork_due snapshot due, takeWork_due snapshot due']
    exact (left.roundWork pass snapshot).noted _ _
  · rw [takeWork_idle snapshot due, takeWork_idle snapshot (h.tx ▸ due)]
    exact h

theorem Blind.takeWorks (h : Blind s t) (ws : List RoundWork) (others : ∀ w ∈ ws, w ≠ .pass ∧ w ≠ .snapshot) :
    Blind (ws.foldl Machine.takeWork s) (ws.foldl Machine.takeWork t) := by
  induction ws generalizing s t with
  | nil => exact h
  | cons w ws ih =>
    obtain ⟨pass, snapshot⟩ := others w List.mem_cons_self
    exact ih (h.takeWork pass snapshot) fun x hx => others x (List.mem_cons_of_mem _ hx)

end Sys2Proof.Apart
end

section
/-! PROOFS. The round start: the works it posts, the order in which they are taken, and the frame with them (O43). -/

namespace Sys2Proof.Round

open Sys2Proof.Machine Sys2Proof.Safety Sys2Proof.Notices Sys2Proof.Boundary Sys2Proof.Frames Sys2Proof.Works Sys2Proof.Apart

variable {s t u : State} {w : RoundWork} {leave : List RoundWork} {spans : List (Fin 96)}

/-! ### The works that are due -/

/-- What a work of a round start leaves of the frame in progress, and that the engine runs on. -/
structure RunsOn (s t : State) : Prop where
  boundary : t.tx.boundary = s.tx.boundary
  running : s.station.state ≠ .cold → t.station.state ≠ .cold

theorem RunsOn.trans (h : RunsOn s t) (g : RunsOn t u) : RunsOn s u :=
  ⟨g.boundary.trans h.boundary, fun running => g.running (h.running running)⟩

theorem RunsOn.of_eq (tx : t.tx.boundary = s.tx.boundary) (station : t.station = s.station) : RunsOn s t :=
  ⟨tx, fun running => station ▸ running⟩

theorem joinWork_runs (s : State) : (joinWork s).tx = s.tx ∧ RunsOn s (joinWork s) := by
  by_cases listen : s.station.state = .listen
  · rw [joinWork_listen listen]
    refine ⟨rfl, rfl, fun _ => ?_⟩
    dsimp only
    split
    · exact nofun
    · exact nofun
  · rw [joinWork_elsewhere listen]
    exact ⟨rfl, rfl, id⟩

theorem roundWork_runs (w : RoundWork) (s : State) : (roundWork w s).tx.due = s.tx.due ∧ RunsOn s (roundWork w s) := by
  cases w with
  | pass =>
    have only := placementPass_onlyStore s
    change (placementPass s).tx.due = _ ∧ RunsOn s (placementPass s)
    rw [only]
    exact ⟨rfl, .of_eq rfl rfl⟩
  | timing =>
    have only := timingWork_onlyTiming s
    change (timingWork s).tx.due = _ ∧ RunsOn s (timingWork s)
    rw [only]
    exact ⟨rfl, .of_eq rfl rfl⟩
  | snapshot | wtr | degraded => exact ⟨rfl, .of_eq rfl rfl⟩
  | join => exact ⟨congrArg Transmitter.due (joinWork_runs s).1, (joinWork_runs s).2⟩
  | claim =>
    change (claimWork s).tx.due = _ ∧ RunsOn s (claimWork s)
    rw [Walk.claimWork_carriers]
    exact ⟨rfl, .of_eq rfl rfl⟩
  | lighting =>
    change (claimWork (lightingFirst s)).tx.due = _ ∧ RunsOn s (claimWork (lightingFirst s))
    rw [Walk.claimWork_carriers]
    exact ⟨rfl, .of_eq rfl rfl⟩

theorem takeDue_runs (w : RoundWork) (s : State) : (takeDue w s).tx.due = s.tx.due.filter (· ≠ w) ∧ RunsOn s (takeDue w s) := by
  by_cases due : w ∈ s.tx.due
  · obtain ⟨kept, runs⟩ := roundWork_runs w (leaving (s.tx.due.filter (· ≠ w)) s)
    rw [takeDue_due due]
    unfold event
    refine ⟨?_, RunsOn.trans (t := roundWork w (leaving (s.tx.due.filter (· ≠ w)) s)) ⟨runs.boundary, runs.running⟩
      (.of_eq (congrArg Transmitter.boundary (noted_tx _ _)) (noted_station _ _))⟩
    rw [noted_tx]
    exact kept
  · rw [takeDue_idle due]
    exact ⟨(List.filter_eq_self.mpr fun x hx => decide_eq_true (ne_of_mem_of_not_mem hx due)).symm, rfl, id⟩

/-- The works that are left when those of `ws` are taken: the snapshot takes the pass with it (R68). -/
def leftOf (ws due : List RoundWork) : List RoundWork := due.filter fun x => x ∉ ws ∧ (x = .pass → .snapshot ∉ ws)

theorem leftOf_pair (due : List RoundWork) : (due.filter (· ≠ .pass)).filter (· ≠ .snapshot) = leftOf [.snapshot] due := by
  unfold leftOf
  rw [List.filter_filter]
  refine List.filter_congr fun x _ => ?_
  cases x <;> rfl

theorem leftOf_one (other : w ≠ .snapshot) (due : List RoundWork) : due.filter (· ≠ w) = leftOf [w] due := by
  unfold leftOf
  refine List.filter_congr fun x _ => ?_
  simp [other.symm]

theorem leftOf_cons (w : RoundWork) (ws due : List RoundWork) : leftOf ws (leftOf [w] due) = leftOf (w :: ws) due := by
  unfold leftOf
  rw [List.filter_filter]
  refine List.filter_congr fun x _ => ?_
  simp only [List.mem_cons, List.not_mem_nil, or_false, not_or, decide_eq_decide, ← Bool.decide_and]
  tauto

theorem takeWork_snapshot (s : State) : takeWork s .snapshot = takeDue .snapshot (takeDue .pass s) := if_pos rfl

theorem takeWork_runs (s : State) (w : RoundWork) : (takeWork s w).tx.due = leftOf [w] s.tx.due ∧ RunsOn s (takeWork s w) := by
  unfold takeWork
  split
  · rename_i snapshot
    obtain ⟨passed, first⟩ := takeDue_runs .pass s
    obtain ⟨taken, second⟩ := takeDue_runs .snapshot (takeDue .pass s)
    refine ⟨?_, first.trans second⟩
    rw [taken, passed, snapshot, leftOf_pair]
  · rename_i other
    obtain ⟨taken, runs⟩ := takeDue_runs w s
    exact ⟨taken.trans (leftOf_one other _), runs⟩

theorem takeWorks_runs (ws : List RoundWork) (s : State) :
    (ws.foldl takeWork s).tx.due = leftOf ws s.tx.due ∧ RunsOn s (ws.foldl takeWork s) := by
  induction ws generalizing s with
  | nil => exact ⟨(List.filter_eq_self.mpr fun x _ => by simp).symm, rfl, id⟩
  | cons w ws ih =>
    obtain ⟨first, runs⟩ := takeWork_runs s w
    obtain ⟨rest, others⟩ := ih (takeWork s w)
    refine ⟨?_, runs.trans others⟩
    rw [List.foldl_cons, rest, first, leftOf_cons]

/-- The works that `leave` names are left by a boundary, but the pass and the snapshot, which its frame needs. -/
theorem leftOf_unleft (leave due : List RoundWork) :
    leftOf ((due.filter fun x => x ≠ .pass ∧ x ≠ .snapshot).filter (· ∉ leave)) (due.filter fun x => x ≠ .pass ∧ x ≠ .snapshot) =
      due.filter fun x => x ∈ leave ∧ x ≠ .pass ∧ x ≠ .snapshot := by
  unfold leftOf
  rw [List.filter_filter]
  refine List.filter_congr fun x hx => ?_
  simp only [List.mem_filter, hx, ← Bool.decide_and, decide_eq_decide, decide_eq_true_eq]
  tauto

/-! ### The frame with the works of its round start -/

/-- The engine when the own frame's header has been heard back, with the pass and the snapshot of its round start. -/
def sent (leave : List RoundWork) (spans : List (Fin 96)) (s : State) : State :=
  let d := takeWork (departed spans (roundTaken leave s)) .snapshot
  frameBody ((sourceDepartures spans (beginFrame (roundTaken leave s))).2.filterMap (·.group d.store)) d

theorem frameStart_sent (leave : List RoundWork) (spans : List (Fin 96)) (s : State) : frameStart leave spans s =
    ((sent leave spans s).tx.due.filter (· ∉ leave)).foldl takeWork (sent leave spans s) := by
  rw [frameStart_eq]
  unfold frameFrom sent
  dsimp only

theorem frameBody_tx (groups : List Group) (d : State) : (frameBody groups d).tx = { d.tx with snapshot := snapshotSent d } := by
  rw [frameBody_eq]
  exact readOut_tx groups d

/-- Where the round start has come before its boundary, the pass alone is taken before the frame. -/
theorem roundTaken_begun (begun : s.tx.boundary = true) (leave : List RoundWork) :
    roundTaken leave s = if .pass ∈ leave then s else takeWork s .pass := by
  have within : ¬ (s.tx.frame = 15 ∧ s.tx.boundary = false) := fun both => Bool.false_ne_true (both.2.symm.trans begun)
  unfold roundTaken
  dsimp only
  rw [if_pos begun, if_neg within]

/-- A frame whose snapshot leaves no work due ends the command. -/
theorem frameStart_last {x q : State} (taken : roundTaken leave s = x) (snapped : takeWork (departed spans x) .snapshot = q)
    (none : q.tx.due = []) : frameStart leave spans s =
      frameBody ((sourceDepartures spans (beginFrame x)).2.filterMap (·.group q.store)) q := by
  have idle (groups : List Group) : (frameBody groups q).tx.due = [] := by
    rw [frameBody_tx]
    exact none
  have frame : sent leave spans s = frameBody ((sourceDepartures spans (beginFrame x)).2.filterMap (·.group q.store)) q := by
    unfold sent
    rw [taken, snapped]
  rw [frameStart_sent, frame, idle]
  rfl

/-- The snapshot after its pass: nothing that an item reports changes. -/
theorem takeDue_snapshot {e : State} (due : e.tx.due = [.snapshot]) : takeDue .snapshot e = takeSnapshot (leaving [] e) := by
  rw [takeDue_due (by rw [due]; decide), due]
  exact Pass.noted_snapshot _

/-- At the boundary of a round start that has come, the frame leaves every work due but the pass and the snapshot. -/
theorem sent_tx (begun : s.tx.boundary = true) (leave : List RoundWork) (spans : List (Fin 96)) :
    (sent leave spans s).tx.due = s.tx.due.filter (fun x => x ≠ .pass ∧ x ≠ .snapshot) ∧
      (sent leave spans s).tx.boundary = false := by
  have taken : ∃ x, roundTaken leave s = x ∧ (x.tx.due = s.tx.due ∨ x.tx.due = leftOf [.pass] s.tx.due) := by
    refine ⟨_, rfl, ?_⟩
    rw [roundTaken_begun begun]
    split
    · exact .inl rfl
    · exact .inr (takeWork_runs s .pass).1
  obtain ⟨x, hx, due⟩ := taken
  have before : (departed spans x).tx.due = x.tx.due ∧ (departed spans x).tx.boundary = false := by
    rw [departed_tx]
    exact ⟨rfl, rfl⟩
  obtain ⟨snapped, runs⟩ := takeWork_runs (departed spans x) .snapshot
  unfold sent
  dsimp only
  rw [frameBody_tx, hx]
  refine ⟨?_, runs.boundary.trans before.2⟩
  dsimp only
  rw [snapped, before.1]
  unfold leftOf at *
  rcases due with due | due
  · rw [due]
    refine List.filter_congr fun x _ => ?_
    cases x <;> rfl
  · rw [due, List.filter_filter]
    refine List.filter_congr fun x _ => ?_
    cases x <;> rfl

/-! ### The round start with its boundary -/

theorem framed_blind (h : Blind s t) (spans : List (Fin 96)) : Blind (framed spans s) (framed spans t) := by
  have groups : sentGroups spans t = sentGroups spans s := by
    unfold sentGroups
    rw [(h.beginFrame.sourceDepartures spans).2, (h.departed spans).store]
  unfold Boundary.framed
  rw [groups]
  exact (h.departed spans).frameBody _

/-- The usual works of a round start leave the WTR step alone due. -/
theorem roundStart_usual (running : s.station.state ≠ .cold) (last : s.tx.frame = 15) (before : s.tx.boundary = false)
    (idle : s.tx.due = []) : (roundStart usualOrder s).tx.due = [.wtr] ∧ (roundStart usualOrder s).tx.boundary = true ∧
      (roundStart usualOrder s).station.state ≠ .cold := by
  obtain ⟨due, runs⟩ := takeWorks_runs usualOrder (begun allWorks s)
  have usual : usualOrder.filter (· ≠ .wtr) = usualOrder := rfl
  rw [roundStart_eq running last before idle, usual]
  exact ⟨due.trans rfl, runs.boundary, runs.running running⟩

/-- A boundary that comes alone at the end of frame 15 takes the round start with it. -/
theorem frameStart_alone (running : s.station.state ≠ .cold) (last : s.tx.frame = 15) (before : s.tx.boundary = false)
    (idle : s.tx.due = []) (spans : List (Fin 96)) :
    frameStart [] spans s = [RoundWork.wtr].foldl takeWork (framed spans (roundStart usualOrder s)) := by
  obtain ⟨due, begun, -⟩ := roundStart_usual running last before idle
  have taken : roundTaken [] s = roundTaken [] (roundStart usualOrder s) := by
    rw [roundTaken_quiet (s := roundStart usualOrder s) (.inl begun) (by rw [due]; decide)]
    have order : boundaryOrder [] = usualOrder := by decide
    have none : (if s.tx.boundary then s else s.tx.due.foldl takeWork s) = s := by
      rw [idle]
      exact ite_self _
    unfold roundTaken
    dsimp only
    rw [none, order, if_pos (And.intro last before), if_neg List.not_mem_nil]
    exact takeWork_idle nofun (by rw [due]; decide)
  rw [frameStart_sent]
  have same : sent [] spans s = sent [] spans (roundStart usualOrder s) := by
    unfold sent
    rw [taken]
  rw [same, ← frameStart_sent, frameStart_framed (.inl begun) (by rw [due]; decide) (by rw [due]; decide), framed_due, due]
  rfl

/-- The round start, then its boundary: the same as the boundary that comes alone, but for what is flagged in between. -/
theorem boundary_after_roundStart (running : s.station.state ≠ .cold) (last : s.tx.frame = 15) (before : s.tx.boundary = false)
    (idle : s.tx.due = []) (spans : List (Fin 96)) : ∃ u v t, exec (.ownRoundStart usualOrder) s = .next u ∧
      exec (.ownFrameStart [] spans) u = .next v ∧ exec (.ownFrameStart [] spans) s = .next t ∧ Blind v t := by
  obtain ⟨due, begun, runs⟩ := roundStart_usual running last before idle
  have ended := blind_finish s (roundStart usualOrder s)
  have boundary : (finish s (roundStart usualOrder s)).tx.boundary = true := by rw [finish_tx]; exact begun
  have left : (finish s (roundStart usualOrder s)).tx.due = [.wtr] := by rw [finish_tx]; exact due
  have frame : frameStart [] spans (finish s (roundStart usualOrder s)) =
      [RoundWork.wtr].foldl takeWork (framed spans (finish s (roundStart usualOrder s))) := by
    rw [frameStart_framed (.inl boundary) (by rw [left]; decide) (by rw [left]; decide), framed_due, left]
    rfl
  have apart := (framed_blind ended.symm spans).takeWorks [.wtr] (by decide)
  rw [← frameStart_alone running last before idle spans, ← frame] at apart
  exact ⟨finish s (roundStart usualOrder s), _, _, rfl, exec_ownFrameStart (by rw [finish_station]; exact runs) [] spans,
    exec_ownFrameStart running [] spans, ((blind_finish _ _).symm.trans apart).trans (blind_finish _ _)⟩

/-- The works that the boundary takes are taken after its frame. -/
theorem works_after_frame (running : s.station.state ≠ .cold) (begun : s.tx.boundary = true) (unleft : RoundWork.pass ∉ leave)
    (spans : List (Fin 96)) : ∃ u t, exec (.ownFrameStart [.wtr, .timing, .join, .lighting, .claim, .degraded] spans) s = .next u ∧
      exec (.ownFrameStart leave spans) s = .next t ∧
        Blind ((s.tx.due.filter fun w => w ∉ leave ∧ w ≠ .pass ∧ w ≠ .snapshot).foldl takeWork u) t := by
  have same : sent leave spans s = sent [.wtr, .timing, .join, .lighting, .claim, .degraded] spans s := by
    unfold sent
    rw [roundTaken_begun begun, roundTaken_begun begun, if_neg unleft, if_neg (by decide)]
  obtain ⟨due, -⟩ := sent_tx begun leave spans
  have others : (sent leave spans s).tx.due.filter (· ∉ leave) =
      s.tx.due.filter fun w => w ∉ leave ∧ w ≠ .pass ∧ w ≠ .snapshot := by
    rw [due, List.filter_filter]
    exact List.filter_congr fun x _ => (Bool.decide_and _ _).symm
  have none : (sent leave spans s).tx.due.filter (· ∉ [RoundWork.wtr, .timing, .join, .lighting, .claim, .degraded]) = [] := by
    rw [due, List.filter_filter]
    refine List.filter_eq_nil_iff.mpr fun x _ => ?_
    cases x <;> decide
  refine ⟨_, _, exec_ownFrameStart running _ spans, exec_ownFrameStart running leave spans, ?_⟩
  rw [frameStart_sent, frameStart_sent, ← same, none, others, List.foldl_nil]
  have apart := (blind_finish s (sent leave spans s)).symm.takeWorks
    (s.tx.due.filter fun w => w ∉ leave ∧ w ≠ .pass ∧ w ≠ .snapshot) fun x hx => (of_decide_eq_true (List.mem_filter.mp hx).2).2
  exact apart.trans (blind_finish _ _)

/-- Pass and snapshot with the boundary: the pass before the departures, the snapshot after them (R68, R76). -/
theorem frameStart_passFirst {p q : State} (begun : s.tx.boundary = true) (due : s.tx.due = [.pass, .snapshot])
    (hp : p = event placementPass (leaving [.snapshot] s)) (hq : q = takeSnapshot (leaving [] (departed spans p))) :
    frameStart [] spans s = frameBody ((sourceDepartures spans (beginFrame p)).2.filterMap (·.group q.store)) q := by
  have taken : roundTaken [] s = p := by
    rw [roundTaken_begun begun, if_neg List.not_mem_nil, takeWork_due (w := .pass) (by decide) (by rw [due]; decide), due, hp]
    rfl
  have left : (departed spans p).tx.due = [.snapshot] := by
    rw [departed_tx, ← taken, roundTaken_begun begun, if_neg List.not_mem_nil]
    refine (takeWork_runs s .pass).1.trans ?_
    rw [due]
    rfl
  have snapped : takeWork (departed spans p) .snapshot = q := by
    rw [takeWork_snapshot, takeDue_idle (w := .pass) (by rw [left]; decide), takeDue_snapshot left, hq]
  exact frameStart_last taken snapped (by rw [hq]; rfl)

/-- The pass left by the boundary follows the departures and their span ends (R76). -/
theorem frameStart_passAfter {p q : State} (begun : s.tx.boundary = true) (due : s.tx.due = [.pass, .snapshot])
    (hp : p = event placementPass (leaving [.snapshot] (departed spans s))) (hq : q = takeSnapshot (leaving [] p)) :
    frameStart [.pass] spans s = frameBody ((sourceDepartures spans (beginFrame s)).2.filterMap (·.group q.store)) q := by
  have both : (departed spans s).tx.due = [.pass, .snapshot] := by
    rw [departed_tx]
    exact due
  have passed : takeDue .pass (departed spans s) = p := by
    rw [takeDue_due (by rw [both]; decide), both, hp]
    rfl
  have left : p.tx.due = [.snapshot] := by
    rw [← passed, (takeDue_runs .pass (departed spans s)).1, both]
    rfl
  have snapped : takeWork (departed spans s) .snapshot = q := by
    rw [takeWork_snapshot, passed, takeDue_snapshot left, hq]
  exact frameStart_last (roundTaken_begun begun [.pass]) snapped (by rw [hq]; rfl)

/-- Settles O43: what is compared in between moves nothing but the flags. -/
theorem roundStartPostsItsWorks : Obligations.RoundStartPostsItsWorks := by
  refine ⟨fun s running last before idle => ⟨?_, ?_⟩, fun order s elsewhere => ?_, fun spans s running last before idle => ?_,
    fun leave spans s running begun => ?_, fun leave spans s running begun unleft => ?_,
    fun spans s p e q d running begun due => ⟨fun hp hd he hq => ?_, fun hd he hp hq => ?_⟩⟩
  · change Host.Outcome.next (finish s (roundStart [] s)) = _
    rw [roundStart_eq running last before idle]
    rfl
  · rw [ownRoundStart_one running last before idle (by decide) (by decide) (by decide)]
    rfl
  · change Host.Outcome.next (finish s (roundStart order s)) = _
    rw [roundStart_elsewhere elsewhere]
  · obtain ⟨u, v, t, round, after, alone, apart⟩ := boundary_after_roundStart running last before idle spans
    exact ⟨u, v, t, round, after, alone, apart.eq⟩
  · obtain ⟨due, boundary⟩ := sent_tx begun leave spans
    obtain ⟨taken, runs⟩ := takeWorks_runs ((sent leave spans s).tx.due.filter (· ∉ leave)) (sent leave spans s)
    refine ⟨_, exec_ownFrameStart running leave spans, ?_, ?_⟩
    · rw [finish_tx, frameStart_sent]
      exact runs.boundary.trans boundary
    · rw [finish_tx, frameStart_sent, taken, due]
      exact leftOf_unleft leave s.tx.due
  · obtain ⟨u, t, left, taken, apart⟩ := works_after_frame running begun unleft spans
    exact ⟨u, t, left, taken, apart.eq⟩
  · subst hd he
    rw [exec_ownFrameStart running, frameStart_passFirst begun due hp hq]
  · subst hd he
    rw [exec_ownFrameStart running, frameStart_passAfter begun due hp hq]

end Sys2Proof.Round
end
